-- ==== Sys2Proof/Word.lean ====
section
/-! DEFINITION. The byte, lists of bytes, and the plainest arithmetic on counters that saturate or wrap. -/

namespace Sys2Proof

/-- One byte of a host buffer, a link packet, a Drawer area or an Attic page. -/
abbrev Byte := BitVec 8

/-- A run of bytes, the byte at the lowest address first. -/
abbrev Bytes := List Byte

/-- `n` held in `w` bits, wrapping. -/
def wrap (w n : Nat) : Nat := n % 2 ^ w

/-- `n` held in `w` bits, saturating at the largest value. -/
def sat (w n : Nat) : Nat := min n (2 ^ w - 1)

/-- `x` limited to the range from `lo` to `hi`. -/
def clampInt (x lo hi : Int) : Int := max lo (min x hi)

end Sys2Proof
end

