-- ==== Sys2Proof/Plan.lean ====
section
/-! DEFINITION. The content of a plan image (02_frame_plans.md, R31 to R62): the header of Table 2-1, the directory, and
the fields that the section tables of the manual name. The byte layout of the sections stands in Caerne's plan-format
schema, which the spec does not carry (R32), so the sections are held field by field. -/

namespace Sys2Proof

/-- One section entry of the directory of Table 2-1. `offset` and `length` count 64-byte units. -/
structure DirEntry where
  kind : Nat
  offset : Nat
  length : Nat
  reserved : Nat
  deriving DecidableEq, Repr, Inhabited

/-- Timing of a port profile (R83, R134). -/
inductive PortTiming where
  | freeRun
  | triggered
  | lineScan
  deriving DecidableEq, Repr, Inhabited

/-- KIND 1: one port profile, of a port or of a bond (Table 2-2, R64, R77, R84, R113, R134, R416). -/
structure PortProfile where
  /-- the member ports in ascending order; the first is the lead port -/
  members : List Nat := []
  timing : PortTiming := .freeRun
  width : Nat := 0
  rows : Nat := 0
  /-- true: monochrome (CFA height 1); false: 2 × 2 CFA (CFA height 2) -/
  mono : Bool := false
  /-- colour of plane p in bits [2p+1:2p] (Table 6-3) -/
  cfaMap : Nat := 0
  gains : Nat := 1
  sampleBits : Nat := 14
  laneCount : Nat := 8
  /-- row of Table 3-2: 0 for 3 GBd, 1 for 6, 2 for 9, 3 for 12 -/
  symbolRate : Nat := 3
  segMin : Nat := 8
  rowPeriod : Nat := 1
  framePeriod : Nat := 1
  vblank : Nat := 0
  latency : Nat := 0
  obRows : Nat := 0
  hSat : Nat := 16383
  expMin : Nat := 0
  expMax : Nat := 0
  gainMin : Nat := 0
  gainMax : Nat := 0
  expCold : Nat := 0
  gainCold : Nat := 0
  wbCold : List Nat := [16384, 16384, 16384]
  rawDeltaCold : Nat := 0
  stageCold : Bytes := []
  sleepOk : Bool := false
  trigLat : Nat := 0
  fpsNum : Nat := 0
  fpsDen : Nat := 1
  phase : Int := 0
  /-- initialisation list: address and data words of each CMD_WRITE (R95) -/
  initList : List (Nat × List Nat) := []
  perfGpio : Nat := 0
  perfRising : Bool := true
  perfDelay : Nat := 0
  perfMin : Nat := 0
  maxRows : Nat := 0
  deriving DecidableEq, Repr, Inhabited

/-- Front-end subsection of one port or bond (R118 to R124). -/
structure FrontEndSec where
  t0 : Nat := 0
  t1 : Nat := 4
  krcp : Nat := 0
  ped : Nat := 0
  sgShift : Nat := 0
  scx : Nat := 0
  scy : Nat := 0
  clipLevel : Nat := 262143
  dynEnable : Bool := false
  dynCold : Bool := false
  dynT0 : Nat := 0
  dynT1 : Nat := 0
  dynBurst : Nat := 0
  deriving DecidableEq, Repr, Inhabited

/-- Raw-coder subsection (Table 6-2). -/
structure RawSec where
  mode : Nat := 0
  ratioX16 : Nat := 0
  deltaInit : Nat := 0
  deltaMax : Nat := 0
  capPages : Nat := 0
  deriving DecidableEq, Repr, Inhabited

/-- Colour-path subsection (Table 7-1). -/
structure ColourSec where
  debayer : Nat := 0
  norm : Nat := 0
  edT : Nat := 0
  auxClip : Nat := 0
  m : List Int := []
  off : List Int := []
  deriving DecidableEq, Repr, Inhabited

/-- Rendition-unit subsection of one slot (R201, R204). -/
structure RenditionSec where
  hcoef : List Int := []
  vcoef : List Int := []
  m : List Int := []
  off : List Int := []
  deriving DecidableEq, Repr, Inhabited

/-- One slot of the rendition graph (Table 7-2). -/
structure GraphSlot where
  enable : Bool := false
  srcKind : Nat := 0
  srcId : Nat := 0
  takeN : Nat := 0
  takePhase : Nat := 0
  unitFirst : Nat := 0
  unitCount : Nat := 0
  destKind : Nat := 0
  destId : Nat := 0
  cropX : Nat := 0
  cropW : Nat := 0
  cropY : Nat := 0
  cropH : Nat := 0
  outW : Nat := 0
  outH : Nat := 0
  tf : Nat := 0
  ycc : Nat := 0
  fullRange : Bool := false
  bits : Nat := 0
  sub : Nat := 0
  fill : List Nat := [0, 0, 0]
  deriving DecidableEq, Repr, Inhabited

/-- One HEVC context entry (Table 8-4). -/
structure HevcEntry where
  enable : Bool := false
  decode : Bool := false
  profile : Nat := 0
  highTier : Bool := false
  level : Nat := 0
  sub : Nat := 0
  bits : Nat := 0
  width : Nat := 0
  height : Nat := 0
  fpsNum : Nat := 0
  fpsDen : Nat := 0
  gopLen : Nat := 0
  mgop : Nat := 0
  cra : Bool := false
  ltrMax : Nat := 0
  sliceMode : Nat := 0
  shotPin : Bool := false
  wpp : Bool := false
  hashSei : Bool := false
  ticketSei : Bool := false
  tileCols : Nat := 0
  tileRows : Nat := 0
  rcMode : Nat := 0
  qpInit : Nat := 0
  qpMin : Nat := 0
  qpMax : Nat := 0
  rcWindow : Nat := 0
  bitrate : Nat := 0
  maxBitrate : Nat := 0
  picCap : Nat := 0
  outKind : Nat := 0
  outId : Nat := 0
  shotT : Nat := 0
  wdTicks : Nat := 0
  statePages : Nat := 0
  outPages : Nat := 0
  inClip : Bool := false
  deriving DecidableEq, Repr, Inhabited

/-- One SDI entry (Table 9-1). -/
structure SdiEntry where
  mode : Nat := 0
  raster : Nat := 0
  rate : Nat := 0
  tcOn : Bool := false
  df : Bool := false
  phase : Int := 0
  tcOffset : Int := 0
  deriving DecidableEq, Repr, Inhabited

/-- The display entry (Table 9-2). -/
structure DispEntry where
  enable : Bool := false
  uhbr135 : Bool := false
  bpc8 : Bool := false
  swap : Bool := false
  hActive : Nat := 0
  hBlank : Nat := 0
  hFront : Nat := 0
  hSync : Nat := 0
  vActive : Nat := 0
  vFront : Nat := 0
  vSync : Nat := 0
  vBack : Nat := 0
  fpsNum : Nat := 0
  fpsDen : Nat := 1
  phase : Int := 0
  border : Nat := 0
  lineMatch : Nat := 0
  deriving DecidableEq, Repr, Inhabited

/-- The memory subsection (Table 13-8) with the plan-set regions of Table 1-6. -/
structure MemSec where
  qwindow : Nat := 2000
  quotaIntakeA : Nat := 64
  quotaScanA : Nat := 96
  quotaIntakeC : Nat := 100
  quotaScanC : Nat := 300
  budgetStore : Nat := 200000
  budgetDma : Nat := 200000
  budgetComp : Nat := 200000
  budgetFw : Nat := 10000
  actWindow : Nat := 32000
  actLimit : Nat := 1024
  throttle : Nat := 10000
  dynAttic : Nat := 0
  dynCellar : Nat := 0
  /-- Larder and Store buffer, in Cellar pages (Table 1-6: plan-set) -/
  larderPages : Nat := 0
  storePages : Nat := 0
  /-- coded rendition streams that the Larder also holds, one bit per stream (R329) -/
  larderStreams : Nat := 0
  /-- debayer, scaler and HEVC cache buffers in the Attic, in 4 KiB pages (Table 1-6: plan-set) -/
  atticPages : Nat := 0
  deriving DecidableEq, Repr, Inhabited

/-- One review ring of the Cellar (R339): its number, slots and Cellar pages per slot. -/
structure ReviewRing where
  ring : Nat := 0
  slots : Nat := 0
  slotPages : Nat := 0
  deriving DecidableEq, Repr, Inhabited

/-- One allotment item (Table 2-7). POOL 0 Attic, 1 Cellar. HOLDER and RELEASE are stage classes 0 to 5 (R53). -/
structure AllotItem where
  pool : Nat := 0
  holder : Nat := 0
  release : Nat := 0
  pages : Nat := 0
  deriving DecidableEq, Repr, Inhabited

/-- The allotments of one port or bond (R53). -/
structure Allotment where
  maxInflight : Nat := 1
  items : List AllotItem := []
  deriving DecidableEq, Repr, Inhabited

/-- Deadline schedule of one port or bond (R57): A_s per stage class 0 to 5, and P_g in units of 2⁻⁸ tick. -/
structure Deadlines where
  offsets : List Nat := []
  pg : Nat := 0
  deriving DecidableEq, Repr, Inhabited

/-- Calibration parameters (Table 5-2) of one port or bond. `staleLimit` is in ticks. -/
structure CalParams where
  blackCold : List Nat := [1024, 1024]
  ratioCold : Nat := 131072
  offsetCold : Int := 0
  kBl : Nat := 3
  kFp : Nat := 6
  kDg : Nat := 5
  obMin : Nat := 0
  obMax : Nat := 8192
  blJump : Nat := 256
  darkWin : Nat := 64
  fpMin : Nat := 64
  dgLo : Nat := 0
  dgLmin : Nat := 256
  dgNmin : Nat := 65536
  dgVarmin : Nat := 4096
  staleFrames : Nat := 4
  staleLimit : Nat := 10000000000
  calFrames : Bool := true
  calDuringRec : Bool := false
  deriving DecidableEq, Repr, Inhabited

/-- Fault and slack parameters (Table 17-2). `faultWindow` is in ticks. -/
structure FaultParams where
  faultCount : Nat := 4
  faultWindow : Nat := 1000000000
  commonUnits : Nat := 3
  slackLow : Nat := 32
  slackFrames : Nat := 8
  deriving DecidableEq, Repr, Inhabited

/-- Bounds and rate of one field that an adaptive policy writes (R32, KIND 7): the least and the greatest value, and the largest
change that one commit makes. The spec names bounds and rates and gives no layout: DESIGN CHOICE (log 58). -/
structure FieldLimit where
  lo : Int := 0
  hi : Int := 4294967295
  step : Nat := 4294967295
  deriving DecidableEq, Repr, Inhabited

/-- Bounds and rates of the policies that write page fields (R32, KIND 7; Table 2-8: policies 0, 1 and 2). -/
structure PolicyLimits where
  exposure : FieldLimit := {}
  gain : FieldLimit := { hi := 65535 }
  wb : FieldLimit := { hi := 262143 }
  rawDelta : FieldLimit := { hi := 255 }
  qpDelta : FieldLimit := { lo := -12, hi := 12 }
  deriving DecidableEq, Repr, Inhabited

/-- Everything a plan says of one port or bond. -/
structure PortPlan where
  profile : PortProfile := default
  frontEnd : FrontEndSec := default
  raw : RawSec := default
  colour : ColourSec := default
  allot : Allotment := default
  deadlines : Deadlines := default
  cal : CalParams := default
  deriving DecidableEq, Repr, Inhabited

/-- What a plan image says: CORNER and PORTS of its header (Table 2-1), and its sections by content (Table 2-2). -/
structure Plan where
  /-- 2 bits, CORNER of the header -/
  corner : Nat := 0
  /-- 4 bits, PORTS of the header -/
  ports : Nat := 0
  portPlans : List PortPlan := []
  units : List RenditionSec := []
  hevc : List HevcEntry := []
  sdi : List SdiEntry := []
  display : DispEntry := default
  memory : MemSec := default
  reviewRings : List ReviewRing := []
  graph : List GraphSlot := []
  shedOrder : List Nat := []
  shed100 : Nat := 0
  shed105 : Nat := 0
  settleFrames : Nat := 8
  fault : FaultParams := default
  limits : PolicyLimits := {}
  annotationBytes : Nat := 0
  deriving DecidableEq, Repr, Inhabited

/-- A plan image as PLAN.LOAD moves it: header (Table 2-1), directory, and the content of the sections. CORNER and PORTS stand
once, in `content`. -/
structure PlanImage where
  magic : Nat := 0x4E414C50
  format : Nat := 3
  /-- the Reserved fields of Table 2-1: 0x06, 0x0C [7:2], 0x0D [7:4], and 0xC0 to 0xFF -/
  reserved06 : Nat := 0
  reserved0C : Nat := 0
  reserved0D : Nat := 0
  reservedC0 : Nat := 0
  length : Nat := 0
  attogo : Nat := 0
  directory : List DirEntry := []
  /-- DIGEST, 384 bits -/
  digest : Nat := 0
  /-- the SHA-384 of the image with DIGEST set to 0 equals DIGEST -/
  digestMatches : Bool := true
  /-- KIND and image offset of the first Reserved section field that is not 0, or first field whose value the
  content types here cannot hold, if there is one -/
  badField : Option (Nat × Nat) := none
  content : Plan := default
  deriving DecidableEq, Repr, Inhabited

end Sys2Proof
end

