-- ==== Sys2Proof/Operand.lean ====
section
/-! DEFINITION. What arrives at the part from outside with a step: a link packet, a PTP message, a datagram, an NVMe
completion, a memory request, a sensor sample. Plain data, used by the operands of `Instr` and by the state. -/

namespace Sys2Proof

/-- One packet (R72, R73): the 32-bit header, the payload bytes in transmission order, and the 32-bit CRC word. For a word that
starts no packet the payload is empty. -/
structure LinkPacket where
  header : BitVec 32
  payload : Bytes
  crc : BitVec 32
  deriving DecidableEq, Repr, Inhabited

/-- Bytes that the host has stored in its own memory, from an address upward (log 8). -/
structure HostStore where
  addr : Nat
  data : Bytes
  deriving DecidableEq, Repr, Inhabited

/-- The host rings a doorbell: the value that it writes, and what it has stored in its own memory since it last rang (log 8). -/
structure DoorbellWrite where
  value : Nat
  stores : List HostStore := []
  deriving DecidableEq, Repr, Inhabited

/-- The symbols of one packet as a port's lanes receive them (R66 to R69): for each lane DL0 upwards, the levels decided since the
last packet ended on it, up to the end of this one, with the markers taken out. A marker stands between two runs of a lane. -/
structure LinkRun where
  lanes : List (List (List Nat))
  deriving DecidableEq, Repr, Inhabited

/-- One alignment marker as a lane receives it (R69, R70): the 32 levels decided, and the symbol of the port's clock at which the
first one arrived. -/
structure LaneMarker where
  arrival : Nat
  levels : List Nat
  deriving DecidableEq, Repr, Inhabited

/-- The amplitude histograms of one eye window (R96): for each decided level L = 0 to 3, the samples in bins 0 to 255. -/
structure EyeLevels where
  bins : List (List Nat)
  deriving DecidableEq, Repr, Inhabited

/-- An Announce message of IEEE 1588, by the fields the best master clock algorithm of R408 reads. -/
structure AnnounceMsg where
  domain : Nat
  clockId : Nat
  portNumber : Nat
  gmPriority1 : Nat
  gmClass : Nat
  gmAccuracy : Nat
  gmVariance : Nat
  gmPriority2 : Nat
  gmId : Nat
  stepsRemoved : Nat
  /-- Announce interval in ticks -/
  interval : Nat
  /-- the SMPTE synchronisation metadata TLV as received, if one is carried (R408) -/
  tlv : Option Bytes
  deriving DecidableEq, Repr, Inhabited

/-- A datagram for a remote Drawer (R447): source address and port, and its bytes. -/
structure Datagram where
  srcAddr : Nat
  srcPort : Nat
  data : Bytes
  deriving DecidableEq, Repr, Inhabited

/-- What an NVMe command of a member was for (R312, R313, R315, R341). -/
inductive NvmeKind where
  | init
  | write
  | flush
  | read
  | deallocate
  deriving DecidableEq, Repr, Inhabited

/-- What the members report of themselves at initialisation (R311). -/
structure MemberIdentity where
  serial : Bytes
  capacity : Nat
  blockSize : Nat
  metadataBytes : Nat
  mdts : Nat
  queuePairs : Nat
  /-- entries of the largest queue that its controller takes -/
  queueEntries : Nat
  writeCache : Bool
  deriving DecidableEq, Repr, Inhabited

/-- Whom a memory request serves, so that Table 13-4 can name what an uncorrectable error stops (R372). -/
inductive ReqOwner where
  | none
  | drawer (d : Nat)
  | store (q cid : Nat)
  | stage (entry : Nat)
  | engine (e ctx : Nat)
  | recorder
  /-- a front-end (kind 0) or colour slice (kind 1) for token `tok` of a row group of entry `e`; `table`: a defect-table, shading-grid or plan-section
  value, on which every later token of the group depends -/
  | slice (kind number e group tok : Nat) (table : Bool)
  /-- an output that sends line `line`: 0–3 SDI, 4 and 5 the display heads -/
  | output (n line : Nat)
  deriving DecidableEq, Repr, Inhabited

/-- What gives a request its deadline (R386): the row group of a frame in flight for one stage class (R57), the picture that an engine
works on (R57, R230), the line timing of an output, or the arrival at the arbiter (Table 13-7). -/
inductive ReqDue where
  | group (entry stage g : Nat)
  | picture (engine : Nat)
  | line (t : Nat)
  | arrival (t : Nat)
  deriving DecidableEq, Repr, Inhabited

/-- One request to an arbiter (R386). `unitNo` breaks ties; `addr` is an Attic byte address or a Cellar physical line;
`write` carries the data of a write; `region` is the declared region of the writer, first address and length (R393). -/
structure MemRequest where
  cls : Nat
  unitNo : Nat
  due : ReqDue
  addr : Nat
  length : Nat
  write : Option Bytes
  region : Option (Nat × Nat)
  owner : ReqOwner
  deriving DecidableEq, Repr, Inhabited

/-- One component of a unit's work in a slack window (R506): KIND, unit number, busy time and output wait in ticks. -/
structure SlackSample where
  kind : Nat
  number : Nat
  busy : Nat
  outWait : Nat
  deriving DecidableEq, Repr, Inhabited

/-- What the training of one Cellar interface measured (R373, R383). -/
structure TrainResult where
  ifc : Nat
  /-- GiB that the devices' mode registers show -/
  gib : Nat
  /-- first failing step of Table 13-6 and its DQ, if a step failed -/
  failed : Option (Nat × Nat)
  /-- per DQ: read eye width, write eye width in 1/64 UI, and errors of the verification pass -/
  eyes : List (Nat × Nat × Nat)
  deriving DecidableEq, Repr, Inhabited

/-- One unit of Table 17-1, by KIND and number. -/
structure UnitId where
  kind : Nat
  number : Nat
  deriving DecidableEq, Repr, Inhabited

/-- Where a rendition or ticket takes its frames from (R23, R197). -/
inductive SourceId where
  | sensor (lead : Nat)
  | decode (engine ctx : Nat)
  | review (ring : Nat)
  deriving DecidableEq, Repr, Inhabited

/-- One output that latches: an SDI output 0 to 3, or the display pair (R258). -/
inductive OutputId where
  | sdi (n : Nat)
  | display
  deriving DecidableEq, Repr, Inhabited

/-- The operation that a failed DMA transfer serves (R442): a Drawer command, a Store command by queue and CID, or a ring. -/
inductive DmaOwner where
  | drawer (d : Nat)
  | store (q cid : Nat)
  | ring
  deriving DecidableEq, Repr, Inhabited

/-- The outputs of firmware's adaptive policies for one port that firmware commits (R44, R58). -/
structure PolicyOut where
  exposure : Nat
  sensorGain : Nat
  wb : List Nat
  rawDelta : Nat
  qpDelta : List Int
  stage : Bytes
  deriving DecidableEq, Repr, Inhabited

/-! ### Coded pictures (08_video_coding.md) -/

/-- Encoder tools of Table 8-2 that are on or off in a stream. -/
inductive EncTool where
  | amp
  | temporalMv
  | deblocking
  | sao
  | signHiding
  | transformSkip4
  | defaultScalingLists
  | uniformTiles
  | wavefront
  | longTermRefs
  deriving DecidableEq, Repr, Inhabited

/-- HRD parameters of a stream's VUI (R241): bit rate, CPB size in bits, and cbr_flag. -/
structure HrdParams where
  bitRate : Nat
  cpbBits : Nat
  cbr : Bool
  deriving DecidableEq, Repr, Inhabited

/-- What the parameter sets of an encode context state (R218 to R220, R241): general_profile_idc, tier, level, chroma_format_idc,
bit depth, picture size, CTU size, smallest CU, smallest and largest TU, the tools in use, tile columns and rows, slices of a picture,
temporal sub-layers at most, horizontal and vertical range of motion in luma samples, and HRD parameters. -/
structure StreamParams where
  profile : Nat
  highTier : Bool
  level : Nat
  chroma : Nat
  depth : Nat
  width : Nat
  height : Nat
  ctu : Nat
  minCu : Nat
  minTu : Nat
  maxTu : Nat
  tools : List EncTool
  tileCols : Nat
  tileRows : Nat
  slices : Nat
  layers : Nat
  mvX : Nat
  mvY : Nat
  hrd : Option HrdParams
  deriving DecidableEq, Repr, Inhabited

/-- A CTU in floor form (R239): one 64 × 64 skip CU with its merge index and SAO off, or one 64 × 64 intra CU by its mode, its QP and
the DC coefficient of each transform block. -/
inductive FloorCtu where
  | skip (merge : Nat) (sao : Bool)
  | intra (mode qp : Nat) (dc : List Int)
  deriving DecidableEq, Repr, Inhabited

/-- One slice of a coded picture: nal_unit_type, sub-layer, slice number, TYPE, POC, the POCs that its reference picture set carries as
long-term pictures (R236), QP of the normal CTUs, and the picture's CTUs in floor form by address (R239, R240). -/
structure SliceInfo where
  nal : Nat
  layer : Nat
  number : Nat
  type : Nat
  poc : Int
  longRefs : List Int
  qp : Nat
  floor : List (Nat × FloorCtu)
  deriving DecidableEq, Repr, Inhabited

/-- One NAL unit of an access unit, by what it says (R226, R231, R232, R239 to R241). -/
inductive CodedNal where
  | vps (p : StreamParams)
  | sps (p : StreamParams)
  | pps (p : StreamParams)
  | activeParams
  | bufferingPeriod (removalDelay : Nat)
  | picTiming
  | ticketSei (ticket : Bytes)
  | hashSei (crc : Bytes)
  | slice (x : SliceInfo)
  | endOfSequence
  deriving DecidableEq, Repr, Inhabited

/-- What an SPS of an H.265 stream declares (R245): profile as a code of Table 8-1 if it is one, tier, level, SUB code (3 for
monochrome), separate_colour_plane_flag, bit depth, size after the conformance window, limits of the decoded picture buffer, CTB size,
and the encoding of the VUI. -/
structure SpsInfo where
  profile : Option Nat
  highTier : Bool
  level : Nat
  sub : Nat
  separatePlanes : Bool
  depth : Nat
  width : Nat
  height : Nat
  maxDec : Nat
  maxReorder : Nat
  maxLatency : Option Nat
  ctb : Nat
  ycc : Nat
  fullRange : Bool
  deriving DecidableEq, Repr, Inhabited

/-- One slice segment as its syntax reads (R246): the raster address it begins at, its CTUs, and its syntax loops in order: CTUs of the
segment complete before the loop, its count, and the limit that H.265, the parameter sets and the context set for it. -/
structure SliceSegment where
  addr : Nat
  ctus : Nat
  loops : List (Nat × Nat × Nat)
  deriving DecidableEq, Repr, Inhabited

/-- What the syntax of one access unit says (R245 to R250), by ITU-T H.265: whether it is an IRAP picture, one that breaks
output (IDR or BLA), a RASL picture; POC, TYPE 0 I, 1 P, 2 B, temporal sub-layer, slice QP, the active SPS, the POCs of its
reference picture set, no_output_of_prior_pics_flag, PicOutputFlag, the raster addresses of its CTUs in coding order, its slice
segments, and the picture hash SEI message, if any: form and value. -/
structure AuInfo where
  irap : Bool
  breaks : Bool
  rasl : Bool
  poc : Int
  type : Nat
  layer : Nat
  qp : Nat
  sps : SpsInfo
  refs : List Int
  noPrior : Bool
  shows : Bool
  scan : List Nat
  segments : List SliceSegment
  hash : Option (Nat × Bytes)
  deriving DecidableEq, Repr, Inhabited

end Sys2Proof
end

