-- ==== Sys2Proof/Syntax.lean ====
section
/-! DEFINITION. The commands of the block: one constructor per row of spec/opcode_table.json, in the table's order. The
operands are what arrives from outside with the step: the number of the Drawer whose accepted command runs, a register's
address and value, a port and the packet it receives, a measured value; `host` is what the host has stored in its own memory before it rings. `d` is a Drawer number, 0 to 19; `resource` is an Attic bank, 0 to 63, or 128 plus a Cellar port, 0 to 11. -/

namespace Sys2Proof

/-- One command or event of the table of steps. -/
inductive Instr where
  /-- PORST_N_ASSERT (R512): The cold reset input goes low and holds the device in reset. -/
  | porstNAssert
  /-- PORST_N_RELEASE (R513): The release of PORST_N starts COUNT at 0, samples the straps, arms the thermal trip and starts the boot ROM. -/
  | porstNRelease (bootSel : Bool) (celCfg : Nat) (lowNs : Nat)
  /-- BOOT_IMAGE_CHECK (R460): When the loaded image has been checked under R459, the device boots it or falls back to the other slot. -/
  | bootImageCheck (vddFuse : Bool)
  /-- MEMBER_READY_TIMEOUT (R519): A media member that is not ready 5 s into bring-up is refused. -/
  | memberReadyTimeout (m : Nat)
  /-- LOCKSTEP_MISMATCH (R520): The two Jexgen cores disagree at retirement and firmware falls back to the safe loop. -/
  | lockstepMismatch
  /-- FIRMWARE_TRAP (R520): A firmware trap, including one raised by an uncorrectable fetch error, sends the device to the safe loop. -/
  | firmwareTrap (fetchError : Bool)
  /-- FIRMWARE_WATCHDOG (R520): Firmware has not checked in with the safe loop for 100 ms. -/
  | firmwareWatchdog
  /-- SYSTEM_GET_STATUS (R450): Returns the mode, power state, stage, MAC address, Shelf states, media state and time state. -/
  | systemGetStatus (d : Nat)
  /-- SYSTEM_ENTER_SERVICE (R28): Enters Service mode when training, the time base, a validated plan and idle test facilities allow it. -/
  | systemEnterService (d : Nat)
  /-- SYSTEM_ENTER_MAINTENANCE (R29): Enters Maintenance mode unless a clip records, and blows pending fuse entries. -/
  | systemEnterMaintenance (d : Nat) (vddFuse : Bool)
  /-- SYSTEM_REGISTER_BUFFER (R441): Registers a host buffer ID with its address, length and write permission. -/
  | systemRegisterBuffer (d : Nat)
  /-- SYSTEM_UNREGISTER_BUFFER (R441): Removes a buffer registration unless the buffer is in use. -/
  | systemUnregisterBuffer (d : Nat)
  /-- SYSTEM_SET_NETWORK (R446): Sets the Ethernet addresses, VLAN, speed, FEC and remote Drawers, and restarts the link. -/
  | systemSetNetwork (d : Nat)
  /-- SYSTEM_WARM_RESET (R523): Warm reset: ports drop, outstanding Store commands are abandoned, BAR0 resets and bring-up restarts. -/
  | systemWarmReset (d : Nat)
  /-- PLAN_LOAD (R35): Moves a plan image into a Shelf by device DMA and starts its validation. -/
  | planLoad (d : Nat) (image : PlanImage)
  /-- PLAN_VALIDATION (R36): When the plan transfer ends, firmware applies the validation checks in order and posts the result and the plan generation. -/
  | planValidation (d : Nat)
  /-- PLAN_EDIT (R62): Copies a plan to an Empty Shelf with permitted changes and validates the copy. -/
  | planEdit (d : Nat) (image : PlanImage)
  /-- PLAN_ACTIVATE (R38): Schedules a plan switch on the ports of its mask after the joint checks of R39. -/
  | planActivate (d : Nat)
  /-- PLAN_RELEASE (R34): Empties a Shelf that is not in use. -/
  | planRelease (d : Nat)
  /-- PLAN_GET_SHELVES (R450): Returns the state, corner, ports and generation of every Shelf. -/
  | planGetShelves (d : Nat)
  /-- SENSOR_START (R95): Sends the port profile's initialisation list, then STREAM start. -/
  | sensorStart (d : Nat)
  /-- SENSOR_STOP (R450): Sends STREAM stop at the port's next start of vertical blanking. -/
  | sensorStop (d : Nat)
  /-- SENSOR_SET_EXPOSURE (R88): Commits exposure and gain and sends an EXPOSURE packet targeting frame N + L. -/
  | sensorSetExposure (d : Nat)
  /-- SENSOR_LOAD_DEFECTS (R116): Loads and checks a defect table in the port's inactive defect bank. -/
  | sensorLoadDefects (d : Nat)
  /-- SENSOR_SET_SHADING (R122): Loads a shading grid into the port's inactive shading bank. -/
  | sensorSetShading (d : Nat)
  /-- SENSOR_GET_LINK_STATS (R102): Writes the link statistics of a port and clears its RC counters. -/
  | sensorGetLinkStats (d : Nat)
  /-- SENSOR_TEST (R98): Starts or stops a lane pattern test, loopback or back-channel pattern in Maintenance mode. -/
  | sensorTest (d : Nat)
  /-- SENSOR_INJECT (R101): Sets up deliberate dropping, corruption or reordering of received packets. -/
  | sensorInject (d : Nat)
  /-- SENSOR_BC_WRITE (R87): Sends a CMD_WRITE on the back channel and returns the REPLY result. -/
  | sensorBcWrite (d : Nat)
  /-- SENSOR_BC_READ (R87): Sends a CMD_READ on the back channel and returns the words read. -/
  | sensorBcRead (d : Nat)
  /-- CK_PRESENT (R93): A forwarded clock appears on a Down port whose profile is active, and the port enters Training. -/
  | ckPresent (p : Nat)
  /-- CK_LOSS (R93): The forwarded clock of a port is lost and the port goes Down. -/
  | ckLoss (p : Nat)
  /-- TRAINING_TIMEOUT (R93): Training has not succeeded in 10 ms: EYE_LOW is raised and Training restarts. -/
  | trainingTimeout (p : Nat)
  /-- ALIGNMENT_MARKER (R71): A marker is checked on a lane, aligning the lane and bringing the port Up or waking it. -/
  | alignmentMarker (p : Nat) (lane : Nat) (m : LaneMarker)
  /-- ALIGNMENT_LOSS (R71): Four block positions without a valid marker unalign a lane, and the port goes Down. -/
  | alignmentLoss (p : Nat) (lane : Nat)
  /-- FRAME_START (R81): A FRAME_START packet is checked, opens the frame and records the exposure echo. -/
  | frameStart (p : Nat) (r : LinkRun)
  /-- ROW_DATA (R80): A ROW_DATA packet is checked, its samples enter intake, and missing positions are marked. -/
  | rowData (p : Nat) (r : LinkRun)
  /-- FRAME_END (R82): A FRAME_END packet closes the port's part of the frame and marks the start of vertical blanking. -/
  | frameEnd (p : Nat) (r : LinkRun)
  /-- SLEEP (R90): A SLEEP packet puts the port Asleep. -/
  | sleep (p : Nat) (r : LinkRun)
  /-- EMBEDDED (R78): The first 4 KiB of EMBEDDED payload per frame is kept and the rest is discarded. -/
  | embedded (p : Nat) (r : LinkRun)
  /-- REPLY (R87): A REPLY answers the back-channel command awaiting it, or is ignored. -/
  | reply (p : Nat) (r : LinkRun)
  /-- BC_REPLY_TIMEOUT (R87): No REPLY arrives in 20 µs: the command is repeated, or fails after three attempts. -/
  | bcReplyTimeout (p : Nat)
  /-- SLEEP_OVERRUN (R91): No marker arrives within DURATION plus 20 µs of SLEEP, and the port is treated as Down. -/
  | sleepOverrun (p : Nat)
  /-- BACK_CHANNEL_SLEEP (R92): After 64 idle symbols the back channel stops BD and BK. -/
  | backChannelSleep (p : Nat)
  /-- TRIGGER (R83): A TRIGGER is sent so that readout starts at the schedule instant of R416. -/
  | trigger (p : Nat)
  /-- EYE_WINDOW_END (R96): A window of 2^20 symbols ends: FOM is posted and background adaptation takes or reverts one step. -/
  | eyeWindowEnd (p : Nat) (lane : Nat) (e : EyeLevels)
  /-- PATTERN_TEST_END (R99): A lane test reaches its set symbol count and raises PATTERN_DONE. -/
  | patternTestEnd (p : Nat) (lane : Nat) (errors : Nat)
  /-- SOURCE_TICKET_ISSUE (R49): A decoded picture or review-ring frame is complete and a rendition unit admits it, so a ticket is issued. -/
  | sourceTicketIssue (src : SourceId)
  /-- PERFORATION_EDGE (R135): A perforation edge is stamped and, when accepted, issues a line-scan ticket. -/
  | perforationEdge (gpio : Nat) (rising : Bool)
  /-- ENTRY_RETIRE (R52): Every item is released and every destination has the last token, so the ticket-table entry retires. -/
  | entryRetire (e : Nat)
  /-- FIRMWARE_PAGE_COMMIT (R44): Firmware commits a port's page once per frame from the outputs of its policies. -/
  | firmwarePageCommit (p : Nat) (out : PolicyOut)
  /-- PIPE_COMMIT_PAGE (R45): Writes host page fields into the staging page and commits them. -/
  | pipeCommitPage (d : Nat)
  /-- PIPE_HOLD_POLICY (R59): Holds an adaptive policy for the named ports or the device. -/
  | pipeHoldPolicy (d : Nat)
  /-- PIPE_RELEASE_POLICY (R59): Releases a held adaptive policy. -/
  | pipeReleasePolicy (d : Nat)
  /-- PIPE_SET_STATS_RING (R128): Registers a port's statistics ring. -/
  | pipeSetStatsRing (d : Nat)
  /-- PIPE_GET_UNITS (R450): Returns the in-service masks of every unit class. -/
  | pipeGetUnits (d : Nat)
  /-- PIPE_CAL_FRAME (R154): Schedules a calibration frame on a port at once. -/
  | pipeCalFrame (d : Nat)
  /-- PIPE_GET_CAL (R155): Returns calibration status and optionally writes the calibration tables. -/
  | pipeGetCal (d : Nat)
  /-- PIPE_SET_CAL (R156): Loads calibration estimates into a port while policy 4 is held. -/
  | pipeSetCal (d : Nat)
  /-- PIPE_SET_HOST_RING (R443): Binds a host frame ring or byte ring to a buffer. -/
  | pipeSetHostRing (d : Nat)
  /-- GROUP_DEAL (R109): A ready row group is dealt to a free front-end slice in deadline order. -/
  | groupDeal (pos : Nat)
  /-- GROUP_LEAVE (R111): A row group leaves the front end in FIRST_ROW order. -/
  | groupLeave (e : Nat)
  /-- CALIBRATION_UPDATE (R139): Firmware forms black, fixed-pattern and ratio updates from a frame's statistics once a free copy exists. -/
  | calibrationUpdate (e : Nat)
  /-- STALE_LIMIT (R146): An estimate's stale time passes STALE_LIMIT, and a calibration frame may be scheduled. -/
  | staleLimit (p : Nat) (j : Nat)
  /-- HOLDOVER_SAMPLE (R153): Once per second while Locked, firmware updates a holdover bin. -/
  | holdoverSample
  /-- RAW_GROUP_START (R178): A raw coder starts coding group j once group j - 32 is committed. -/
  | rawGroupStart (e : Nat)
  /-- RAW_GROUP_COMMIT (R176): The commit step takes the main candidate, the coarse candidate or the floor form of the next group. -/
  | rawGroupCommit (e : Nat)
  /-- COLOUR_GROUP_DEAL (R189): A ready colour row group is dealt to a free colour slice in deadline order. -/
  | colourGroupDeal (pos : Nat)
  /-- RENDITION_SET_LUT (R210): Loads a 3D LUT into a slot's inactive bank and checks it. -/
  | renditionSetLut (d : Nat)
  /-- RENDITION_SET_CURVES (R210): Loads tone curves into a slot's inactive bank and checks them. -/
  | renditionSetCurves (d : Nat)
  /-- RENDITION_SWITCH_BANK (R211): Schedules a slot's LUT and curve bank switch for the next source ticket. -/
  | renditionSwitchBank (d : Nat)
  /-- RENDITION_FRAME_COMPLETE (R257): A rendition frame is fully written to its destination buffer and committed, or written to its ring. -/
  | renditionFrameComplete (slot : Nat) (e : Nat)
  /-- CODE_OPEN (R225): Opens an HEVC context from its cold-start state. -/
  | codeOpen (d : Nat)
  /-- CODE_CLOSE (R226): Moves an Open context to Draining. -/
  | codeClose (d : Nat)
  /-- CODE_FORCE_IDR (R235): Makes the context's next picture an IDR picture. -/
  | codeForceIdr (d : Nat)
  /-- CODE_PIN_LTR (R236): Pins a long-term reference on a source frame. -/
  | codePinLtr (d : Nat)
  /-- CODE_UNPIN_LTR (R236): Releases a host long-term reference pin. -/
  | codeUnpinLtr (d : Nat)
  /-- CODE_SET_BITSTREAM_RING (R244): Registers the host bitstream ring of a decode context. -/
  | codeSetBitstreamRing (d : Nat)
  /-- CODE_SET_STATS_RING (R253): Registers an engine's picture statistics ring. -/
  | codeSetStatsRing (d : Nat)
  /-- CODE_GET_CONTEXT (R252): Returns the state, counts, rate-control state and pins of a context. -/
  | codeGetContext (d : Nat)
  /-- PICTURE_BOUNDARY (R229): An engine commits a picture's last CTU, delivers it and selects the next picture by deadline. -/
  | pictureBoundary (engine : Nat)
  /-- DECODE_WATCHDOG (R247): A decode picture has not finished WD_TICKS after its start and is ended. -/
  | decodeWatchdog (engine : Nat) (c : Nat)
  /-- BITSTREAM_COPY (R244): The device copies host bitstream bytes into the decode buffer and advances CONSUMED. -/
  | bitstreamCopy (engine : Nat) (c : Nat)
  /-- BYTE_RING_WRITE (R445): A waiting access unit is written to a host byte ring once it has room. -/
  | byteRingWrite (ring : Nat)
  /-- OUTPUT_START (R275): Starts an SDI output at its next alignment point. -/
  | outputStart (d : Nat)
  /-- OUTPUT_STOP (R275): Stops an SDI output at its next latch. -/
  | outputStop (d : Nat)
  /-- OUTPUT_SET_TIMECODE (R267): Replaces an output's timecode offset from its next latch. -/
  | outputSetTimecode (d : Nat)
  /-- OUTPUT_GET_STATUS (R450): Returns an SDI output's running state and counts. -/
  | outputGetStatus (d : Nat)
  /-- LATCH (R258): At the first line of vertical blanking the pending buffer becomes scanned, or the frame repeats. -/
  | latch (out : OutputId)
  /-- SDI_UNDERRUN (R268): A line's samples are missing when the serialiser needs them, and the frame goes to black. -/
  | sdiUnderrun (n : Nat)
  /-- DISP_UNDERRUN (R273): A display line is not ready when the link needs it, and the head sends BORDER. -/
  | dispUnderrun (head : Nat)
  /-- LINE_MATCH (R274): The display pair reaches active line LINE_MATCH. -/
  | lineMatch
  /-- FRAME_DONE (R274): Both heads have sent the last active line of a frame. -/
  | frameDone
  /-- DISPLAY_START (R271): Starts the display pair and trains each head with HPD asserted. -/
  | displayStart (d : Nat)
  /-- DISPLAY_STOP (R450): Stops both heads at the next latch. -/
  | displayStop (d : Nat)
  /-- DISPLAY_WRITE_BUFFER (R272): Writes one head's frame into a display buffer. -/
  | displayWriteBuffer (d : Nat)
  /-- DISPLAY_COMMIT (R272): Commits a host-written display buffer. -/
  | displayCommit (d : Nat)
  /-- DISPLAY_SET_LINE_MATCH (R274): Replaces LINE_MATCH from the next latch. -/
  | displaySetLineMatch (d : Nat)
  /-- DISPLAY_SET_EVENTS (R274): Masks or unmasks the display events. -/
  | displaySetEvents (d : Nat)
  /-- DISPLAY_GET_EDID (R271): Returns the EDID or DisplayID read from a head. -/
  | displayGetEdid (d : Nat)
  /-- DISPLAY_TRAINING_END (R271): Head training ends, or 100 ms pass, and the first latch is scheduled. -/
  | displayTrainingEnd (headA : Bool) (headB : Bool)
  /-- HPD_DEASSERT (R271): HPD falls on a head and the head stops sending. -/
  | hpdDeassert (head : Nat)
  /-- HPD_ASSERT (R271): HPD rises on a head and the head retrains. -/
  | hpdAssert (head : Nat) (edid : Bytes)
  /-- HPD_IRQ (R271): An HPD pulse under 2 ms makes firmware check link status. -/
  | hpdIrq (head : Nat) (linkOk : Bool)
  /-- SQ_TAIL_DOORBELL (R279): The host writes a submission-queue tail, AQ included. -/
  | sqTailDoorbell (q : Nat) (v : DoorbellWrite)
  /-- CQ_HEAD_DOORBELL (R279): The host releases completions by writing a completion-queue head, ACQ included. -/
  | cqHeadDoorbell (q : Nat) (v : Nat)
  /-- ENTRY_FETCH (R280): The device fetches a submission entry by DMA, which submits the command. -/
  | entryFetch (q : Nat)
  /-- COMPLETION_POST (R281): A completion is written to its queue once the queue has room. -/
  | completionPost (q : Nat)
  /-- WRITE_RECORD (R290): Writes host records to the recording clip or the host area. -/
  | writeRecord (q : Nat) (cid : Nat)
  /-- READ_RECORD (R291): Returns a record in stored form or in clear. -/
  | readRecord (q : Nat) (cid : Nat)
  /-- VERIFY_RECORD (R292): Checks records without transferring them. -/
  | verifyRecord (q : Nat) (cid : Nat)
  /-- TRIM_CLIP (R293): Removes a clip or host-area records through one journal entry. -/
  | trimClip (q : Nat) (cid : Nat)
  /-- FLUSH (R296): Fixes a flush set at fetch and completes when the set is on the medium. -/
  | flush (q : Nat) (cid : Nat)
  /-- ABORT (R298): Aborts a target command before its commit point. -/
  | abort (q : Nat) (cid : Nat)
  /-- RECORD_ACCEPT (R295): A record is accepted whole into the Store buffer once room exists. -/
  | recordAccept
  /-- RECORD_ON_MEDIUM (R313): A record's writes and flushes have completed, so the record is on the medium. -/
  | recordOnMedium
  /-- IDENTIFY (R301): Writes the device or media-set identify data. -/
  | identify (q : Nat) (cid : Nat)
  /-- GET_LOG_PAGE (R302): Returns a log page. -/
  | getLogPage (q : Nat) (cid : Nat)
  /-- GET_FEATURES (R303): Returns a feature value. -/
  | getFeatures (q : Nat) (cid : Nat)
  /-- SET_FEATURES (R303): Sets a feature value. -/
  | setFeatures (q : Nat) (cid : Nat)
  /-- FIRMWARE_DOWNLOAD (R304): Copies a piece of firmware into the staged image. -/
  | firmwareDownload (q : Nat) (cid : Nat)
  /-- FIRMWARE_COMMIT (R305): Stores the staged image in a slot, activates it, or both. -/
  | firmwareCommit (q : Nat) (cid : Nat)
  /-- FIRMWARE_SERVES (R306): The new firmware serves, resumes fetching and posts the Commit with OK. -/
  | firmwareServes
  /-- ACTIVATION_HOLD_EXPIRY (R306): The new firmware has not served in 2 s, and the device returns to the old slot. -/
  | activationHoldExpiry
  /-- POWER_STATE (R307): Starts entry to or exit from a power state. -/
  | powerState (q : Nat) (cid : Nat)
  /-- POWER_ENTRY_PROCEED (R524): The waits of R308 end and the power-state entry runs its actions. -/
  | powerEntryProceed
  /-- STORE_CREATE_QUEUE (R277): Creates a submission and completion queue pair. -/
  | storeCreateQueue (d : Nat)
  /-- STORE_DELETE_QUEUE (R278): Removes a queue pair. -/
  | storeDeleteQueue (d : Nat)
  /-- STORE_RESET (R299): Resets host command processing at its acceptance. -/
  | storeReset (d : Nat)
  /-- STORE_RESET_DONE (R299): Every completion due under the reset is posted, and fetching resumes. -/
  | storeResetDone
  /-- STORE_FORM_SET (R315): Forms a new media set on the named members. -/
  | storeFormSet (d : Nat)
  /-- STORE_MOUNT (R336): Reads the superblocks and replays the journal. -/
  | storeMount (d : Nat)
  /-- STORE_UNMOUNT (R326): Unmounts the media set. -/
  | storeUnmount (d : Nat)
  /-- STORE_CLIP_START (R327): Starts a clip with its Larder pre-frames and a new clip key. -/
  | storeClipStart (d : Nat)
  /-- STORE_CLIP_CLOSE (R330): Closes the recording clip with its INDEX and MANIFEST. -/
  | storeClipClose (d : Nat)
  /-- STORE_GET_CLIP (R326): Returns a clip-table entry and manifest summary. -/
  | storeGetClip (d : Nat)
  /-- STORE_PLAY (R341): Feeds a decode context from a recorded HEVC stream. -/
  | storePlay (d : Nat)
  /-- NVME_COMPLETION (R313): A member posts an NVMe completion for a Write, Flush or Read. -/
  | nvmeCompletion (m : Nat) (cmd : Nat) (ok : Bool) (ident : MemberIdentity)
  /-- NVME_COMMAND_TIMEOUT (R312): An NVMe command has not completed in 5 s and is aborted. -/
  | nvmeCommandTimeout (m : Nat) (cmd : Nat)
  /-- NVME_ABORT_TIMEOUT (R312): The NVMe Abort has not completed in 1 s: the controller is reset, or the member fails. -/
  | nvmeAbortTimeout (m : Nat) (cmd : Nat) (resetOk : Bool)
  /-- MEMBER_FLUSH_TIMER (R313): A member with unflushed rows gets an NVMe Flush at least every 4 ms. -/
  | memberFlushTimer (m : Nat)
  /-- CHECKPOINT_TIMER (R324): A journal checkpoint is written every 1 s while records are written. -/
  | checkpointTimer
  /-- SUPERBLOCK_TIMER (R319): A new superblock generation is written at least every 2 s while recording. -/
  | superblockTimer
  /-- MEM_COMPRESS (R346): Starts or resumes a compression job. -/
  | memCompress (d : Nat)
  /-- MEM_DECOMPRESS (R349): Starts or resumes a decompression job. -/
  | memDecompress (d : Nat)
  /-- MEM_JOB_CANCEL (R354): Cancels a running job or releases a handle. -/
  | memJobCancel (d : Nat)
  /-- COMPRESSION_FRAME (R351): The engine processes one frame of a job in turn, or stops the call at a frame boundary. -/
  | compressionFrame
  /-- HANDLE_EXPIRY (R353): A resume handle is released 60 s after the call that issued it. -/
  | handleExpiry (h : Nat)
  /-- ARBITER_GRANT (R387): An arbiter decides among eligible requests and grants a bank or port. -/
  | arbiterGrant (resource : Nat) (reqs : List MemRequest)
  /-- CELLAR_COMMAND_SLOT (R379): An interface scheduler chooses a refresh or line at a command slot. -/
  | cellarCommandSlot (ifc : Nat)
  /-- REFRESH_DUE (R380): A bank's refresh interval passes and its owed count grows. -/
  | refreshDue (ifc : Nat) (bank : Nat)
  /-- MR4_POLL (R380): MR4 is read every 4 ms and the refresh rate follows it. -/
  | mr4Poll (ifc : Nat) (rate : Nat)
  /-- DRIFT_TRACKING (R385): Every 16 ms the interval oscillators are read and delays adjusted. -/
  | driftTracking
  /-- SCRUB_STEP (R365): An idle bank scrubs its next page, at most one step per 20 µs. -/
  | scrubStep (bank : Nat)
  /-- ACT_WINDOW_END (R381): An activation-count window ends. -/
  | actWindowEnd
  /-- THROTTLE_EXPIRY (R381): A throttled class's THROTTLE span ends. -/
  | throttleExpiry (cls : Nat)
  /-- QUOTA_WINDOW_END (R389): A quota window ends and masked classes are unmasked. -/
  | quotaWindowEnd
  /-- ACQUISITION_TIMEOUT (R392): A dynamic acquisition is incomplete after 5 ms and releases what it holds. -/
  | acquisitionTimeout (id : Nat)
  /-- ACQUISITION_RETRY (R392): After 100 µs the dynamic acquisition starts again. -/
  | acquisitionRetry (id : Nat)
  /-- MEM_GET_STATS (R395): Writes memory statistics and clears RC counters. -/
  | memGetStats (d : Nat)
  /-- MEM_GET_ECC_LOG (R395): Writes the error log. -/
  | memGetEccLog (d : Nat)
  /-- MEM_CLEAR_ECC_LOG (R368): Empties the error log. -/
  | memClearEccLog (d : Nat)
  /-- MEM_REPAIR (R371): Makes a soft repair or writes a fuse entry. -/
  | memRepair (d : Nat) (vddFuse : Bool)
  /-- MEM_SET_MAPPING (R377): Sets the Cellar mapping masks for the next training. -/
  | memSetMapping (d : Nat)
  /-- MEM_TRAIN (R383): Starts Cellar training on frozen interfaces. -/
  | memTrain (d : Nat)
  /-- TRAINING_COMPLETE (R383): The training sequence ends and posts pass or fail per interface. -/
  | trainingComplete (results : List TrainResult)
  /-- MEM_PATTERN_TEST (R384): Runs the pattern generator and compare engine over a line range. -/
  | memPatternTest (d : Nat)
  /-- MEM_FREEZE (R391): Stops grants on named banks and interfaces at acceptance. -/
  | memFreeze (d : Nat)
  /-- FREEZE_COMPLETE (R391): Every named resource has drained, and MEM.FREEZE completes. -/
  | freezeComplete
  /-- MEM_THAW (R391): Resumes grants on named resources. -/
  | memThaw (d : Nat)
  /-- SYNC (R410): A PTP Sync (with its Follow_Up) from the master is stamped and taken as t1 and t2. -/
  | sync (t1 : Int) (corr : Int)
  /-- DELAY_RESP (R410): A Delay_Resp completes an offset measurement, which steers DRIFT or refuses a step. -/
  | delayResp (seq : Nat) (t4 : Int) (corr : Int) (interval : Nat)
  /-- ANNOUNCE (R408): An Announce feeds the best master clock algorithm, which may change master. -/
  | announce (a : AnnounceMsg)
  /-- DELAY_REQ (R409): A Delay_Req is sent at the master's interval and stamped as t3. -/
  | delayReq
  /-- MASTER_LOST (R406): The Announce or Sync timeout expires and the master is lost. -/
  | masterLost
  /-- HOLDOVER_DRIFT_UPDATE (R407): Once per second in Holdover, DRIFT is set from the holdover table. -/
  | holdoverDriftUpdate
  /-- HOLD_MAX_EXPIRY (R405): Holdover lasts HOLD_MAX and the time base goes Unsynchronised. -/
  | holdMaxExpiry
  /-- REFCLK_FAULT (R401): REFCLK_TB stops or leaves tolerance, and the PLL falls back. -/
  | refclkFault
  /-- REFCLK_RECOVERY (R401): REFCLK_TB has been within tolerance for 1 s, and REFCLK_BAD clears. -/
  | refclkRecovery
  /-- COMPARE_FIRE (R403): A compare unit's time passes and it pulses its GPIO. -/
  | compareFire (n : Nat)
  /-- CAPTURE_EDGE (R404): A bound GPIO edge is stamped by a capture unit. -/
  | captureEdge (gpio : Nat) (rising : Bool)
  /-- TIME_GET (R418): Returns COUNT, the reading and the state. -/
  | timeGet (d : Nat)
  /-- TIME_GET_STATUS (R418): Returns the time status. -/
  | timeGetStatus (d : Nat)
  /-- TIME_SET_CONFIG (R417): Sets the time configuration. -/
  | timeSetConfig (d : Nat)
  /-- TIME_SET (R414): Steps the time base to a reading when free-running. -/
  | timeSet (d : Nat)
  /-- TIME_ACCEPT_STEP (R413): Applies the pending PTP step named by PEND_ID. -/
  | timeAcceptStep (d : Nat)
  /-- TIME_SET_COMPARE (R403): Arms or disarms a compare unit. -/
  | timeSetCompare (d : Nat)
  /-- TIME_SET_CAPTURE (R404): Binds or releases a capture unit. -/
  | timeSetCapture (d : Nat)
  /-- AUDIO_SET_PORT (R419): Configures an audio source's rate, clocks and slots. -/
  | audioSetPort (d : Nat)
  /-- AUDIO_START (R422): Starts audio channels at their zero crossing. -/
  | audioStart (d : Nat)
  /-- AUDIO_STOP (R422): Stops audio channels at their zero crossing. -/
  | audioStop (d : Nat)
  /-- AUDIO_MUTE (R422): Mutes or unmutes channels at their zero crossing. -/
  | audioMute (d : Nat)
  /-- AUDIO_SET_GAIN (R422): Changes channel gain at the zero crossing. -/
  | audioSetGain (d : Nat)
  /-- AUDIO_SET_SLOTS (R424): Stages TDM slot masks for the next frame sync. -/
  | audioSetSlots (d : Nat)
  /-- AUDIO_SET_RING (R426): Registers an audio host ring. -/
  | audioSetRing (d : Nat)
  /-- AUDIO_GET_STATUS (R427): Returns the audio period, clock state, faults and masks. -/
  | audioGetStatus (d : Nat)
  /-- AUDIO_FRAME (R423): A PDM output sample or TDM frame sync yields samples, applies pending changes and completes blocks. -/
  | audioFrame (dir : Nat) (samples : List Int)
  /-- AUDIO_CLOCK_STOP (R423): No frame sync for 4P: transmit is muted and the receive block closes. -/
  | audioClockStop (dir : Nat)
  /-- ZC_TIMEOUT (R422): No zero crossing within 10 ms, and the change is applied anyway. -/
  | zcTimeout (dir : Nat)
  /-- DOORBELL (R433): A write to DOORBELL accepts a command in each Free Drawer rung. -/
  | doorbell (mask : DoorbellWrite)
  /-- DRAWER_RELEASE (R433): A write to DRAWER_RELEASE frees each Done Drawer named. -/
  | drawerRelease (mask : Nat)
  /-- EQ_ENABLE (R451): Enabling the event ring resets its index and posts kept events. -/
  | eqEnable (v : Nat)
  /-- EQ_HEAD (R454): The host releases event entries, which may let an overflow entry post. -/
  | eqHead (v : Nat)
  /-- REGISTER_WRITE (R430): A write to any BAR0 register without behaviour of its own. -/
  | registerWrite (addr : Nat) (width : Nat) (v : Nat)
  /-- READ_CLEAR (R9): A read of an RC register returns and clears it. -/
  | readClear (addr : Nat) (recurs : Nat)
  /-- COALESCE_TIMER (R455): COAL_TIME passes since the first unsignalled entry, and the vector is signalled. -/
  | coalesceTimer (vec : Nat)
  /-- DMA_ERROR (R442): A PCIe completion error or refused write stops a device DMA transfer. -/
  | dmaError (addr : Nat) (owner : DmaOwner)
  /-- REMOTE_DATAGRAM (R449): A remote Drawer datagram (command, release or poll) is checked and answered. -/
  | remoteDatagram (g : Datagram)
  /-- REMOTE_SESSION_IDLE (R449): A session sends no authenticated datagram for 60 s and ends. -/
  | remoteSessionIdle (session : Nat)
  /-- NET_LINK (R446): The Ethernet link goes up or down. -/
  | netLink (up : Bool)
  /-- ARP_REQUEST (R446): The device answers an ARP request. -/
  | arpRequest (target : Nat)
  /-- ICMP_ECHO (R446): The device answers an ICMP echo request. -/
  | icmpEcho (g : Datagram)
  /-- DIAG_CAPTURE (R13): Captures channel words from a row group. -/
  | diagCapture (d : Nat)
  /-- DIAG_BENCH_RUN (R495): Starts a Bench self-test on a retired unit. -/
  | diagBenchRun (d : Nat)
  /-- BENCH_DONE (R496): A Bench test ends, and a passing unit is readmitted. -/
  | benchDone (mismatches : Nat) (digest : Bytes)
  /-- DIAG_GET_FAULTS (R509): Writes the per-unit fault entries. -/
  | diagGetFaults (d : Nat)
  /-- DIAG_GET_THERMAL (R509): Writes the thermal records and TJ. -/
  | diagGetThermal (d : Nat)
  /-- DIAG_GET_SLACK (R509): Writes the per-class slack records. -/
  | diagGetSlack (d : Nat)
  /-- CHEST_SESSION_OPEN (R466): Opens a half-open session with an ephemeral key exchange. -/
  | chestSessionOpen (d : Nat)
  /-- CHEST_SESSION_FINISH (R467): Carries a certificate part or the host signature that completes a session. -/
  | chestSessionFinish (d : Nat)
  /-- CHEST_SESSION_CLOSE (R471): Ends the session it is sent under. -/
  | chestSessionClose (d : Nat)
  /-- CHEST_ATTEST (R465): Writes a signed attestation report. -/
  | chestAttest (d : Nat)
  /-- CHEST_GET_CERT (R483): Returns part of the identity certificate. -/
  | chestGetCert (d : Nat)
  /-- CHEST_IMPORT_KEY (R474): Unwraps and stores a key in a Chest slot. -/
  | chestImportKey (d : Nat)
  /-- CHEST_LIST_KEYS (R483): Lists slot IDs and usage. -/
  | chestListKeys (d : Nat)
  /-- CHEST_DELETE_KEY (R475): Erases a Chest slot. -/
  | chestDeleteKey (d : Nat)
  /-- CHEST_DEBUG_UNLOCK (R482): Wipes the Chest and opens the debug port on a valid token. -/
  | chestDebugUnlock (d : Nat)
  /-- SESSION_HANDSHAKE_TIMEOUT (R468): A session has not completed PART 4 within 10 s and ends. -/
  | sessionHandshakeTimeout (session : Nat)
  /-- ENTROPY_FAIL (R477): A random-source health test fails. -/
  | entropyFail
  /-- RESIDUE_MISMATCH (R487): A consumer finds a residue mismatch, poisons the token and counts it against the producing unit. -/
  | residueMismatch (unit : UnitId) (e : Nat) (group : Nat) (tok : Option Nat)
  /-- THERMAL_SAMPLE (R497): The thermal sensors are sampled every 1 ms and cross-checked, and TJ is updated. -/
  | thermalSample (readings : List Int)
  /-- SLACK_WINDOW_END (R506): A 1 ms slack window ends and class slack is recorded. -/
  | slackWindowEnd (samples : List SlackSample)
  /-- HEADER_ERROR (R79): A received word whose HEC fails, or a packet of undefined or device-direction type, or a nonzero TYPE-0 word, is discarded, counted as a header error, and on a HEC failure the receiver skips to the next marker's NEXT_PKT. -/
  | headerError (p : Nat) (r : LinkRun)
  /-- COLOUR_GROUP_LEAVE (R189): A colour slice finishes a row group and the group leaves the colour path in FIRST_ROW order; at the frame's last group EVT.REN.COLOUR_LATE is raised if any group was late. -/
  | colourGroupLeave (e : Nat)
  /-- SCRUB_SLOW (R366): A scrub lap passes 60 s without ending, and EVT.MEM.SCRUB_SLOW is raised once for that lap. -/
  | scrubSlow (bank : Nat)
  /-- COMPARE_PULSE_END (R403): The pulse width of a fired compare unit elapses and its GPIO is driven low again. -/
  | comparePulseEnd (n : Nat)
  /-- ENTROPY_PASS (R477): The random source's health tests pass again, so SESSION_OPEN, STORE.FORM_SET and STORE.CLIP_START stop completing with BUSY. -/
  | entropyPass
  deriving DecidableEq, Repr

end Sys2Proof
end

