-- ==== Sys2Proof/Config.lean ====
section
/-! DEFINITION. What an implementation or a part fixes, and the values the spec leaves open: constants without a body, so
that no proof can see what they are. Log entries name each. -/

namespace Sys2Proof.Config

/-- A free value of `w` bits: the spec states no result; applied to the model's counter `sys.free` (log 3). -/
opaque freeBits : Nat → Nat → Nat

/-- A free choice between two outcomes (log 3). -/
opaque freeBool : Nat → Bool

/-- The number that a code the spec names and does not number has: a table of the implementation, by name of the list and
position in it (log 14). -/
opaque code : String → Nat → Nat

/-- A 24-bit sample with a gain of `g` half decibels applied; the spec gives no rounding (R422, log 6). -/
opaque audioGain : Int → Int → Int

/-- CAERNE_VID, the Caerne PCI vendor identifier (R3; its value is not in the spec, log 4). -/
opaque caerneVid : Nat

/-- DEVICE_UID, 64 bits (R457, log 4). -/
opaque deviceUid : Nat

/-- The MAC address from fuses (R446, log 4). -/
opaque mac : Nat

/-- CAERNE_KEY_HASH and MAKER_KEY_HASH, 48 bytes each (R457, log 4). -/
opaque caerneKeyHash : Bytes
opaque makerKeyHash : Bytes

/-- ID_CERT, 304 bytes (R457, Table 16-3, log 4). -/
opaque idCert : Bytes

/-- SHA-384 (FIPS 180-4), 48 bytes (R458, log 5). -/
opaque sha384 : Bytes → Bytes

/-- ECDSA on P-384 with SHA-384: the public key X then Y verifies the signature r then s of the message (R458, log 5). -/
opaque ecdsaVerify : Bytes → Bytes → Bytes → Bool

/-- IDENTITY_SEED, 32 bytes (R457, log 4). -/
opaque identitySeed : Bytes

/-- The private key with which a device in debug signs (R482; the spec derives it from nothing it names, log 4). -/
opaque debugKey : Nat

/-- ECDSA on P-384 with SHA-384: signature r then s of a message by private key d, and the public key d·G as X then Y (R458, R462, log 5). -/
opaque ecdsaSign : Nat → Bytes → Bytes
opaque publicKey : Nat → Bytes

/-- An ephemeral key pair of the random source's n-th request: private key and public key (R466, R477, log 5). -/
opaque ephemeral : Nat → Bytes × Bytes

/-- n random bytes of the random source's k-th request (R477, log 5). -/
opaque randomBytes : Nat → Nat → Bytes

/-- x-coordinate of ECDH on P-384, from a private and a public key (R466, log 5). -/
opaque ecdh : Bytes → Bytes → Bytes

/-- HKDF-SHA-384 extract (salt, ikm) and expand (prk, label, length), RFC 5869 (R466, log 5). -/
opaque hkdfExtract : Bytes → Bytes → Bytes
opaque hkdfExpand : Bytes → Bytes → Nat → Bytes

/-- AES-256-GCM: seal (key, nonce, associated data, plaintext) gives ciphertext and tag; open (key, nonce, associated
data, ciphertext, tag) gives the plaintext of a tag that verifies (R438, R469, log 5). -/
opaque gcmSeal : Bytes → Bytes → Bytes → Bytes → Bytes × Bytes
opaque gcmOpen : Bytes → Bytes → Bytes → Bytes → Bytes → Option Bytes

/-- RFC 3394 AES key wrap and unwrap (key-encryption key, data) (R472, log 5). -/
opaque keyWrap : Bytes → Bytes → Bytes
opaque keyUnwrap : Bytes → Bytes → Option Bytes

/-- Caerne's gradient model: the prediction of a sensor from all readings of the sample, in quarter degrees (R497, log 6). -/
opaque gradient : List Int → Nat → Int

/-- The SHA-384 that firmware holds for a Bench self-test plan (R496, log 6). -/
opaque benchDigest : Nat → Bytes

/-- Junction temperature of a plan corner and of an ordering code need no constant: Table 1-5 and Table 0-1 give them. The
byte offset in a plan image of the item on which validation check n refuses, where the spec gives no layout (log 7). -/
opaque planOffset : Nat → PlanImage → Nat × Nat

/-- Minimum latency in ticks of a stage class at a corner (Table 2-4 check 10; the spec states no values, log 7). -/
opaque minLatency : Nat → Nat → Nat

/-- Bytes per second of Attic traffic that a plan's line buffers cause, as Attogo reports it (R203; no values in the spec, log 7). -/
opaque lineTraffic : Plan → Nat

/-- Cellar pages that a context's GOP structure and level need for its pictures (R223; no formula in the spec, log 44). -/
opaque statePages : HevcEntry → Nat

/-- Header bytes that a context's tile and slice counts need (R239; no formula in the spec, log 44). -/
opaque headerNeed : HevcEntry → Nat

/-- Size in bytes of CTU `c` of the picture of free choice `n`: coded normally, and in floor form (R239, R240; the encoder's
choices and CABAC are not fixed by the spec, log 45). -/
opaque ctuNormal : Nat → Nat → Nat
opaque ctuFloor : Nat → Nat → Nat

/-- Payload of a NAL unit of the picture of free choice `n`, without slice data (R231; the coding of its syntax elements is H.265's,
log 45), and the slice data of the picture's slices, joined. -/
opaque nalPayload : Nat → CodedNal → Bytes
opaque sliceData : Nat → Bytes

/-- Merge candidates of CTU `c` of that picture coded as one CU: per list, reference index and motion vector, if it uses that list
(R239, log 45). -/
opaque mergeCandidates : Nat → Nat → List (Option (Nat × Int × Int) × Option (Nat × Int × Int))

/-- DC coefficients of the transform blocks of CTU `c` of that picture coded as one intra CU, before R239 limits them (log 45). -/
opaque dcCoefficients : Nat → Nat → List Int

/-- Filler-data NAL units of `n` bytes (R240, H.265, log 45). -/
opaque fillerNal : Nat → Bytes

/-- Samples of the picture that a coded picture of free choice `n` reconstructs (R339, log 45). -/
opaque codedPicture : Nat → List (List Nat)

/-- First Cellar line of context `i`'s state region, or of its coded-output or bitstream buffer (R248; the spec gives the placement of
neither, log 54). -/
opaque ctxBase : Nat → Bool → Nat

/-- The syntax of an access unit, from the parameter sets received, the POC of the previous picture and the unit (H.265, log 45). -/
opaque auInfo : Bytes → Int → Bytes → AuInfo

/-- H.265 reconstruction: parameter sets, access unit, and the samples of its reference pictures by POC (log 45). -/
opaque reconstruct : Bytes → Bytes → List (Int × List (List Nat)) → List (List Nat)

/-- The picture hash of a form over a picture's samples (H.265 Annex D, log 45). -/
opaque pictureHash : Nat → List (List Nat) → Bytes

/-- Cellar lines per second that a plan moves, as Attogo reports them (R375; no formula in the spec, log 7). -/
opaque cellarLines : Plan → Nat

/-- RATIO and OFFSET that a PIPE.SET_CAL buffer loads: the spec names them among the values loaded and gives them no place in
the buffer (R156, log 36). -/
opaque setCalRatio : Bytes → Nat
opaque setCalOffset : Bytes → Nat

/-- Whether an identity curve entry whose exact value is no integer takes the integer above it (R212, log 43). -/
opaque identityUp : Nat → Bool

/-- A transfer function (1 PQ, 2 HLG, 3 BT.709) on a LUT-output code, in units of 2⁻¹⁸: the device's 4,097-point table is not in
the spec (R208, log 43). -/
opaque transfer : Nat → Nat → Nat

/-- A Y′CbCr result in units of 2⁻³⁴ kept to units of 2⁻¹⁸; the rounding is not in the spec (R208, log 43). -/
opaque keep18 : Int → Int

/-- A working code from its exact value, numerator and denominator; the rounding is not in the spec (R196, log 43). -/
opaque workingRound : Int → Nat → Int

/-- The content of Zstandard data block `i` of a block at an effort level, as a Compressed or RLE block: type and bytes. The match
finder is not in the spec (R346, R347, log 53). -/
opaque zstdBlock : Nat → Bytes → Nat → Nat × Bytes

/-- Decoding of a whole Zstandard frame by RFC 8878 (R349, log 53). -/
opaque zstdDecode : Bytes → Option Bytes

/-- The 31 bits that precede a test pattern, newest first (R99; the spec names no seed, log 60). -/
opaque prbsSeed : List Bool

/-- Content of a Cellar line that training or a pattern test has overwritten (R383, R384, log 54). -/
opaque lineFill : Nat → Nat → Bytes

/-- RAAIMT and RAAMMT that the LPDDR5X devices report in MR27, if they require refresh management (R382, log 54). -/
opaque mr27 : Option (Nat × Nat)

end Sys2Proof.Config
end

