-- ==== Sys2Proof/Machine/Bits.lean ====
section
/-! DEFINITION. Bit fields, signed fields, byte order (R6), the CRCs, and updates of indexed tables. -/

namespace Sys2Proof.Machine

open Sys2Proof

/-- Bits [lo + n - 1 : lo] of `v`. -/
def bits (v lo n : Nat) : Nat := v / 2 ^ lo % 2 ^ n

/-- Bit `i` of `v`. -/
def bit (v i : Nat) : Bool := v / 2 ^ i % 2 == 1

/-- 1 for true. -/
def b2n (b : Bool) : Nat := if b then 1 else 0

/-- `v` with bit `i` set to `b`. -/
def setBit (v i : Nat) (b : Bool) : Nat := v - b2n (bit v i) * 2 ^ i + b2n b * 2 ^ i

/-- The signed value of the low `w` bits. -/
def toInt (w n : Nat) : Int := if n % 2 ^ w < 2 ^ (w - 1) then (n % 2 ^ w : Nat) else (n % 2 ^ w : Nat) - (2 ^ w : Nat)

/-- A signed value in `w` bits of two's complement. -/
def ofInt (w : Nat) (x : Int) : Nat := (x % (2 ^ w : Nat)).toNat

/-- `n` bytes of `v`, little-endian (R6). -/
def le (n v : Nat) : Bytes :=
  match n with
  | 0 => []
  | n + 1 => BitVec.ofNat 8 v :: le n (v / 256)

/-- The value of bytes in little-endian order (R6). -/
def ofLe : Bytes → Nat
  | [] => 0
  | b :: bs => b.toNat + 256 * ofLe bs

/-- `n` bytes of `bs` from `o`; bytes past the end read 0. -/
def slice (bs : Bytes) (o n : Nat) : Bytes :=
  let r := (bs.drop o).take n
  r ++ List.replicate (n - r.length) 0

/-- The little-endian field of `n` bytes at `o`. -/
def fieldLe (bs : Bytes) (o n : Nat) : Nat := ofLe (slice bs o n)

/-- `bs` cut or padded with zero bytes to length `n`. -/
def padTo (n : Nat) (bs : Bytes) : Bytes := slice bs 0 n

/-- `bs` with `new` written at `o`; writes past the end are lost. -/
def splice (bs : Bytes) (o : Nat) (new : Bytes) : Bytes :=
  bs.take o ++ new.take (bs.length - o) ++ bs.drop (o + new.length)

/-- All bytes are 0. -/
def allZero (bs : Bytes) : Bool := bs.all (· == 0)

/-- ASCII text as bytes. -/
def ascii (t : String) : Bytes := t.toList.map fun c => BitVec.ofNat 8 c.toNat

/-- Entry `i` of a table, `default` past its end. -/
def at! {α : Type} [Inhabited α] (l : List α) (i : Nat) : α := l.getD i default

/-- A table with entry `i` changed by `f`. -/
def upd {α : Type} (l : List α) (i : Nat) (f : α → α) : List α := l.modify i f

/-- Sum of a list of naturals. -/
def sumNat (l : List Nat) : Nat := l.foldl (· + ·) 0

/-- `x` placed in a rising list. -/
def insertInt (x : Int) : List Int → List Int
  | [] => [x]
  | y :: r => if x ≤ y then x :: y :: r else y :: insertInt x r

/-- A list in rising order. -/
def sortInts (l : List Int) : List Int := l.foldr insertInt []

/-- The number is a power of two. -/
def isPow2 (n : Nat) : Bool := n != 0 && 2 ^ n.log2 == n

/-- Ceiling of a division. -/
def ceilDiv (a b : Nat) : Nat := (a + b - 1) / b

/-- Bits of a byte, most significant first. -/
def byteBits (b : Byte) : List Bool := (List.range 8).map fun i => b.getLsbD (7 - i)

/-- One step of a CRC of `w` bits, most significant bit first. -/
def crcStep (w poly : Nat) (c : Nat) (b : Bool) : Nat :=
  let top := bit c (w - 1)
  let c' := c * 2 % 2 ^ w
  if top != b then c' ^^^ poly else c'

/-- A CRC of `w` bits over bytes, most significant bit first. -/
def crcMsb (w poly init : Nat) (bs : Bytes) : Nat :=
  (bs.flatMap byteBits).foldl (crcStep w poly) init

/-- One step of a reflected 32-bit CRC. -/
def crcStepR (poly : Nat) (c : Nat) (b : Bool) : Nat :=
  if bit c 0 != b then c / 2 ^^^ poly else c / 2

/-- CRC-32C, reflected, initial and final complement (R164). -/
def crc32c (bs : Bytes) : Nat :=
  ((bs.flatMap fun b => (byteBits b).reverse).foldl (crcStepR 0x82F63B78) 0xFFFFFFFF) ^^^ 0xFFFFFFFF

end Sys2Proof.Machine
end

