-- ==== Sys2Proof/Machine/Mem.lean ====
section
/-! DEFINITION. Sparse memories: a list of (address, value) pairs with strictly rising addresses and no entry equal to what
an unlisted address reads as. Host memory is one of bytes, the Attic one of stored code words. -/

namespace Sys2Proof.Machine

open Sys2Proof

/-- What address `a` reads as; an unlisted address reads `d a`. -/
def Sparse.get {α : Type} (d : Nat → α) : List (Nat × α) → Nat → α
  | [], a => d a
  | (k, v) :: r, a => if a = k then v else if a < k then d a else Sparse.get d r a

/-- The memory with `v` written at `a`, in canonical form. -/
def Sparse.set {α : Type} [DecidableEq α] (d : Nat → α) : List (Nat × α) → Nat → α → List (Nat × α)
  | [], a, v => if v = d a then [] else [(a, v)]
  | (k, w) :: r, a, v =>
    if a = k then (if v = d a then r else (a, v) :: r)
    else if a < k then (if v = d a then (k, w) :: r else (a, v) :: (k, w) :: r)
    else (k, w) :: Sparse.set d r a v

/-- Canonical form: addresses strictly rising, all at least `lo`, and no entry equal to what its address reads as unlisted. -/
def Sparse.wfFrom {α : Type} [DecidableEq α] (d : Nat → α) : Nat → List (Nat × α) → Bool
  | _, [] => true
  | lo, (k, v) :: r => decide (lo ≤ k) && !decide (v = d k) && Sparse.wfFrom d (k + 1) r

/-- Host memory as the device sees it over PCIe (R441): bytes that nothing has written read 0 (log 8). -/
abbrev Memory := List Host.Cell

/-- The canonical form of a memory holds. -/
def Memory.wf (m : Memory) : Bool := Sparse.wfFrom (fun _ => (0 : Byte)) 0 m

/-- The byte at an address. -/
def Memory.read (m : Memory) (a : Nat) : Byte := Sparse.get (fun _ => 0) m a

/-- The memory with one byte written. -/
def Memory.write (m : Memory) (a : Nat) (b : Byte) : Memory := Sparse.set (fun _ => 0) m a b

/-- `n` bytes from `a` upward. -/
def Memory.readBytes (m : Memory) (a n : Nat) : Bytes := (List.range n).map fun i => m.read (a + i)

/-- The memory with bytes written from `a` upward. -/
def Memory.writeBytes (m : Memory) (a : Nat) : Bytes → Memory
  | [] => m
  | b :: bs => Memory.writeBytes (m.write a b) (a + 1) bs

end Sys2Proof.Machine
end

