-- ==== Sys2Proof/Machine/TypesHost.lean ====
section
/-! DEFINITION. State that faces the host: Drawers, event ring, MSI-X, registered buffers, rings, network
(15_mailbox_and_events.md), and the time base and audio ports (14_time_and_audio.md). Each field's comment gives its
width, the rule of spec/ that names it, and its reset value. -/

namespace Sys2Proof.Machine

open Sys2Proof

/-- The frame ticket (Table 2-6). SETTLING to POISON are the flag bits of byte 0x12. -/
structure Ticket where
  frame : Nat := 0
  planGen : Nat := 0
  pageGen : Nat := 0
  time : Nat := 0
  ports : Nat := 0
  shelf : Nat := 0
  entry : Nat := 0
  settling : Bool := false
  trunc : Bool := false
  concealed : Bool := false
  calframe : Bool := false
  poison : Bool := false
  stale : Nat := 0
  lastRow : Nat := 0
  shedMask : Nat := 0
  takeMask : Nat := 0
  deriving DecidableEq, Repr, Inhabited

/-- States of a Drawer (R433). -/
inductive DrawerSt where
  | free
  | busy
  | done
  deriving DecidableEq, Repr, Inhabited

/-- The copy of the command area that a doorbell takes (R433, Table 15-6), the payload in clear (R438). -/
structure DrawerCmd where
  opcode : Nat := 0
  seq : Nat := 0
  enc : Bool := false
  notify : Bool := false
  length : Nat := 0
  session : Nat := 0
  payload : Bytes := []
  deriving DecidableEq, Repr, Inhabited

/-- The result area of a Drawer (Table 15-7). -/
structure DrawerRes where
  status : Nat := 0
  seq : Nat := 0
  enc : Bool := false
  length : Nat := 0
  session : Nat := 0
  detail : Nat := 0
  payload : Bytes := []
  deriving DecidableEq, Repr, Inhabited

/-- One Drawer, 0–15 on PCIe and 16–19 remote (R432, R433, R447). -/
structure Drawer where
  /-- 2 bits; R433; Free -/
  st : DrawerSt := .free
  /-- 128 bytes; R432; 0 -/
  area : Bytes := []
  /-- 128 bytes, the accepted copy; R433; none accepted (0) -/
  cmd : DrawerCmd := default
  /-- 1 bit, the accepted command has begun and waits for its end; R435; 0 -/
  begun : Bool := false
  /-- 5 bits, the Drawer's number on its interface, 0–19; R469; 0 until a command is accepted -/
  num : Nat := 0
  /-- 1 bit, R449 has freed this command's Drawer and its result is discarded; R449; 0 -/
  orphan : Bool := false
  /-- 128 bytes; R434; 0 -/
  res : DrawerRes := default
  /-- 32 bits, source address of the last accepted datagram; R447; DESIGN CHOICE 0 (log 2) -/
  srcAddr : Nat := 0
  /-- 16 bits, source port of the last accepted datagram; R447; DESIGN CHOICE 0 (log 2) -/
  srcPort : Nat := 0
  deriving DecidableEq, Repr, Inhabited

/-- One MSI-X table entry (R430). -/
structure MsixEntry where
  addr : Nat := 0
  data : Nat := 0
  masked : Bool := true
  deriving DecidableEq, Repr, Inhabited

/-- An event as raised (Table 15-13), before it takes a place in the ring. -/
structure EventRec where
  num : Nat := 0
  inst : Nat := 0
  seq : Nat := 0
  time : Nat := 0
  args : List Nat := []
  ticket : Option Ticket := none
  deriving DecidableEq, Repr, Inhabited

/-- Entries of one vector that are posted and not yet signalled (R455, R303). -/
structure CoalGroup where
  vec : Nat := 0
  count : Nat := 0
  first : Nat := 0
  deriving DecidableEq, Repr, Inhabited

/-- What an event limited in rate has gathered since its last entry ("at most once per …"). -/
structure RateLimit where
  num : Nat := 0
  inst : Nat := 0
  last : Option Nat := none
  count : Nat := 0
  deriving DecidableEq, Repr, Inhabited

/-- Event control (Table 15-4), the posting state of R452 to R455, and MSI-X (R429, R430). -/
structure EvState where
  /-- 64 bits; R451; 0 -/
  base : Nat := 0
  /-- 32 bits; R451; 0 -/
  entries : Nat := 0
  /-- 1 bit; R451; 0 -/
  enable : Bool := false
  /-- 32 bits, the host's read index; R454; 0 -/
  head : Nat := 0
  /-- 32 bits, index of the next entry to post; R451; 0 -/
  idx : Nat := 0
  /-- 32 bits, entries posted and not released; R453; 0 -/
  used : Nat := 0
  /-- 1 bit; R451; 1 -/
  phase : Bool := true
  /-- 32 bits, EQ_LOST; R453; 0 -/
  lost : Nat := 0
  /-- 8 bits; R455; 0 -/
  coalCount : Nat := 0
  /-- 10 bits; R455; 0 -/
  coalTime : Nat := 0
  /-- 320 bits, EV_MASK_0 to EV_MASK_9; R453; 0 -/
  masks : List (BitVec 32) := List.replicate 10 0
  /-- 16 of 6 bits, VECTOR_k; R451; k -/
  vectors : List Nat := List.range 16
  /-- 32 bits, SEQ of the next event; R452; 0 -/
  seq : Nat := 0
  /-- up to 64 events kept while EQ_ENABLE is 0; R454; none -/
  kept : List EventRec := []
  /-- posted and unsignalled entries per vector; R455; none -/
  groups : List CoalGroup := []
  /-- 32 bits, refusals since the last overflow entry; R453; 0 -/
  refused : Nat := 0
  /-- 1 bit, an overflow entry is posted and the next one is due; R453; 0 -/
  overflow : Bool := false
  /-- rate limits of events; R453; none -/
  limits : List RateLimit := []
  /-- 64 of 16 bytes; R430; address and data DESIGN CHOICE 0 (log 2), masked (R523) -/
  msix : List MsixEntry := List.replicate 64 default
  /-- 64 bits, pending bit array; R430; 0 -/
  pba : Nat := 0
  /-- 64 counters, messages sent per vector (the model's record of what left); R455; 0 -/
  sent : List Nat := List.replicate 64 0
  deriving DecidableEq, Repr, Inhabited

/-- A host-registered buffer (R441). -/
structure HostBuf where
  id : Nat := 0
  addr : Nat := 0
  len : Nat := 0
  write : Bool := false
  deriving DecidableEq, Repr, Inhabited

/-- A ring in host memory that the device fills: a statistics ring (R128), a picture statistics ring (R253), an audio
ring (R426), a host frame ring (R444) or byte ring (R445). -/
structure HostRing where
  id : Nat := 0
  kind : Nat := 0
  addr : Nat := 0
  len : Nat := 0
  /-- entries, or SIZE of a byte ring -/
  entries : Nat := 0
  /-- slot length in bytes of a frame ring -/
  slot : Nat := 0
  /-- PRODUCED, 32 bits, or 64 bits for a byte ring -/
  produced : Nat := 0
  /-- the binding has received its first frame or access unit (R443) -/
  inUse : Bool := false
  deriving DecidableEq, Repr, Inhabited

/-- Network settings and the remote Drawers' counts (R446 to R449). -/
structure NetState where
  /-- 32 bits; R446; DESIGN CHOICE 0 (log 2) -/
  address : Nat := 0
  /-- 6 bits, 8–30; R446; DESIGN CHOICE 0 (log 2) -/
  maskLen : Nat := 0
  /-- 32 bits; R446; DESIGN CHOICE 0 (log 2) -/
  gateway : Nat := 0
  /-- 12 bits; R446; DESIGN CHOICE 0 (log 2) -/
  vlan : Nat := 0
  /-- 3 bits; R446; DESIGN CHOICE 0 (log 2) -/
  pcp : Nat := 0
  /-- 1 bit; R446; DESIGN CHOICE 0 (log 2) -/
  speed : Nat := 0
  /-- 1 bit; R446; DESIGN CHOICE 0 (log 2) -/
  fec : Nat := 0
  /-- 1 bit; R446, R447; 0, the remote Drawers are closed -/
  remote : Bool := false
  /-- 1 bit, SYSTEM.SET_NETWORK has been sent since reset; R519; 0 -/
  configured : Bool := false
  /-- 1 bit, the link is up; R446, R519; 0 -/
  up : Bool := false
  /-- which entry of the Drawer table serves remote Drawers 16–19; R447, R449; 16–19 -/
  map : List Nat := [16, 17, 18, 19]
  /-- count of dropped datagrams; R448; 0 -/
  drops : Nat := 0
  /-- last datagram or frame sent: destination address, port and bytes; R447, R446; none -/
  reply : Option Datagram := none
  /-- count of ARP answers; R446; 0 -/
  arpAnswers : Nat := 0
  /-- count of ICMP echo answers; R446; 0 -/
  echoAnswers : Nat := 0
  deriving DecidableEq, Repr, Inhabited

/-- States of the time base (Table 14-1). -/
inductive TimeSt where
  | unsync
  | acquiring
  | locked
  | holdover
  deriving DecidableEq, Repr, Inhabited

/-- Time configuration (Table 14-2). -/
structure TimeCfg where
  /-- 1 bit, true PTP follower; R417; 0 -/
  follower : Bool := false
  /-- 1 bit; R417; 0 -/
  acceptFirst : Bool := false
  /-- 1 bit; R417; 0 -/
  unicastDreq : Bool := false
  /-- 8 bits; R417; 127 -/
  domain : Nat := 127
  /-- 4 bits; R417; 3 -/
  announceTimeout : Nat := 3
  /-- 32 bits; R417; 1,000,000 -/
  jump : Nat := 1000000
  /-- 32 bits; R417; 1,000 -/
  lockNs : Nat := 1000
  /-- 32 bits; R417; 300 -/
  holdMax : Nat := 300
  /-- 16 bits; R417; 0x4000 -/
  kp : Nat := 0x4000
  /-- 16 bits; R417; 0x0400 -/
  ki : Nat := 0x0400
  /-- 32 bits; R417; 219,902,326 -/
  slew : Nat := 219902326
  /-- 16 bits signed; R417; 0 -/
  rxLat : Int := 0
  /-- 16 bits signed; R417; 0 -/
  txLat : Int := 0
  deriving DecidableEq, Repr, Inhabited

/-- One compare unit (R403). -/
structure CompareUnit where
  armed : Bool := false
  v : Nat := 0
  gpio : Option Nat := none
  width : Nat := 0
  /-- COUNT at which the pulse ends, while the GPIO is driven -/
  pulseEnd : Option Nat := none
  deriving DecidableEq, Repr, Inhabited

/-- One capture unit (R404). -/
structure CaptureUnit where
  gpio : Option Nat := none
  rising : Bool := true
  /-- COUNT of the last reported capture -/
  last : Option Nat := none
  /-- edges counted and not stamped -/
  skipped : Nat := 0
  deriving DecidableEq, Repr, Inhabited

/-- A Delay_Req that the device sent (R408, R409): `unicastTo` is the master's clockIdentity, `none` the multicast address. -/
structure DelayReqMsg where
  seq : Nat
  unicastTo : Option Nat
  udpChecksum : Nat
  /-- originTimestamp, the stamp written into the departing message -/
  seconds : Int
  nanoseconds : Int
  deriving DecidableEq, Repr, Inhabited

/-- The time base and PTP (R397 to R418). -/
structure TimeState where
  /-- 64 bits, COUNT; R397; 0 -/
  count : Nat := 0
  /-- 64 bits; R398, R400; 0 -/
  offset : Nat := 0
  /-- 64 bits; R398, R400; 0 -/
  anchor : Nat := 0
  /-- 32 bits signed, units 2⁻⁴⁰; R398, R400; 0 -/
  drift : Int := 0
  /-- 32 bits signed, units 2⁻⁴⁰; R410; DESIGN CHOICE 0 (log 2) -/
  freq : Int := 0
  /-- Table 14-2; R417; its Reset column -/
  cfg : TimeCfg := default
  /-- 2 bits, STATE; R405; Unsynchronised -/
  st : TimeSt := .unsync
  /-- 1 bit; R412, R418; 0 -/
  stepPending : Bool := false
  /-- 1 bit; R401, R418; 0 -/
  refclkBad : Bool := false
  /-- 16 bits; R412, R418; 0 -/
  pendId : Nat := 0
  /-- 64 bits signed; R412, R418; 0 -/
  pendOffset : Int := 0
  /-- 64 bits signed, o at the last advance of PEND_ID; R412; 0 -/
  pendAdvance : Int := 0
  /-- 64 bits signed; R418; 0 -/
  lastOffset : Int := 0
  /-- 64 bits; R418; 0 -/
  pathDelay : Int := 0
  /-- 64 bits, clockIdentity; R418; 0 -/
  master : Nat := 0
  /-- 64 bits; R418; 0 -/
  grandmaster : Nat := 0
  /-- 64 bits, reading at entry to the state; R418; 0 -/
  since : Nat := 0
  /-- COUNT at entry to the state; R405; 0 -/
  sinceCount : Nat := 0
  /-- 32 bits; R418; 0 -/
  stepsRefused : Nat := 0
  /-- 512 bits; R418; 0 -/
  smpteTlv : Bytes := []
  /-- consecutive accepted Syncs with |o| ≤ LOCK_NS, up to 16; R411; 0 -/
  lockRun : Nat := 0
  /-- 1 bit, a pending step has been accepted since entry to Unsynchronised; R413; 0 -/
  firstTaken : Bool := false
  /-- the selected master's Announce; R408; none -/
  best : Option AnnounceMsg := none
  /-- COUNT at the last Announce of the selected master; R406; 0 -/
  lastAnnounce : Nat := 0
  /-- COUNT at the last accepted Sync; R406; 0 -/
  lastSync : Nat := 0
  /-- readings t1 and t2 of the last Sync, corrected; R410; none -/
  sync : Option (Int × Int) := none
  /-- reading of the previous accepted Sync; R410; none -/
  prevSync : Option Nat := none
  /-- sequence number and t3 of the outstanding Delay_Req; R409; none -/
  delayReq : Option (Nat × Int) := none
  /-- the last Delay_Req that left; R408, R409; none -/
  dreqSent : Option DelayReqMsg := none
  /-- sequence number of the next Delay_Req; R409; DESIGN CHOICE 0 (log 2) -/
  delaySeq : Nat := 0
  /-- Delay_Req interval in ticks that the master's Delay_Resp sets; R408; DESIGN CHOICE 1 s (log 2) -/
  delayInterval : Nat := 1000000000
  /-- DRIFT over the last 16 s in Locked, oldest first, with the COUNT at which each value was set; R407; none -/
  driftHist : List (Nat × Int) := []
  /-- COUNT of the last holdover drift update; R407; 0 -/
  lastHoldUpdate : Nat := 0
  /-- 8 units; R403; disarmed (log 2) -/
  compares : List CompareUnit := List.replicate 8 default
  /-- 8 units; R404; unbound (log 2) -/
  captures : List CaptureUnit := List.replicate 8 default
  deriving DecidableEq, Repr, Inhabited

/-- A change of one audio channel that waits for its zero crossing (R422). -/
inductive AudioChange where
  | start
  | stop
  | mute (on : Bool)
  | gain (halfDb : Int)
  deriving DecidableEq, Repr, Inhabited

/-- One channel or slot of an audio direction (R422). -/
structure AudioChan where
  on : Bool := false
  muted : Bool := false
  /-- gain in steps of 0.5 dB, −120 to +48 -/
  gain : Int := 0
  waiting : Option AudioChange := none
  since : Nat := 0
  /-- the previous sample, 24 bits signed -/
  prev : Int := 0
  deriving DecidableEq, Repr, Inhabited

/-- The audio block being formed (R425). -/
structure AudioBlock where
  frames : List (List Int) := []
  time : Nat := 0
  gap : Bool := false
  gapTicks : Nat := 0
  discont : Bool := false
  muted : Bool := false
  repeats : Nat := 0
  clipped : Nat := 0
  unsync : Bool := false
  deriving DecidableEq, Repr, Inhabited

/-- One audio direction: PDM inputs, TDM receive, or TDM transmit (R419 to R427). -/
structure AudioDir where
  /-- 2 bits, 0 48 kHz, 1 96 kHz, 2 192 kHz; R419, R420; DESIGN CHOICE 0 (log 2) -/
  rate : Nat := 0
  /-- PDM_CLK in Hz; R419; DESIGN CHOICE 0 (log 2) -/
  pdmClk : Nat := 0
  /-- 2 bits, 0 MASTER, 1 FOLLOW, 2 SPLIT; R421; DESIGN CHOICE 0 (log 2) -/
  clocking : Nat := 0
  /-- 5 bits, slots of a frame; R420; DESIGN CHOICE 0 (log 2) -/
  slots : Nat := 0
  /-- 1 bit, bit clocks after frame sync; R420; DESIGN CHOICE 0 (log 2) -/
  delay : Nat := 0
  /-- 1 bit, sampling edge; R420; DESIGN CHOICE 0 (log 2) -/
  edge : Nat := 0
  /-- 16 sources of the transmit slots: 0 zero, 0x100 + c PDM channel, 0x200 + s receive slot; R420; DESIGN CHOICE 0 -/
  txSources : List Nat := []
  /-- 16 channels; R422; off, gain 0 dB (DESIGN CHOICE, log 2) -/
  chans : List AudioChan := List.replicate 16 default
  /-- 16 bits, slot mask in force; R424; DESIGN CHOICE 0 (log 2) -/
  mask : Nat := 0
  /-- 16 bits, staged mask; R424; none -/
  staged : Option Nat := none
  /-- frame syncs or output samples seen; R424; 0 -/
  frameCount : Nat := 0
  /-- last 64 frame-sync intervals that passed the glitch test, newest first; R423; none -/
  intervals : List Nat := []
  /-- the consecutive intervals outside P ± P / 8, newest first, 64 at most; R423; none -/
  odd : List Nat := []
  /-- P in ticks; R423; DESIGN CHOICE 0 (log 2), not yet known -/
  period : Nat := 0
  /-- reading of the last frame sync; R423; none -/
  lastSync : Option Nat := none
  /-- 1 bit, stopped under the first row of Table 14-4; R423; 0 -/
  stopped : Bool := false
  /-- 1 bit, transmit mute after a stop; R423; 0 -/
  txMute : Bool := false
  /-- counts of stops, glitches and rate changes; R427; 0 -/
  stops : Nat := 0
  glitches : Nat := 0
  rateChanges : Nat := 0
  /-- 32 bits, block count of the source; R425; 0 -/
  seq : Nat := 0
  /-- 1 bit each, the next block carries DISCONT or GAP; R424, R426, R423; 0 -/
  discontNext : Bool := false
  gapNext : Bool := false
  /-- TIME of the last frame; R425; 0 -/
  lastFrame : Nat := 0
  /-- the block being formed; R425; empty -/
  block : AudioBlock := default
  /-- the ring registered, and one that waits for the next block; R426; none -/
  ring : Option HostRing := none
  nextRing : Option HostRing := none
  /-- last samples driven on the transmit slots; R420; 0 -/
  txOut : List Int := []
  deriving DecidableEq, Repr, Inhabited

end Sys2Proof.Machine
end

