-- ==== Sys2Proof/Machine/TypesPipe.lean ====
section
/-! DEFINITION. State of the plans, sensor ports, frames in flight, front end, calibration and raw codec
(02_frame_plans.md to 06_raw_codec.md). -/

namespace Sys2Proof.Machine

open Sys2Proof

/-- States of a Shelf (Table 2-3). -/
inductive ShelfSt where
  | empty
  | loaded
  | active
  | draining
  deriving DecidableEq, Repr, Inhabited

/-- One Shelf (R33, R34). -/
structure Shelf where
  /-- 2 bits; R33; Empty -/
  st : ShelfSt := .empty
  /-- the validated plan; R35; none -/
  plan : Option Plan := none
  /-- 16 bits; R37; 0 -/
  gen : Nat := 0
  /-- 384 bits, DIGEST of the image; R31, R465; none (0) -/
  digest : Nat := 0
  /-- the image being written and the Drawer that waits for its result, the image's source Shelf for an edit; R34; none -/
  writing : Option (PlanImage × Nat) := none
  /-- 4 bits, ports of the mask on which an activation has completed and not yet taken effect; R34, R38; 0 -/
  pending : List Nat := []
  deriving DecidableEq, Repr, Inhabited

/-- Port states (Table 3-8). -/
inductive LinkSt where
  | down
  | training
  | up
  | asleep
  | test
  deriving DecidableEq, Repr, Inhabited

/-- One receive data lane (R70, R71, R96, R97, R152, Table 3-11). -/
structure Lane where
  /-- 1 bit; R71; 0 -/
  aligned : Bool := false
  /-- consecutive valid markers, up to 3; R71; 0 -/
  goodRun : Nat := 0
  /-- consecutive block positions without a valid marker; R71; 0 -/
  badRun : Nat := 0
  /-- 16 bits, MSEQ of the last valid marker; R71; none -/
  mseq : Option Nat := none
  /-- symbol of the port's clock at which the marker of the last block began; R69, R71; none -/
  arrival : Option Nat := none
  /-- 2 bits, level of the last data symbol decided; R67; 0 -/
  level : Nat := 0
  /-- 8 bits; R96, R102; 0 -/
  fom : Nat := 0
  /-- 8 bits; R102; 0xFF -/
  fomMin : Nat := 0xFF
  /-- 4 bits; R97, R102; 0 -/
  ctle : Nat := 0
  /-- 3 of 6 bits signed; R97, R102; 0 -/
  dfe : List Int := [0, 0, 0]
  /-- 6 bits; R152; DESIGN CHOICE 0 (log 2) -/
  phase : Nat := 0
  /-- 32 bits; R102; 0 -/
  markerErr : Nat := 0
  /-- 16 bits signed; R102; 0 -/
  skew : Int := 0
  /-- windows of the training sweep done, and the best (FOM, code) so far; R97, R152; 0 -/
  trainStep : Nat := 0
  trainBest : Nat × Nat := (0, 0)
  /-- the coefficient last stepped, its old value, and FOM before the step; R97; none -/
  trial : Option (Nat × Int × Nat) := none
  /-- reading since which each coefficient (CTLE, three taps, phase) stands at its end code; R97; none -/
  endSince : List (Option Nat) := List.replicate 5 none
  /-- pattern checker: symbols compared (48 bits) and errors (32 bits); R99; 0 -/
  patSymbols : Nat := 0
  patErrors : Nat := 0
  deriving DecidableEq, Repr, Inhabited

/-- Kinds of command the back channel carries (Table 3-6). -/
inductive BcKind where
  | cmdWrite (addr : Nat) (words : List Nat)
  | cmdRead (addr count : Nat)
  | exposure (integration gain target pageGen : Nat)
  | stream (start : Bool)
  | test (mode lanes : Nat)
  deriving DecidableEq, Repr, Inhabited

/-- Who waits for the answer of a back-channel command; `initList` is the list of SENSOR.START, and `linkList` the one that precedes
Training (R93, R95). -/
inductive BcOwner where
  | firmware
  | drawer (d : Nat)
  | initList
  | linkList
  deriving DecidableEq, Repr, Inhabited

/-- A command on the back channel, waiting or sent (R87). -/
structure BcCmd where
  kind : BcKind := .stream false
  owner : BcOwner := .firmware
  seq : Nat := 0
  attempts : Nat := 0
  deriving DecidableEq, Repr, Inhabited

/-- Whether BD and BK run (R92): stopped; running; or sending the 64 idle symbols after which they stop. -/
inductive BcPhase where
  | asleep
  | awake
  | entering
  deriving DecidableEq, Repr, Inhabited

/-- The back channel of a port (R85 to R92). -/
structure BackChan where
  /-- R92; asleep -/
  phase : BcPhase := .asleep
  /-- COUNT at which the marker of the last wake began, and its MSEQ (16 bits); R70, R92; DESIGN CHOICE 0 (log 59) -/
  wokeAt : Nat := 0
  mseq : Nat := 0
  /-- symbols from that marker to the end of the last packet, and the level then sent; R67, R69; 0 -/
  endSym : Nat := 0
  level : Nat := 0
  /-- the last transmission: idle symbols before it, then its levels, markers included; R66 to R70, R92; none -/
  idle : Nat := 0
  line : List Nat := []
  /-- 8 bits, SEQ of the next packet; R73; 0 -/
  seq : Nat := 0
  /-- commands not yet sent, oldest first; R89; none -/
  waiting : List BcCmd := []
  /-- the command that awaits its REPLY, with the COUNT at its last attempt; R87; none -/
  current : Option (BcCmd × Nat) := none
  /-- the last packet sent on BD; R72, R73, R75; none -/
  sent : Option LinkPacket := none
  /-- consecutive REPLY packets with RESULT 2; R103; 0 -/
  alertRun : Nat := 0
  /-- frame number of the last TRIGGER since SENSOR.START or the last entry to Down, and its schedule instant; R83; none -/
  trigger : Option (Nat × Int) := none
  deriving DecidableEq, Repr, Inhabited

/-- A pattern test or loopback in progress (R98, R99). -/
structure LaneTest where
  facility : Nat := 0
  pattern : Nat := 0
  lanes : Nat := 0
  symbols : Nat := 0
  errInterval : Nat := 0
  /-- the TEST packet has been answered and the test runs (R98) -/
  active : Bool := false
  /-- lanes that have reached the set symbol count -/
  lanesDone : Nat := 0
  /-- the Drawer of SENSOR.TEST that waits for the answer to the TEST packet -/
  drawer : Option Nat := none
  deriving DecidableEq, Repr, Inhabited

/-- A deliberate link fault (R101). -/
structure Injection where
  mode : Nat := 0
  typeMask : Nat := 0
  every : Nat := 1
  count : Nat := 0
  byte : Nat := 0
  bit : Nat := 0
  /-- packets selected so far, and actions done -/
  seen : Nat := 0
  acts : Nat := 0
  /-- the packet held for REORDER -/
  held : Option LinkPacket := none
  deriving DecidableEq, Repr, Inhabited

/-- The counters of Table 3-11. -/
structure LinkStats where
  pktGood : Nat := 0
  crcErr : Nat := 0
  hdrErr : Nat := 0
  seqGap : Nat := 0
  seqLate : Nat := 0
  protoErr : Nat := 0
  missing : Nat := 0
  linkDowns : Nat := 0
  sleeps : Nat := 0
  bcRetry : Nat := 0
  bcFail : Nat := 0
  deriving DecidableEq, Repr, Inhabited

/-- One row in an intake buffer (R104). `none` marks a missing sample (R80). -/
structure IRow where
  frame : Nat := 0
  row : Nat := 0
  samples : List (Option Nat) := []
  complete : Bool := false
  /-- readings at the acceptance of its first and of its last sample (R127) -/
  begun : Nat := 0
  time : Nat := 0
  deriving DecidableEq, Repr, Inhabited

/-- A member's part of the frame in progress (R80 to R82, R107). -/
structure FramePart where
  /-- frame number whose rows this member receives -/
  frame : Nat := 0
  opened : Bool := false
  closed : Bool := true
  expRow : Nat := 0
  expPix : Nat := 0
  lastRow : Option Nat := none
  /-- SFC of the part's FRAME_START or FRAME_END -/
  sfc : Option Nat := none
  /-- number of the last frame whose part this member has closed since SENSOR.START; R81; none -/
  lastClosed : Option Nat := none
  /-- frame and SFC of the member's previous part; R85; none -/
  past : Option (Nat × Nat) := none
  /-- the device discards samples of this frame (R55, R105) -/
  discarding : Bool := false
  /-- row T from which the frame is truncated (R105, R106) -/
  truncAt : Option Nat := none
  /-- exposure echo of its FRAME_START: EXP_SEQ, INTEGRATION, GAIN (R81, R132) -/
  echo : Option (Nat × Nat × Nat) := none
  /-- the echo has been compared (R132) -/
  compared : Bool := false
  deriving DecidableEq, Repr, Inhabited

/-- One physical sensor port (Table 3-8, Table 3-11, R104). -/
structure Port where
  /-- 3 bits; R93; Down -/
  st : LinkSt := .down
  /-- 1 bit, CK is present; R93; DESIGN CHOICE 0 (log 2) -/
  ck : Bool := false
  /-- COUNT at entry to Training; R93; 0 -/
  trainStart : Nat := 0
  /-- 8 lanes; R63; Table 3-11 -/
  lanes : List Lane := List.replicate 8 default
  /-- 8 bits, SEQ of the last accepted packet; R79; none since port up -/
  rxSeq : Option Nat := none
  /-- 1 bit, skipping to the next marker's NEXT_PKT; R79; 0 -/
  skipping : Bool := false
  /-- lane of the stream's next byte, and bytes of it that precede the word a marker's NEXT_PKT names; R68, R70; 0 -/
  nextLane : Nat := 0
  drop : Nat := 0
  /-- Table 3-11; R102; 0 -/
  stats : LinkStats := default
  /-- R92; asleep -/
  bc : BackChan := default
  /-- 1 bit, discard until a FRAME_START (R82); 0 -/
  waitStart : Bool := false
  /-- R80 to R82; no frame -/
  part : FramePart := default
  /-- rows in the 2 MiB intake buffer; R104; none -/
  intake : List IRow := []
  /-- COUNT and DURATION of the last SLEEP; R90, R91; none -/
  sleepAt : Option (Nat × Nat) := none
  /-- R98; none -/
  test : Option LaneTest := none
  /-- R101; none -/
  inject : Option Injection := none
  /-- 2 defect banks of up to 131,072 entries of 64 bits; R115, R116; DESIGN CHOICE empty (log 2) -/
  defects : List (List (BitVec 64)) := [[], []]
  /-- 1 bit, defect bank the next ticket takes; R116; DESIGN CHOICE 0 (log 2) -/
  defBank : Nat := 0
  /-- 2 shading banks of 4 × 2,145 nodes of 16 bits; R122; DESIGN CHOICE unity gain 8,192 (log 2), held as the empty list -/
  shading : List (List Nat) := [[], []]
  /-- 1 bit, shading bank the next ticket takes; R122; DESIGN CHOICE 0 (log 2) -/
  shadeBank : Nat := 0
  /-- 1 bit each, a loaded bank waits for the next ticket issue; R116, R122; 0 -/
  defNext : Bool := false
  shadeNext : Bool := false
  /-- pattern error injector and loopback of the back channel (R98); 0 -/
  bcPattern : Nat := 0
  deriving DecidableEq, Repr, Inhabited

/-- The parameter page (Table 2-5). -/
structure Page where
  pageGen : Nat := 0
  ports : Nat := 0
  exposure : Nat := 0
  sensorGain : Nat := 0
  wb : List Nat := [16384, 16384, 16384]
  rawDelta : Nat := 0
  bank : List Nat := List.replicate 16 0
  qpDelta : List Int := List.replicate 16 0
  stage : Bytes := []
  deriving DecidableEq, Repr, Inhabited

/-- One copy of a port's estimates (R139, R141 to R143): blf and fpf per gain and column, g_r and o. -/
structure Estimates where
  blf : List (List Nat) := []
  fpf : List (List Int) := []
  ratio : Nat := 131072
  offset : Int := 0
  /-- a valid estimate of each gain and column, and of the ratio, has been taken since the cold-start values (R141, R143) -/
  seen : List (List Bool) := []
  ratioSeen : Bool := false
  deriving DecidableEq, Repr, Inhabited

/-- Sums that calibration takes from a frame (R141 to R143, R149). Per gain and column. -/
structure CalSums where
  /-- OB rows: (sum of x, count) per column, per gain -/
  ob : List (List (Nat × Nat)) := []
  obTotal : Nat := 0
  obPoison : Nat := 0
  /-- dark image samples: (sum of v, count) -/
  dark : List (List (Int × Nat)) := []
  /-- all image samples: (sum of v, count), for a dark calibration frame -/
  all : List (List (Int × Nat)) := []
  /-- all rows: (sum of x, count), for a dark calibration frame with OB_ROWS 0 -/
  allX : List (List (Nat × Nat)) := []
  /-- ratio fit: n, sl, sh, sll, slh -/
  n : Nat := 0
  sl : Int := 0
  sh : Int := 0
  sll : Int := 0
  slh : Int := 0
  deriving DecidableEq, Repr, Inhabited

/-- What firmware's calibration reads of a posted statistics block (R139): the ticket, the sums, whether the frame is a
calibration frame of which kind, and whether its estimates are to be discarded (R151). -/
structure CalIn where
  ticket : Ticket := default
  sums : CalSums := default
  ratio : Bool := false
  discard : Bool := false
  deriving DecidableEq, Repr, Inhabited

/-- A calibration frame scheduled or last run (R147 to R151, Table 5-3). -/
structure CalFrame where
  /-- 0 none; 1 scheduled; 2 packet sent -/
  state : Nat := 0
  /-- true: ratio; false: dark -/
  ratio : Bool := false
  frame : Nat := 0
  /-- COUNT at the ticket issue of the last one -/
  last : Option Nat := none
  /-- estimates of the frame are to be discarded (R151) -/
  discard : Bool := false
  /-- the Drawer of PIPE.CAL_FRAME that waits for C -/
  drawer : Option Nat := none
  /-- the next firmware commit restores the exposure in force before C (R148) -/
  restore : Option Nat := none
  /-- EVT.CAL.FRAME_SCHEDULED has been raised, so that C is fixed and firmware's next commit sends the setting (R148) -/
  fixed : Bool := false
  /-- PAGE_GEN of that commit, by which its packet is known (R132) -/
  pageGen : Nat := 0
  /-- exposure of the calibration setting in ticks (R148) -/
  exposure : Nat := 0
  deriving DecidableEq, Repr, Inhabited

/-- A plan switch that waits on a port (R38, R40). -/
structure PendingSwitch where
  shelf : Nat := 0
  drain : Bool := false
  deriving DecidableEq, Repr, Inhabited

/-- What the device keeps per port or bond, at the bond's lead port (R38 to R61, R130 to R133, R138 to R157, R178). `shelf`, `switch`,
`holds` and `holdNext` stand at every port by itself. -/
structure Sensor where
  /-- 3 bits, Shelf whose plan drives the port; R33; none -/
  shelf : Option Nat := none
  /-- R38; none -/
  switch : Option PendingSwitch := none
  /-- 1 bit, SENSOR.START has been accepted and the first ticket has not been issued; R38, R61; 0 -/
  fresh : Bool := false
  /-- 1 bit, the initialisation list that precedes Training is on the back channel; R93, R95; 0 -/
  listing : Bool := false
  /-- 1 bit; R95, Table 15-10; 0 -/
  started : Bool := false
  /-- SENSOR.START runs its initialisation list: the Drawer; R95; none -/
  starting : Option Nat := none
  /-- SENSOR.STOP, or a power-state entry or safe loop, waits for vertical blanking; Table 15-10; none (0xFF: no Drawer) -/
  stopping : Option Nat := none
  /-- 32 bits, number of the next frame; R51; 0 -/
  nextFrame : Nat := 0
  /-- number and SFC of the last opened frame; R133; none -/
  lastOpen : Option (Nat × Nat) := none
  /-- a ticket or a skip has been taken for the frame about to open: its number and ticket-table entry; R82; none -/
  upcoming : Option (Nat × Option Nat) := none
  /-- frames still to carry SETTLING; R42, R61; 0 -/
  settle : Nat := 0
  /-- the section that last drove the port, kept when its Shelf is released; R145, R178; none -/
  ran : Option PortPlan := none
  /-- R43; the plan's cold-start values at the first switch (R44) -/
  staging : Page := default
  /-- R43; as staging -/
  page : Page := default
  /-- 1 bit, the committed page has taken the plan's cold-start values since reset; R44; 0 -/
  pageSet : Bool := false
  /-- policies 0–3 held; R58, R59; not held -/
  holds : List Bool := [false, false, false, false]
  /-- policies 0–3 that the next ticket issue takes; R59; none -/
  holdNext : List Bool := [false, false, false, false]
  /-- SEQ, PAGE_GEN and TARGET of the last 16 EXPOSURE packets, newest first; R132; none -/
  expHist : List (Nat × Nat × Nat) := []
  /-- frame and COUNT of the bond's first FRAME_START of its last frames, newest first; R85; none -/
  bondStarts : List (Nat × Nat) := []
  /-- last frame start in triggered timing, and the lag of R150; R83, R416; 0 -/
  lastStart : Option Nat := none
  lag : Nat := 0
  /-- R128; none -/
  ring : Option HostRing := none
  nextRing : Option HostRing := none
  /-- five copies of the estimates; R139; the plan's cold-start values (R157) -/
  copies : List Estimates := List.replicate 5 default
  /-- 3 bits, copy that the next ticket takes; 5: none was free at a plan switch, and the plan's cold-start values stand in for one;
  R139, R145; 0 -/
  copy : Nat := 0
  /-- the estimates of the last ticket issue; R155; the plan's cold-start values -/
  inForce : Estimates := default
  /-- 3 bits, STALE that the next ticket takes, and as last fixed; R145; 0b111 -/
  stale : Nat := 7
  staleSeen : Nat := 7
  /-- 3 bits; R155; 0 -/
  validOnce : Nat := 0
  /-- consecutive ticketed frames that failed estimate j; R145; 0 -/
  failRun : List Nat := [0, 0, 0]
  /-- 64 bits, SINCE_BL, SINCE_DG, SINCE_FP; R146, R155; 0 -/
  since : List Nat := [0, 0, 0]
  /-- COUNT at those instants, from which the stale time runs; R146; 0 -/
  sinceAt : List Nat := [0, 0, 0]
  /-- EVT.CAL.STALE_LIMIT already raised, per bit; R146; no -/
  limitRaised : List Bool := [false, false, false]
  /-- 32 bits, FRAME_BL, FRAME_DG, FRAME_FP; R155; 0 -/
  lastUpdate : List Nat := [0, 0, 0]
  /-- R147 to R155; none -/
  cal : CalFrame := default
  /-- 5 bits, raw ladder index as the frames so far leave it; R177, R178; the DELTA_INIT rung at SENSOR.START -/
  ladder : Nat := 0
  /-- 5 bits, the index that the next ticketed frame starts from instead, since it has been set from DELTA_INIT; R178; none -/
  ladderInit : Option Nat := none
  /-- renditions shed for slack; R60, R507; 0 -/
  shedSlack : Nat := 0
  /-- renditions shed at the last ticket, and tickets since the last restoration; R60; 0 -/
  shedNow : Nat := 0
  restoreWait : Nat := 0
  /-- reading since which every cause of shedding has cleared; R60; none -/
  clearSince : Option Nat := none
  /-- tickets issued since reset; R508; 0 -/
  tickets : Nat := 0
  /-- consecutive frames with the class below SLACK_LOW, per KIND; R507; 0 -/
  lowRun : List Nat := List.replicate 5 0
  /-- frames since slack last shed a rendition; R507; 0 -/
  slackWait : Nat := 0
  /-- lowest class slack since the last ticket, per KIND; R506; none -/
  spanSlack : List (Option Nat) := List.replicate 5 none
  /-- line-scan: reading of the last accepted edge, and edges ignored; R135; none -/
  lastEdge : Option Nat := none
  edgesIgnored : Nat := 0
  /-- line-scan: frames whose ticket an edge has issued and that no row has opened, oldest first: reading of the edge plus PERF_DELAY,
  frame number; R135; none -/
  scanNext : List (Nat × Nat) := []
  /-- line-scan: sensor row that is frame row 0, and rows of the frame so far; R135; none -/
  scanBase : Option Nat := none
  /-- line-scan: exposure settings on their way, oldest first: 0 committed, 1 packet sent, 2 answered; and FIRST_FRAME; R136; none -/
  scanExp : List (Nat × Nat) := []
  /-- ticks that finished holds of policy 4 have kept each stale time from running; R146; 0 -/
  paused : List Nat := [0, 0, 0]
  /-- histograms of the last statistics block; R148; none -/
  lastHist : List (List Nat) := []
  /-- posted blocks that calibration has yet to use, oldest first; R139; none -/
  calWaiting : List CalIn := []
  /-- PIPE.SET_CAL: estimates, VALID and holdover bins that the next ticket issue takes; R156; none -/
  calLoad : Option (Estimates × Nat × List (Int × Nat)) := none
  deriving DecidableEq, Repr, Inhabited

/-- One sample or merged sample of a data-path token (R15): its value and POISON. -/
structure Tok where
  v : Nat := 0
  poison : Bool := false
  deriving DecidableEq, Repr, Inhabited

/-- Progress of a row group through a router and its slices (R108 to R111, R189). -/
inductive GroupSt where
  | waiting
  | ready
  | dealt
  | left
  deriving DecidableEq, Repr, Inhabited

/-- One row group of a frame in the front end (R16, R108). -/
structure RowGroup where
  index : Nat := 0
  firstRow : Nat := 0
  rows : Nat := 0
  last : Bool := false
  trunc : Bool := false
  st : GroupSt := .waiting
  /-- router position it was dealt to -/
  pos : Nat := 0
  late : Bool := false
  /-- rows of raw samples read by the slice: sensor row and samples (its own rows and H rows each side) -/
  input : List (Nat × List (Option Nat)) := []
  /-- 3 bits, GEN of the slice position at the deal (Table 1-3) -/
  gen : Nat := 0
  /-- tokens that a residue mismatch has poisoned, counted through the group's rows (R485) -/
  bad : List Nat := []
  /-- tokens whose residues mismatch, counted from the group header, and the free choice of what they hold (R14, R485) -/
  upset : List (Nat × Nat) := []
  /-- rows that leave the front end: sensor row and tokens -/
  out : List (Nat × List Tok) := []
  deriving DecidableEq, Repr, Inhabited

/-- One zone record (Table 4-5): per channel the sum, clipped and counted samples; and the two focus sums. -/
structure Zone where
  sums : List Nat := [0, 0, 0, 0]
  clipped : List Nat := [0, 0, 0, 0]
  counts : List Nat := [0, 0, 0, 0]
  focusH : Nat := 0
  focusV : Nat := 0
  deriving DecidableEq, Repr, Inhabited

/-- Statistics of one frame (Table 4-3, Table 4-4), `hist` channel by channel as (bin, count) pairs of nonzero bins. -/
structure FrameStats where
  rowsDone : Nat := 0
  staticFixed : Nat := 0
  dynamicFixed : Nat := 0
  missing : Nat := 0
  clipTotal : Nat := 0
  feLate : Nat := 0
  defectUnfixed : Nat := 0
  expRow : Nat := 0
  row0Time : Nat := 0
  lastTime : Nat := 0
  /-- row whose last sample LAST_TIME times -/
  lastTimeRow : Nat := 0
  /-- exposure echo: EXP_SEQ, INTEGRATION, GAIN; absent when FRAME_START was lost -/
  echo : Option (Nat × Nat × Nat) := none
  expMatch : Bool := false
  expPageGen : Nat := 0
  embedded : Bytes := []
  embCut : Bool := false
  hist : List (List Nat) := []
  zones : List Zone := []
  cal : CalSums := default
  deriving DecidableEq, Repr, Inhabited

/-- A coded group in a raw coder's staging buffer (R176). -/
structure StagedGroup where
  j : Nat := 0
  main : Bytes := []
  coarse : Bytes := []
  floor : Bytes := []
  delta : Nat := 0
  poison : Bool := false
  deriving DecidableEq, Repr, Inhabited

/-- The raw coder's work on one frame (R159 to R183). -/
structure RawFrame where
  /-- bytes committed so far, the frame header first (R161) -/
  bytes : Bytes := []
  staged : List StagedGroup := []
  /-- sizes and sample counts of committed groups, in order of j -/
  done : List (Nat × Nat) := []
  /-- next group to start and next to commit, j counting every group of the frame's geometry -/
  nextStart : Nat := 0
  nextCommit : Nat := 0
  spent : Nat := 96
  floorFrom : Option Nat := none
  coarseCount : Nat := 0
  late : Nat := 0
  /-- 5 bits, the ladder index set at the ticket issue, if it was (R178), and that after the groups started so far (R177, R179) -/
  init : Option Nat := none
  idx : Option Nat := none
  /-- the first group's δ, in the frame header -/
  deltaStart : Nat := 0
  deltaLo : Nat := 0
  deltaHi : Nat := 0
  mainSeen : Bool := false
  written : Nat := 0
  poison : Bool := false
  /-- the first group has started, so the frame header is written -/
  header : Bool := false
  /-- every group of the frame has started (R177), and the trailer is written -/
  started : Bool := false
  trailer : Bool := false
  deriving DecidableEq, Repr, Inhabited

/-- One colour pixel token (R190): three components and the auxiliary value. -/
structure Px where
  c0 : Int := 0
  c1 : Int := 0
  c2 : Int := 0
  aux : Nat := 0
  poison : Bool := false
  deriving DecidableEq, Repr, Inhabited

/-- The colour path's work on one frame (R188 to R196). -/
structure ColourFrame where
  /-- groups dealt to colour slices, in order -/
  groups : List RowGroup := []
  /-- working-code rows that have left the path: image row and pixels -/
  rows : List (Nat × List Px) := []
  /-- per group that has left: the image row after its last, and the reading then, less the steps applied since the ticket -/
  lefts : List (Nat × Nat) := []
  late : Nat := 0
  finished : Bool := false
  deriving DecidableEq, Repr, Inhabited

/-- A decoded or review picture that feeds renditions, by its encoded component planes (R196). -/
structure SourcePicture where
  width : Nat := 0
  height : Nat := 0
  sub : Nat := 0
  ycc : Nat := 0
  fullRange : Bool := false
  bits : Nat := 0
  /-- component planes, each in row order -/
  planes : List (List Nat) := []
  concealed : Bool := false
  frame : Nat := 0
  time : Nat := 0
  deriving DecidableEq, Repr, Inhabited

/-- An entry of the ticket table: a frame in flight and everything granted to it (R49 to R54). -/
structure Entry where
  ticket : Ticket := default
  src : SourceId := .sensor 0
  /-- tickets that the port had issued before this one, which orders the frames of a port (R49) -/
  order : Nat := 0
  page : Page := default
  /-- sum of the steps applied since issue, which moves the frame's pending deadlines (R415) -/
  shift : Int := 0
  /-- estimate copy, and per member the defect and shading banks, that the ticket names -/
  copy : Nat := 0
  defBanks : List Nat := []
  shadeBanks : List Nat := []
  /-- allotment items that the frame still holds: pool, pages and the class whose end of frame releases them (R52) -/
  items : List (Nat × Nat × Nat) := []
  /-- stage classes 0 to 5 that have finished the frame -/
  ended : List Bool := List.replicate 6 false
  /-- the frame is closed at intake (R81, R108) -/
  closed : Bool := false
  /-- rows of the frame that exist for row groups -/
  rowCount : Nat := 0
  /-- per bond member, the first row it carries that is not complete (R107) -/
  fronts : List Nat := []
  /-- rows discarded after a truncation (R105) -/
  discarded : Nat := 0
  groups : List RowGroup := []
  stats : FrameStats := default
  statsPosted : Bool := false
  missRaised : Bool := false
  burstRaised : Bool := false
  raw : RawFrame := default
  rawMiss : Bool := false
  colour : ColourFrame := default
  picture : Option SourcePicture := none
  /-- rendition slots that have yet to deliver the frame's last token -/
  pendingDest : List Nat := []
  /-- the clip that recorded at the frame's ticket issue (R327) -/
  clip : Option Nat := none
  /-- a calibration frame's kind, true for ratio, and that its estimates are to be discarded (R149, R151) -/
  calRatio : Bool := false
  calDiscard : Bool := false
  deriving DecidableEq, Repr, Inhabited

end Sys2Proof.Machine
end

