-- ==== Sys2Proof/Machine/TypesSys.lean ====
section
/-! DEFINITION. State of boot, modes and power (18_bring_up_and_power_states.md), security (16_security.md), faults,
heat and slack (17_faults_thermal_supply.md). Each field's comment gives its width, the rule of spec/ that names it, and its
reset value. -/

namespace Sys2Proof.Machine

open Sys2Proof

/-- A boot image that the boot ROM has copied into the Attic (R458, R460). -/
structure BootImage where
  /-- the image's bytes, header first; R458 -/
  bytes : Bytes := []
  /-- 1 bit, the slot it came from, 0 A and 1 B; R465 -/
  slot : Nat := 0
  /-- 1 bit, it was the second choice of R460 -/
  fallback : Bool := false
  deriving DecidableEq, Repr, Inhabited

/-- One Chest slot (R473). -/
structure ChestSlot where
  key : Bytes := []
  id : Bytes := []
  usage : Nat := 0
  deriving DecidableEq, Repr, Inhabited

/-- Content of the boot flash regions of Table 18-2. -/
structure Flash where
  /-- 2 slots of 8 MiB, A and B; R514; DESIGN CHOICE empty (log 2) -/
  slots : List Bytes := [[], []]
  /-- 2 slot markers (SLOT, generation) whose CRC matches; R515; DESIGN CHOICE none (log 2) -/
  markers : List (Option (Nat × Nat)) := [none, none]
  /-- 64 KiB sealed Chest region, by content; R476; DESIGN CHOICE none (log 2) -/
  chest : List (Option ChestSlot) := []
  /-- 1 bit, the sealed region passes its tag; R476; DESIGN CHOICE 1 (log 2) -/
  chestIntact : Bool := true
  deriving DecidableEq, Repr, Inhabited

/-- Progress of the bring-up order of R519. -/
structure BringUp where
  /-- 1 bit, bring-up runs; R519; 0 -/
  running : Bool := false
  /-- 1 bit, step 4 has ended; R519; 0 -/
  trainDone : Bool := false
  /-- 4 bits, members initialised or refused; R519; 0 -/
  memberDone : List Bool := [false, false, false, false]
  /-- 1 bit, step 7 has been taken or skipped; R519; 0 -/
  mountTried : Bool := false
  deriving DecidableEq, Repr, Inhabited

/-- Boot, mode, stage and power (R26 to R29, R512 to R527). -/
structure SysState where
  /-- 1 bit, PORST_N is low; R512; 0 -/
  held : Bool := false
  /-- 1 bit, THERMTRIP_N is low and the core is held; R501; 0 -/
  tripped : Bool := false
  /-- the trip flag: sensor that tripped; R501; none -/
  tripFlag : Option Nat := none
  /-- 2 bits, STAGE; Table 15-2; 0 -/
  stage : Nat := 0
  /-- 1 bit, MODE: true Service; R26; 0 -/
  service : Bool := false
  /-- 2 bits, PSTATE; Table 15-2; 0 -/
  pstate : Nat := 0
  /-- 1 bit, BOOT_SEL as sampled; R513; DESIGN CHOICE 0 (log 2) -/
  bootSel : Bool := false
  /-- 2 bits, CEL_CFG as sampled; R513; DESIGN CHOICE 0 (log 2) -/
  celCfg : Nat := 0
  /-- 2 bits, ordering code: 0 04C, 1 08C, 2 12C, 3 12E; R4; DESIGN CHOICE 0 (log 2) -/
  ordering : Nat := 0
  /-- 6 bits, fused anti-rollback value 0–64; R457; DESIGN CHOICE 0 (log 2) -/
  rollback : Nat := 0
  /-- 1 bit, an advance of the anti-rollback value is due; R461; 0 -/
  rollbackDue : Bool := false
  /-- boot flash; R514; DESIGN CHOICE (log 2) -/
  flash : Flash := default
  /-- the image that the boot ROM has loaded and not yet checked; R460; none -/
  loading : Option BootImage := none
  /-- the running image in Attic bank 0; R458; none -/
  image : Option BootImage := none
  /-- bring-up; R519; not running -/
  bringUp : BringUp := default
  /-- ARG0 of the last fall into the safe loop, 0 none; R520; 0 -/
  safeCause : Nat := 0
  /-- COUNT at the last release of PORST_N, warm reset or exit from P2; R497; 0 -/
  runSince : Nat := 0
  /-- the firmware slots of the boot flash while the device runs from a PCIe boot, whose own slots are volatile; R514, R516; none -/
  aside : Option (List Bytes) := none
  /-- 1 bit, no image has run since the cold start or the entry to P3, so the Chest slots are still to be loaded; R476, R522; 1 -/
  cold : Bool := true
  /-- 5 bits, SDI0–SDI3 and the display were started before the entry to P2; R526; 0 -/
  outsBefore : Nat := 0
  /-- CID and slot of the Firmware Commit at STAGE 0 whose image is being booted; R517; none -/
  bootCommit : Option (Nat × Nat) := none
  /-- 32 bits, levels the device drives on GPIO 0–31; R403; DESIGN CHOICE 0 (log 2) -/
  gpio : Nat := 0
  /-- 32 bits, GPIO 0–31 that firmware has configured as outputs; R403, R537; 0 -/
  gpioOut : Nat := 0
  /-- 1 bit, MREFCLK0–MREFCLK3 run and MPERST_N0–MPERST_N3 are not driven low; R535; 0 -/
  mrefclk : Bool := false
  /-- the random source's requests so far; R477; 0 -/
  drbg : Nat := 0
  /-- 1 bit, an activation's handover has passed and the new firmware does not serve yet; R306, R436; 0 -/
  handover : Bool := false
  /-- the MODEL's own counter of free values taken; 0 (DESIGN CHOICE, log 3) -/
  free : Nat := 0
  deriving DecidableEq, Repr, Inhabited

/-- One session (R466 to R471). -/
structure Session where
  /-- 32 bits, SESSION -/
  id : Nat := 0
  /-- 2 bits: 1 Operator, 2 Production, 3 Maintenance -/
  role : Nat := 0
  /-- half-open: PART 4 has not been answered -/
  half : Bool := true
  /-- COUNT at SESSION_OPEN -/
  opened : Nat := 0
  hostKey : Bytes := []
  devKey : Bytes := []
  /-- ephemeral private key, erased once PART 4 has been answered -/
  devPriv : Bytes := []
  /-- certificate bytes received -/
  cert : Bytes := []
  /-- next PART expected -/
  part : Nat := 0
  kCmd : Bytes := []
  kRes : Bytes := []
  kWrap : Bytes := []
  /-- SEQ of the last encrypted command accepted, per Drawer 0–19 -/
  lastSeq : List (Option Nat) := List.replicate 20 none
  /-- COUNT of the last authenticated datagram, for a session used over the network -/
  lastRemote : Option Nat := none
  deriving DecidableEq, Repr, Inhabited

/-- A working key (R472): kind 0 the clip key of the clip now recording, 1 the host-area key of the mounted set, 2 a clip key
unwrapped for STORE.PLAY or a CLEAR read; with the Chest slot that wraps or unwrapped it. -/
structure WorkKey where
  kind : Nat := 0
  id : Nat := 0
  key : Bytes := []
  slot : Option Nat := none
  deriving DecidableEq, Repr, Inhabited

/-- Security state (R457 to R484). -/
structure SecState where
  /-- at most 8; R468; none -/
  sessions : List Session := []
  /-- keys of ended sessions that accepted commands still need; R471; none -/
  ended : List Session := []
  /-- 64 slots; R472; empty -/
  slots : List (Option ChestSlot) := List.replicate 64 none
  /-- working keys; R472; none -/
  working : List WorkKey := []
  /-- 1 bit, the random source fails its health tests; R477; 0 -/
  entropyBad : Bool := false
  /-- 384 bits, the identity private key d, which no command reads; R462; none before the boot ROM derives it -/
  identity : Option Nat := none
  /-- 1 bit, the debug access port is open; R481; DESIGN CHOICE 0, DEBUG_LOCK set (log 2) -/
  debugOpen : Bool := false
  /-- 2 bits, scopes granted; R481; 0 -/
  scopes : Nat := 0
  deriving DecidableEq, Repr, Inhabited

/-- States of a unit (Table 17-5). -/
inductive UnitSt where
  | active
  | spare
  | faulty
  | retired
  deriving DecidableEq, Repr, Inhabited

/-- One unit of Table 17-1 (R486 to R496). -/
structure UnitRec where
  kind : Nat := 0
  number : Nat := 0
  /-- 2 bits, STATE; R486; active, or spare for FS16–17 and CS24–26 -/
  st : UnitSt := .active
  /-- 8 bits, POSITION; R486; the unit's number, none for a spare or an unspared class -/
  pos : Option Nat := none
  /-- 8 bits, RETIRES; R495; 0 -/
  retires : Nat := 0
  /-- 32 bits, MISMATCH; R509; 0 -/
  mismatch : Nat := 0
  /-- 64 bits, LAST; R509; 0 -/
  last : Nat := 0
  /-- 64 bits, CHANGED; R509; 0 -/
  changed : Nat := 0
  /-- readings of the last FAULT_COUNT mismatches, newest first; R487; empty -/
  hist : List Nat := []
  deriving DecidableEq, Repr, Inhabited

/-- The unit map (R486, R494): units of KIND 0 to 4, and GEN per router position. -/
structure UnitMap where
  /-- 95 units in KIND then number order; R494; all in service -/
  units : List UnitRec := []
  /-- 3 bits per position 0–15; R486; 0 -/
  feGen : List Nat := List.replicate 16 0
  /-- 3 bits per position 0–23; R486; 0 -/
  csGen : List Nat := List.replicate 24 0
  /-- the Bench test that runs: unit, plan and Drawer; R495; none -/
  bench : Option (UnitId × Nat × Nat) := none
  deriving DecidableEq, Repr, Inhabited

/-- One thermal sensor (R497, R498, R501, Table 17-6). Temperatures in quarter degrees. -/
structure ThermSensor where
  /-- 16 bits signed, READING; R509; none yet (0) -/
  reading : Int := 0
  /-- 16 bits signed, DEVIATION; R509; 0 -/
  deviation : Int := 0
  /-- 16 bits signed, MAX; R509; none (0x8000) -/
  max : Option Int := none
  /-- 1 bit; R498; 0 -/
  suspect : Bool := false
  /-- 1 bit; R497; 0 -/
  learned : Bool := false
  /-- 1 bit; R501; 0 -/
  ignored : Bool := false
  /-- COUNT since which the reading differs by more than 8 °C; R498; none -/
  badSince : Option Nat := none
  /-- COUNT since which a suspect sensor lies within 4 °C; R498; none -/
  goodSince : Option Nat := none
  /-- the learned offset, in 1/64 of a quarter degree; R497; 0 -/
  offset : Int := 0
  /-- 1 bit, the last sample was 120 °C to 150 °C; R501; 0 -/
  hot : Bool := false
  deriving DecidableEq, Repr, Inhabited

/-- Heat (R497 to R503). -/
structure ThermState where
  /-- 28 sensors; R497; no sample -/
  sensors : List ThermSensor := List.replicate 28 default
  /-- 16 bits signed, TJ; R499; 0 before the first sample (DESIGN CHOICE, log 2) -/
  tj : Int := 0
  /-- 2 bits, level of Table 17-4 in force: 0 none, 1 100 °C, 2 105 °C, 3 the stop; R499; 0 -/
  level : Nat := 0
  /-- COUNT since which TJ has stayed below each clear level, 97, 102 and 107 °C; R499; none -/
  belowSince : List (Option Nat) := [none, none, none]
  /-- per port, the level its last ticket issue applied; R499; 0 -/
  applied : List Nat := [0, 0, 0, 0]
  /-- 1 bit, TJ lies outside the range; R503; 0 -/
  outOfRange : Bool := false
  /-- 3 bits, dies whose sensors are all used (logic, Attic 0, Attic 1); R498; 0 -/
  degraded : List Bool := [false, false, false]
  /-- samples taken since the last start; R497; 0 -/
  samples : Nat := 0
  deriving DecidableEq, Repr, Inhabited

/-- One bin of the holdover table (R153). -/
structure HoldBin where
  /-- 32 bits signed, R_b; 0 -/
  r : Int := 0
  /-- 16 bits, n_b; 0 -/
  n : Nat := 0
  deriving DecidableEq, Repr, Inhabited

/-- Slack of one unit class (Table 17-7). -/
structure SlackRec where
  /-- 11 bits, SLACK; 0 -/
  slack : Nat := 0
  /-- 11 bits, SLACK_MIN; 0x7FF -/
  min : Nat := 0x7FF
  /-- 32 bits, LOW_WINDOWS; 0 -/
  lowWindows : Nat := 0
  /-- 1 bit, the class is below SLACK_LOW; R507; 0 -/
  below : Bool := false
  deriving DecidableEq, Repr, Inhabited

end Sys2Proof.Machine
end

