-- ==== Sys2Proof/Machine/TypesRender.lean ====
section
/-! DEFINITION. State of the slice routers, renditions (07_colour_and_renditions.md), HEVC engines (08_video_coding.md),
SDI outputs and display heads (09_outputs_and_display.md), and host rings (R443). Each field's comment gives its width, the
rule of spec/ that names it, and its reset value. -/

namespace Sys2Proof.Machine

open Sys2Proof

/-- The row group that a slice at a router position holds (R109, R189): ticket-table entry, group index, and the physical
slice. -/
structure SliceJob where
  entry : Nat := 0
  group : Nat := 0
  unit : Nat := 0
  deriving DecidableEq, Repr, Inhabited

/-- One bank of a rendition slot (R209 to R212); `none` stands for the identity content of R212. -/
structure RendBank where
  /-- 274,625 words of 72 bits; R206; identity -/
  lut : Option (List Nat) := none
  /-- 3 × 4,096 entries of 18 bits; R205; identity -/
  curves : Option (List Nat) := none
  /-- 1 bit each, loaded since the bank last became inactive; R210, R211; 0 -/
  lutLoaded : Bool := false
  curvesLoaded : Bool := false
  deriving DecidableEq, Repr, Inhabited

/-- One rendition slot (R197, R209 to R215). -/
structure RendSlot where
  /-- 2 banks; R209; identity -/
  banks : List RendBank := [{}, {}]
  /-- 1 bit, BANK; R209; 0 -/
  bank : Nat := 0
  /-- FIRST_FRAME of a switch that waits; R211; none -/
  switchAt : Option Nat := none
  /-- 1 bit, a unit of the slot was retired; R215; 0 -/
  lost : Bool := false
  /-- 1 bit, the last ticket of the slot's source carried its bit of SHED_MASK; R214; 0 -/
  shed : Bool := false
  /-- contents of a bank that a KEEP flag has replaced, by table entry of the tickets that select it; R209, R211; none -/
  kept : List (Nat × RendBank) := []
  deriving DecidableEq, Repr, Inhabited

/-- A rendition frame, encoded (R208): component planes in row order, with what its destination needs of it. -/
structure RendFrame where
  slot : Nat := 0
  ticket : Ticket := default
  width : Nat := 0
  height : Nat := 0
  sub : Nat := 0
  bits : Nat := 0
  ycc : Nat := 0
  fullRange : Bool := false
  tf : Nat := 0
  planes : List (List Nat) := []
  filled : Bool := false
  poisoned : Bool := false
  doneTime : Nat := 0
  deriving DecidableEq, Repr, Inhabited

/-- States of a context (Table 8-5). -/
inductive CtxSt where
  | closed
  | openSt
  | draining
  deriving DecidableEq, Repr, Inhabited

/-- A long-term reference pin (R236, R237): the source FRAME it names, its kind, the frame whose picture it pins, whether that
picture is committed and its POC, whether the host has released it, and its signature. -/
structure LtrPin where
  frame : Nat := 0
  host : Bool := true
  target : Option Nat := none
  held : Bool := false
  poc : Int := 0
  release : Bool := false
  sig : List Nat := []
  deriving DecidableEq, Repr, Inhabited

/-- One source frame accepted by an encode context, in output order (R230 to R237). -/
structure CodeInput where
  ticket : Ticket := default
  /-- QP_DELTA of the frame's page for the slot that feeds the context (R242) -/
  qpDelta : Int := 0
  /-- the rendition does not deliver the frame (R233) -/
  missing : Bool := false
  /-- the rendition frame, once it has been received whole (R230) -/
  pic : Option RendFrame := none
  /-- green zone means of the frame's statistics block, and that the block is known or known missing (R237) -/
  zones : List Nat := []
  known : Bool := false
  /-- a forced IDR (R235) -/
  idr : Bool := false
  deriving DecidableEq, Repr, Inhabited

/-- One picture in decoding order (R231): TYPE 0 I, 1 P, 2 B. -/
structure CodeJob where
  input : CodeInput := default
  type : Nat := 0
  irap : Bool := false
  layer : Nat := 0
  poc : Int := 0
  shot : Bool := false
  policyPin : Bool := false
  /-- it is an IDR picture; it starts a new window (R228, R251), and one with the QP reset (R228) -/
  idr : Bool := false
  newWindow : Bool := false
  fresh : Bool := false
  deriving DecidableEq, Repr, Inhabited

/-- One access unit in a coded-output or bitstream buffer. -/
structure AccessUnit where
  data : Bytes := []
  frame : Nat := 0
  pic : Nat := 0
  irap : Bool := false
  time : Nat := 0
  /-- encode: its NAL units, by what they say (R231) -/
  nals : List CodedNal := []
  /-- reading at which a decode access unit became ready -/
  readyAt : Nat := 0
  /-- the source frame's ticket, and whether the source is a sensor -/
  ticket : Ticket := default
  sensor : Bool := false
  /-- the picture it codes, for a review ring (R339) -/
  picture : SourcePicture := default
  deriving DecidableEq, Repr, Inhabited

/-- One picture of a decoded picture buffer: its POC, samples, and whether it waits for output (R249, R250). -/
structure DpbPic where
  poc : Int := 0
  pic : SourcePicture := default
  waits : Bool := false
  /-- pictures decoded since it began to wait -/
  latency : Nat := 0
  deriving DecidableEq, Repr, Inhabited

/-- What a context stood at when its last mini-GOP formed (R231, R233). -/
structure GopStart where
  poc : Int := 0
  sinceIrap : Nat := 0
  prevZones : List Nat := []
  irapDue : Bool := false
  idrDue : Bool := false
  fresh : Bool := false
  deriving DecidableEq, Repr, Inhabited

/-- One HEVC context (R224 to R252). -/
structure HevcCtx where
  /-- 2 bits; R224; Closed -/
  st : CtxSt := .closed
  /-- the entry in force and the Shelf it stands on; R222; none -/
  entry : HevcEntry := default
  shelf : Nat := 0
  /-- 32 bits, picture count in decoding order; R225; 0 -/
  pic : Nat := 0
  /-- 32 bits, window index, and position in it; R240; 0 -/
  window : Nat := 0
  j : Nat := 0
  /-- 64 bits, spent in the window, and bytes carried into it; R240; 0 -/
  spent : Nat := 0
  carry : Nat := 0
  /-- 6 bits; R242; 0 -/
  qpBase : Nat := 0
  /-- entry values that take effect at the next window; R227; none -/
  nextEntry : Option HevcEntry := none
  /-- POC of the next source frame, and frames since the last IRAP; R231; 0 -/
  poc : Int := 0
  sinceIrap : Nat := 0
  /-- 1 bit each, the next delivered frame is an IRAP, and it is an IDR; R225, R233; 0 -/
  irapDue : Bool := false
  idrDue : Bool := false
  /-- 1 bit, the next IRAP starts a new window with the QP reset; R228; 0 -/
  fresh : Bool := false
  /-- 1 bit each, the 112 °C stop has stopped coding; it has ended and EVT.CODE.RESUMED is due; R228; 0 -/
  stopped : Bool := false
  resume : Bool := false
  /-- what the context stood at when its last mini-GOP formed; R233; 0 -/
  gopStart : GopStart := default
  /-- ticket of the last picture coded; R226; none -/
  lastTicket : Ticket := default
  /-- CODE.FORCE_IDR: the source FRAME from which the next input is an IDR; R235; none -/
  forceIdr : Option Nat := none
  /-- accepted inputs in output order that have no mini-GOP yet; R231; none -/
  inputs : List CodeInput := []
  /-- green zone means of the last taken frame whose mini-GOP has formed; R237; none -/
  prevZones : List Nat := []
  /-- pictures in decoding order, ready or waiting; R229; none -/
  jobs : List CodeJob := []
  /-- inputs discarded while Closed; R224; 0 -/
  discarded : Nat := 0
  /-- up to LTR_MAX pins, oldest first; R236; none -/
  pins : List LtrPin := []
  /-- coded-output buffer; R251; empty -/
  output : List AccessUnit := []
  /-- 1 bit, access units are discarded up to the next IRAP, how many, and the size of the first; R251; 0 -/
  losing : Bool := false
  lost : Nat := 0
  lostSize : Nat := 0
  /-- 1 bit, encode: the end-of-sequence NAL unit of a drain is in the buffer; decode: the last unit ended a sequence; R226; 0 -/
  eos : Bool := false
  /-- host bitstream ring; R244; none -/
  ring : Option HostRing := none
  /-- 64 bits, CONSUMED; R244; 0 -/
  consumed : Nat := 0
  /-- bitstream buffer; R244; empty -/
  stream : Bytes := []
  /-- whole access units of the buffer, oldest first; R230; none -/
  units : List AccessUnit := []
  /-- 1 bit, skipping up to an accepted IRAP; R245; 0 -/
  skipping : Bool := false
  /-- POC of the last decoded picture, and whether the last IRAP began a sequence; R250; 0 -/
  prevPoc : Int := 0
  noRasl : Bool := false
  /-- parameter sets received; R245; none -/
  psets : Bytes := []
  /-- decoded picture buffer, in decoding order; R249, R250; empty -/
  dpb : List DpbPic := []
  /-- output pictures complete in the Cellar that no ticket has taken; R49, R250; none -/
  shown : List SourcePicture := []
  /-- the most recent output picture since the last IRAP; R249; none -/
  lastShown : Option SourcePicture := none
  /-- 32 bits, output count from opening; R250; 0 -/
  outCount : Nat := 0
  deriving DecidableEq, Repr, Inhabited

/-- The picture an engine works on (R229): context, reading and COUNT at its start, and its coding deadline. -/
structure EnginePic where
  ctx : Nat := 0
  start : Nat := 0
  startCount : Nat := 0
  deadline : Nat := 0
  job : CodeJob := default
  au : AccessUnit := default
  /-- the watchdog, or a descriptor outside its regions, ended it (R247, R248) -/
  ended : Bool := false
  /-- free choices of the CTUs whose values a memory error spoiled (R372) -/
  spoiled : List Nat := []
  deriving DecidableEq, Repr, Inhabited

/-- One HEVC engine (R218, R229, R253). -/
structure Engine where
  /-- the picture in progress; R229; none -/
  cur : Option EnginePic := none
  /-- picture statistics ring, and one that waits for the next picture boundary; R253; none -/
  ring : Option HostRing := none
  nextRing : Option HostRing := none
  deriving DecidableEq, Repr, Inhabited

/-- A frame in an output or display buffer (R255 to R257): source FRAME, its ticket, and its samples. -/
structure BufFrame where
  frame : Nat := 0
  ticket : Ticket := default
  /-- samples in row order; SDI: Y, Cb, Cr planes; display: one plane of pixels -/
  planes : List (List Nat) := []
  /-- OFRAME or DFRAME in which the frame first appears (R260) -/
  shownAt : Nat := 0
  deriving DecidableEq, Repr, Inhabited

/-- Three frame buffers and their roles (R257). -/
structure FrameBufs where
  /-- 3 buffers; R255; nothing written -/
  bufs : List (Option BufFrame) := [none, none, none]
  /-- the scanned buffer; R257; none before the first commit -/
  scanned : Option Nat := none
  /-- the pending buffer; R257; none -/
  pend : Option Nat := none
  /-- buffers written whole by the host since they last became free; R272; none -/
  written : List Bool := [false, false, false]
  deriving DecidableEq, Repr, Inhabited

/-- Running states of an output (R275). -/
inductive OutSt where
  | stopped
  | starting
  | running
  deriving DecidableEq, Repr, Inhabited

/-- Counts of an output (R261, Table 15-10). -/
structure OutCounts where
  repeats : Nat := 0
  drops : Nat := 0
  underruns : Nat := 0
  deriving DecidableEq, Repr, Inhabited

/-- One SDI output (R255 to R268, R275). -/
structure Sdi where
  /-- 2 bits; R275; stopped -/
  st : OutSt := .stopped
  /-- 1 bit, the output stops at its next latch; R275; 0 -/
  stopping : Bool := false
  /-- the output starts again after that stop with another subsection; R264; none -/
  restart : Option SdiEntry := none
  /-- the entry in force; R265; MODE 0 -/
  entry : SdiEntry := default
  /-- 32 bits; R260; 0 -/
  oframe : Nat := 0
  /-- 3 buffers; R257; nothing written -/
  bufs : FrameBufs := {}
  /-- 32 bits signed, TC_OFFSET in force, and one that waits for the next latch; R267; 0, none -/
  tcOffset : Int := 0
  tcNext : Option Int := none
  /-- 1 bit, the rest of the frame is black; R268; 0 -/
  black : Bool := false
  /-- R261; 0 -/
  counts : OutCounts := {}
  /-- 64 bits signed, steps not yet re-phased; R263; 0 -/
  step : Int := 0
  /-- the buffer content on the wire; none: black; R258; none -/
  shown : Option BufFrame := none
  /-- 1 bit, the frame is a repeat; R258; 0 -/
  isRepeat : Bool := false
  /-- time address of the frame's ATC_LTC packet: hours, minutes, seconds, frames, second of a frame pair; R267; none -/
  timecode : Option (Nat × Nat × Nat × Nat × Bool) := none
  /-- ST 352 payload identifier: transfer 0 SDR, 1 PQ, 2 HLG, and BT.2020 colorimetry; R267; 0 -/
  transfer : Nat := 0
  bt2020 : Bool := false
  /-- lines of the frame on the wire of which a part is sent as narrow-range black after an uncorrectable memory error; R372; none -/
  spoiled : List Nat := []
  deriving DecidableEq, Repr, Inhabited

/-- One display head (R269 to R274). -/
structure Head where
  /-- 1 bit, HPD; R271; DESIGN CHOICE 0 (log 2) -/
  hpd : Bool := false
  /-- 1 bit, the link is trained and the head sends; R271; 0 -/
  up : Bool := false
  /-- 1 bit each, training runs while the pair is running; retrained: the head rejoins at the next latch; R271; 0 -/
  retrain : Bool := false
  rejoin : Bool := false
  /-- EDID or DisplayID read over AUX; R271; none -/
  edid : Bytes := []
  /-- 3 buffers; R257; nothing written -/
  bufs : FrameBufs := {}
  /-- 1 bit, BORDER for the rest of the frame, and whether the frame had an underrun; R273, R274; 0 -/
  border : Bool := false
  underrun : Bool := false
  /-- what the head shows; R258; BORDER -/
  shown : Option BufFrame := none
  /-- lines of the frame on the wire of which a part is sent as BORDER after an uncorrectable memory error; R372; none -/
  spoiled : List Nat := []
  deriving DecidableEq, Repr, Inhabited

/-- The display pair (R269 to R275). -/
structure Display where
  /-- 2 bits; R271; stopped -/
  st : OutSt := .stopped
  /-- 1 bit, both heads stop at the next latch; Table 15-10; 0 -/
  stopping : Bool := false
  /-- starts again with another entry; R264; none -/
  restart : Option DispEntry := none
  /-- the entry in force; R265; ENABLE 0 -/
  entry : DispEntry := default
  /-- heads HA and HB; R269 -/
  heads : List Head := [{}, {}]
  /-- 1 bit, training runs since DISPLAY.START, and COUNT then; R271; 0 -/
  training : Bool := false
  trainStart : Nat := 0
  /-- 32 bits; R260; 0 -/
  dframe : Nat := 0
  /-- 16 bits, match line in force, and one that waits for the next latch; R274; 0, none -/
  lineMatch : Nat := 0
  lineNext : Option Nat := none
  /-- 3 bits, events masked; R274; DESIGN CHOICE none masked (log 2) -/
  mask : Nat := 0
  /-- R261; 0 -/
  counts : OutCounts := {}
  /-- 1 bit, the frame is a repeat; R258; 0 -/
  isRepeat : Bool := false
  /-- 64 bits signed, steps not yet re-phased; R263; 0 -/
  step : Int := 0
  /-- what MSA, VSC and metadata SDPs state: EOTF 0 SDR, 1 PQ, 2 HLG, BT.2020 colorimetry, full range; R269; 0 -/
  eotf : Nat := 0
  bt2020 : Bool := false
  fullRange : Bool := false
  deriving DecidableEq, Repr, Inhabited

/-- One host ring of R443: the binding in use and one that waits for the next frame or access unit, and the rings' HOST_RING
events. -/
structure HostRingSlot where
  ring : Option HostRing := none
  nextRing : Option HostRing := none
  deriving DecidableEq, Repr, Inhabited

/-- One review ring in the Cellar (R339): its slots' pictures, oldest first, and the count of frames written. -/
structure Review where
  slots : Nat := 0
  frames : List SourcePicture := []
  written : Nat := 0
  /-- number of the next frame that gets a ticket; R49 -/
  next : Nat := 0
  deriving DecidableEq, Repr, Inhabited

end Sys2Proof.Machine
end

