-- ==== Sys2Proof/Machine/TypesMem.lean ====
section
/-! DEFINITION. State of the Attic, the Cellar, their arbiters, training and the dynamic pools
(13_attic_and_cellar.md). Each field's comment gives its width, the rule of spec/ that names it, and its reset value. -/

namespace Sys2Proof.Machine

open Sys2Proof

/-- The side array of one Attic page (R362, R363): 32 stored check bytes of 12 bits, and SEALED. -/
structure PageSide where
  checks : List Nat := []
  sealed : Bool := false
  deriving DecidableEq, Repr, Inhabited

/-- One entry of the memory error log (Table 13-3), with what R370 counts on it. -/
structure EccEntry where
  first : Nat := 0
  last : Nat := 0
  addr : Nat := 0
  resource : Nat := 0
  kind : Nat := 0
  scrub : Bool := false
  faulty : Bool := false
  repaired : Bool := false
  count : Nat := 0
  symbols : Nat := 0
  cls : Nat := 0
  /-- byte columns of the row in which a fault was seen; R370 -/
  cols : List Nat := []
  /-- number of the last lap whose scrub incremented the entry, and consecutive such laps; R370 -/
  lastLap : Nat := 0
  laps : Nat := 0
  deriving DecidableEq, Repr, Inhabited

/-- One repair of an Attic row or byte column (R369, R371): `line` is the row 0–1,023 or the column 0–511. -/
structure Repair where
  bank : Nat := 0
  sub : Nat := 0
  column : Bool := false
  line : Nat := 0
  /-- a fuse entry makes it permanent -/
  fused : Bool := false
  deriving DecidableEq, Repr, Inhabited

/-- A class of requester at one arbiter (R387, R389, R390). -/
structure ArbClass where
  grants : Nat := 0
  misses : Nat := 0
  maskedWindows : Nat := 0
  /-- grants in the current quota window -/
  inWindow : Nat := 0
  deriving DecidableEq, Repr, Inhabited

/-- One Attic bank (R358, R365 to R367, R387). -/
structure AtticBank where
  /-- 32 bits each, LIGHT_CE, STRONG_CE, UE; R367; 0 -/
  lightCe : Nat := 0
  strongCe : Nat := 0
  ue : Nat := 0
  /-- 11 bits, scrub pointer; R365; DESIGN CHOICE 0 (log 2) -/
  ptr : Nat := 0
  /-- 1 bit, the bank has stepped all its pages in this lap; R366; 0 -/
  lapDone : Bool := false
  /-- COUNT of its last scrub step; R365; none -/
  lastStep : Option Nat := none
  /-- 8 classes; R387, R389; 0 -/
  classes : List ArbClass := List.replicate 8 default
  /-- the owner on which the grant is parked, class and unit; R388; none -/
  parked : Option (Nat × Nat) := none
  /-- 1 bit; R391; 0 -/
  frozen : Bool := false
  deriving DecidableEq, Repr, Inhabited

/-- A granted line that waits at a Cellar interface (R379). -/
structure CellarLine where
  pa : Nat := 0
  cls : Nat := 0
  deadline : Nat := 0
  late : Bool := false
  bank : Nat := 0
  row : Nat := 0
  write : Option Bytes := none
  owner : ReqOwner := .none
  deriving DecidableEq, Repr, Inhabited

/-- One bank of a Cellar interface (R379 to R382). -/
structure CellarBank where
  /-- 18 bits, open row; R379; none -/
  openRow : Option Nat := none
  /-- consecutive row hits served while an older line for another row waits; R379; 0 -/
  hits : Nat := 0
  /-- refreshes owed; R380; 0 -/
  owed : Nat := 0
  /-- 1 bit, refreshes run back to back until none is owed; R380; 0 -/
  burst : Bool := false
  /-- activations per class in the current window; R381; 0 -/
  acts : List Nat := List.replicate 8 0
  /-- rolling accumulated activation count; R382; 0 -/
  raa : Nat := 0
  deriving DecidableEq, Repr, Inhabited

/-- One Cellar interface (R373, R376, R379 to R385). -/
structure CellarIfc where
  /-- 1 bit, holds trained settings; R383; 0 -/
  trained : Bool := false
  /-- 64 lines at most, oldest first; R379; empty -/
  queue : List CellarLine := []
  /-- 16 banks; R373; see CellarBank -/
  banks : List CellarBank := List.replicate 16 default
  /-- 32 bits each, LINE_CE and UE; R367; 0 -/
  lineCe : Nat := 0
  ue : Nat := 0
  /-- refreshes forced; R395; 0 -/
  forced : Nat := 0
  /-- 5 bits each, MR4 refresh rate in force, and the one that the next refresh interval takes; R380; DESIGN CHOICE 0 (log 2) -/
  rate : Nat := 0
  rateNext : Nat := 0
  /-- COUNT of the last MR4 reading; R380; 0 -/
  lastPoll : Nat := 0
  /-- 8 classes; R387, R389; 0 -/
  classes : List ArbClass := List.replicate 8 default
  parked : Option (Nat × Nat) := none
  /-- 1 bit; R391; 0 -/
  frozen : Bool := false
  deriving DecidableEq, Repr, Inhabited

/-- A training run (R383). -/
structure Training where
  mask : Nat := 0
  order : Nat := 0
  /-- the Drawer of MEM.TRAIN; none: the training of bring-up (R519) -/
  drawer : Option Nat := none
  deriving DecidableEq, Repr, Inhabited

/-- The acquisition of one dynamic operation (R392). -/
structure Acquisition where
  id : Nat := 0
  cls : Nat := 0
  attic : Nat := 0
  cellar : Nat := 0
  /-- 1 bit each, what it holds -/
  gotAttic : Bool := false
  gotCellar : Bool := false
  /-- COUNT at which it began, or at which it released and waits -/
  since : Nat := 0
  waiting : Bool := false
  deriving DecidableEq, Repr, Inhabited

/-- The memories (R358 to R396). -/
structure MemState where
  /-- 2²⁹ bytes stored as 12 bits each; R358, R360; DESIGN CHOICE 0 (log 2), held as (address, stored word) -/
  attic : List (Nat × Nat) := []
  /-- 131,072 pages; R362; DESIGN CHOICE check symbols 0 and unsealed (log 2) -/
  sides : List (Nat × PageSide) := []
  /-- 64 banks; R358; see AtticBank -/
  banks : List AtticBank := List.replicate 64 default
  /-- lap number, COUNT at its start, COUNT span of the last complete lap, and whether SCRUB_SLOW has been raised; R366; 0 -/
  lap : Nat := 0
  lapStart : Nat := 0
  lastLap : Nat := 0
  slowRaised : Bool := false
  /-- 32 entries; R368; empty -/
  eccLog : List EccEntry := []
  /-- byte columns declared lasting-faulty: bank, sub-array, column; R370; none -/
  badCols : List (Nat × Nat × Nat) := []
  /-- repairs switched in; R369, R371; DESIGN CHOICE none (log 2) -/
  repairs : List Repair := []
  /-- 128-byte lines of the Cellar by physical line address; R374; DESIGN CHOICE 0 (log 2) -/
  cellar : List (Nat × Bytes) := []
  /-- spans of line addresses that training or a pattern test has overwritten, newest first: interface (none: every one), first and
  last interface line address, and the number of the free content; R383, R384; none -/
  fills : List (Option Nat × Nat × Nat × Nat) := []
  /-- 1 bit, the Cellar is frozen by the device itself and in self-refresh; R524, R526; 0 -/
  selfRefresh : Bool := false
  /-- 12 interfaces; R373; see CellarIfc -/
  ifcs : List CellarIfc := List.replicate 12 default
  /-- GiB of each interface, as training read it; R373; 0 -/
  gib : Nat := 0
  /-- 2 bits, ORDER in force; R378; 0 -/
  order : Nat := 0
  /-- IMASK_0–2 and BMASK_0–3, 18 bits each: in force and for the next training; R377; ROW bits k and k + 4 -/
  imask : List Nat := [1, 2, 4]
  bmask : List Nat := [16, 32, 64, 128]
  imaskNext : List Nat := [1, 2, 4]
  bmaskNext : List Nat := [16, 32, 64, 128]
  /-- 1 bit, training has passed; R28, R383; 0 -/
  passed : Bool := false
  /-- 1 bit, MEM.TRAIN has been given since reset; R377; 0 -/
  trainedOnce : Bool := false
  training : Option Training := none
  /-- per class, COUNT up to which its Cellar requests are deferred; R381; none -/
  throttle : List (Option Nat) := List.replicate 8 none
  /-- 32 bits each per class, throttles and acquisition timeouts; R395; 0 -/
  throttles : List Nat := List.replicate 8 0
  acqTimeouts : List Nat := List.replicate 8 0
  /-- numbers of the activation window and quota window, aligned to multiples of their lengths on the time base; R381, R389; 0 -/
  actWindow : Nat := 0
  quotaWindow : Nat := 0
  /-- dynamic acquisitions; R392; none -/
  acqs : List Acquisition := []
  /-- number of the next acquisition (the MODEL's counter); 0 -/
  acqCtr : Nat := 0
  /-- memory subsection in force; R394; none -/
  plan : Option MemSec := none
  /-- data of the last granted read (the MODEL's record of what left the memory); empty -/
  readData : Bytes := []
  /-- Mandatory-to-issue refreshes and RFM commands sent, per interface (the MODEL's record); R380, R382; 0 -/
  refreshes : List Nat := List.replicate 12 0
  rfms : List Nat := List.replicate 12 0
  /-- RAAIMT and RAAMMT of MR27; `none`: refresh management is not required; R382; DESIGN CHOICE none (log 2) -/
  raa : Option (Nat × Nat) := none
  /-- drift tracking steps done, and COUNT of the last; R385; 0 -/
  driftSteps : Nat := 0
  lastDrift : Nat := 0
  /-- field-repair entries spent on a fuse that failed its read-back; R371; 0 -/
  badFuses : Nat := 0
  deriving DecidableEq, Repr, Inhabited

end Sys2Proof.Machine
end

