-- ==== Sys2Proof/Machine/TypesStore.lean ====
section
/-! DEFINITION. State of the Store queues (10_store_queues.md), the media set and its members (11_media_layout.md) and the
compression engine (12_compression_engine.md). Each field's comment gives its width, the rule of spec/ that names it, and its
reset value. -/

namespace Sys2Proof.Machine

open Sys2Proof

/-- A completion that is due (Table 10-3). -/
structure Completion where
  cid : Nat := 0
  status : Nat := 0
  r0 : Nat := 0
  r1 : Nat := 0
  dup : Bool := false
  opcode : Nat := 0
  /-- byte offset of the offending field, 0xFF for none; R302 -/
  field : Nat := 0xFF
  deriving DecidableEq, Repr, Inhabited

/-- One queue pair (R276 to R283, R303). -/
structure QPair where
  sqBase : Nat := 0
  cqBase : Nat := 0
  sqEntries : Nat := 2
  cqEntries : Nat := 2
  vector : Nat := 0
  sqHead : Nat := 0
  sqTail : Nat := 0
  cqHead : Nat := 0
  cqTail : Nat := 0
  phase : Bool := true
  /-- completions that wait for a place, oldest first; R281 -/
  held : List Completion := []
  /-- COUNT since which the oldest held completion waits; R302 -/
  heldSince : Nat := 0
  /-- posted and unreleased completions in ring order: CID, and whether it was a duplicate's; R283 -/
  unreleased : List (Nat × Bool) := []
  /-- indices of unfetched entries that an Abort has marked; R298 -/
  marked : List Nat := []
  /-- index up to which Store reset fetches with RESET; R299 -/
  resetTo : Option Nat := none
  coalCount : Nat := 0
  coalTime : Nat := 0
  /-- completions posted and not signalled, and COUNT of the first; R303 -/
  unsignalled : Nat := 0
  firstUnsig : Nat := 0
  deriving DecidableEq, Repr, Inhabited

/-- The fields of a submission entry (Table 10-2). -/
structure SqEntry where
  opcode : Nat := 0
  forced : Bool := false
  clear : Bool := false
  cid : Nat := 0
  clip : Nat := 0
  stream : Nat := 0
  index : Nat := 0
  buf : Nat := 0
  length : Nat := 0
  count : Nat := 0
  arg0 : Nat := 0
  arg1 : Nat := 0
  arg2 : Nat := 0
  /-- byte offset of the first Reserved field that is not 0; R284 -/
  resv : Option Nat := none
  deriving DecidableEq, Repr, Inhabited

/-- An outstanding command (R280, R294). `q` is 0–3, or 4 for the admin pair. -/
structure StoreCmd where
  q : Nat := 0
  entry : SqEntry := default
  /-- mode in force at the fetch -/
  service : Bool := false
  /-- execution has begun -/
  begun : Bool := false
  /-- at or past the commit point -/
  committed : Bool := false
  /-- records accepted, or found good -/
  accepted : Nat := 0
  /-- SEQs of the records it wrote, of the flush set, or of its TRIM record -/
  set : List Nat := []
  /-- COUNT at its fetch -/
  fetched : Nat := 0
  deriving DecidableEq, Repr, Inhabited

/-- A journal checkpoint's content (Table 11-6). Clip table entries: CLIP, STATE, OPEN_SEQ, INDEX address, MANIFEST address. -/
structure Ckpt where
  nextSeq : Nat := 0
  nextPos : Nat := 0
  cur : Nat := 0
  next : Nat := 0
  nextClip : Nat := 0
  used : List Nat := []
  clips : List (Nat × Nat × Nat × Nat × Nat) := []
  deriving DecidableEq, Repr, Inhabited

/-- Where a record stands. -/
inductive RecSt where
  | accepted
  | onMedium
  | lost
  deriving DecidableEq, Repr, Inhabited

/-- One record of the journal (R320). -/
structure Rec where
  seq : Nat := 0
  kind : Nat := 1
  clip : Nat := 0xFFFFFFFF
  stream : Nat := 0
  part : Nat := 0
  parts : Nat := 1
  index : Nat := 0
  frame : Nat := 0
  time : Nat := 0
  ticket : Option Ticket := none
  enc : Bool := false
  larder : Bool := false
  /-- stored payload -/
  payload : Bytes := []
  tag : Bytes := []
  hash : Bytes := []
  /-- media-set address of its first byte, and its place along the extent chain since the mount; R323, R325 -/
  pos : Nat := 0
  cpos : Nat := 0
  st : RecSt := .accepted
  /-- NVMe Writes have been issued for all its bytes; they have not all completed; media ports still to flush; R313 -/
  issued : Bool := false
  writing : Bool := true
  toFlush : List Nat := []
  /-- the host's, which counts against HOST_SHARE -/
  host : Bool := false
  /-- accepted since the last start, so in the set of every later Flush; R296 -/
  fresh : Bool := true
  /-- SEQ of the TRIM record that removes it; R293 -/
  trimmed : Option Nat := none
  ckpt : Option Ckpt := none
  /-- entries of an INDEX record: STREAM, PART, INDEX, SEQ, address -/
  entries : List (Nat × Nat × Nat × Nat × Nat) := []
  deriving DecidableEq, Repr, Inhabited

/-- A pipeline record that waits to be accepted into the Store buffer (R295). -/
structure Incoming where
  record : Rec := default
  /-- plaintext of the payload -/
  plain : Bytes := []
  /-- the Larder frame it comes from: lead port and frame -/
  from_ : Option (Nat × Nat) := none
  /-- the ticket-table entry that waits for the record (R52) -/
  entry : Option Nat := none
  deriving DecidableEq, Repr, Inhabited

/-- One NVMe command outstanding at a member (R312). -/
structure NvmeCmd where
  id : Nat := 0
  kind : NvmeKind := .init
  /-- SEQs of the records whose bytes it writes, or that wait for the flush -/
  seqs : List Nat := []
  /-- a read for a Store command -/
  owner : Option (Nat × Nat) := none
  /-- a read for the play that feeds this context; R341 -/
  play : Option Nat := none
  /-- it writes or flushes a superblock copy; R319 -/
  sb : Bool := false
  since : Nat := 0
  /-- COUNT of its Abort -/
  aborted : Option Nat := none
  deriving DecidableEq, Repr, Inhabited

/-- States of a media port. -/
inductive MemberSt where
  | absent
  | ready
  | refused
  | failed
  deriving DecidableEq, Repr, Inhabited

/-- One member (R311 to R313). -/
structure Member where
  /-- R311, R519; absent -/
  st : MemberSt := .absent
  ident : MemberIdentity := default
  cmds : List NvmeCmd := []
  nextId : Nat := 0
  /-- 1 bit, rows written since the last Flush, and COUNT of that Flush; R313; 0 -/
  dirty : Bool := false
  lastFlush : Nat := 0
  /-- COUNTs of controller resets; R312; none -/
  resets : List Nat := []
  deriving DecidableEq, Repr, Inhabited

/-- A superblock generation (Table 11-2), by content. -/
structure Super where
  setId : Nat := 0
  uuid : Bytes := []
  gen : Nat := 0
  ckptAddr : Nat := 0
  ckptSeq : Nat := 0
  created : Nat := 0
  formedBy : Bytes := []
  hostKeyId : Bytes := []
  hostKey : Bytes := []
  nrows : Nat := 0
  parity : Bool := false
  /-- media port of each position -/
  ports : List Nat := []
  serials : List Bytes := []
  deriving DecidableEq, Repr, Inhabited

/-- The provenance chain of a clip (R333, R334). -/
structure Chain where
  c : Bytes := []
  last : Nat := 0
  count : Nat := 0
  prevProv : Nat := 0
  deriving DecidableEq, Repr, Inhabited

/-- The clip now recording (R327 to R335). -/
structure Clip where
  num : Nat := 0
  /-- 1 bit, it has taken effect at a ticket issue; R326 -/
  live : Bool := false
  /-- lead port whose frames the provenance chain covers: the lowest that runs at the clip's start (log 41) -/
  lead : Nat := 0
  /-- streams 0–7 and 9, one bit each; R327 -/
  mask : Nat := 0
  /-- FIRST_FRAME came from the Larder, and how many frames of the lead port did; R329 -/
  pre : Bool := false
  preFrames : Nat := 0
  /-- Chest slot and identifier of the Production key that wraps the clip key; R332 -/
  slot : Nat := 0
  keyId : Bytes := []
  firstFrame : Nat := 0
  lastFrame : Nat := 0
  /-- INDEX of the next record of each stream 0–31 -/
  nextIndex : List Nat := List.replicate 32 0
  chain : Chain := default
  /-- frames that wait for their place in the chain: frame, ticket bytes and digest -/
  waiting : List (Nat × Bytes × Bytes) := []
  /-- DATA records since the last INDEX record: STREAM, PART, INDEX, SEQ, address -/
  toIndex : List (Nat × Nat × Nat × Nat × Nat) := []
  /-- closing: the MANIFEST's SEQ once written, and the Drawer that waits; R330 -/
  closing : Bool := false
  manifest : Option Nat := none
  drawer : Option Nat := none
  /-- audio blocks gathered for the next record of stream 9: bytes, count and time of the first; R327 -/
  audio : Bytes × Nat × Nat := ([], 0, 0)
  deriving DecidableEq, Repr, Inhabited

/-- One coded raw frame, or coded rendition stream part, in the Larder (R329). -/
structure LarderItem where
  lead : Nat := 0
  stream : Nat := 8
  frame : Nat := 0
  time : Nat := 0
  ticket : Ticket := default
  irap : Bool := false
  data : Bytes := []
  deriving DecidableEq, Repr, Inhabited

/-- A play that feeds a decode context (R341): CLIP, STREAM, next INDEX, context number 0–63. Its key is a working key. -/
structure Play where
  clip : Nat := 0
  stream : Nat := 0
  index : Nat := 0
  ctx : Nat := 0
  deriving DecidableEq, Repr, Inhabited

/-- What a mounted set is doing. -/
inductive SetPhase where
  | forming
  | mounting
  | mounted
  | unmounting
  deriving DecidableEq, Repr, Inhabited

/-- The set that the device writes (R315 to R337). -/
structure Mounted where
  super : Super := default
  phase : SetPhase := .mounted
  /-- Drawer of STORE.FORM_SET, STORE.MOUNT or STORE.UNMOUNT that waits for the superblock, and the result of a mount: records
  kept, holes, recovered clip; R315, R337 -/
  drawer : Option Nat := none
  report : List Nat := []
  /-- 64 bits, SEQ of the next record; R322 -/
  nextSeq : Nat := 1
  /-- extents entered since the mount, the current one last; R323 -/
  chain : List Nat := []
  /-- place of the next record along the chain, and up to which NVMe Writes have been issued; R325 -/
  cpos : Nat := 0
  issuedTo : Nat := 0
  /-- NEXT_EXTENT; R323 -/
  next : Nat := 0
  nextClip : Nat := 1
  /-- extents in use or reserved; R323 -/
  used : List Nat := []
  /-- extents freed by a TRIM on the medium; freed in a checkpoint that no superblock names yet, with its SEQ; R324 -/
  freed : List Nat := []
  freedCkpt : List (Nat × Nat) := []
  clips : List (Nat × Nat × Nat × Nat × Nat) := []
  /-- SEQ and address of the newest checkpoint on the medium -/
  ckptOn : Nat × Nat := (0, 0)
  /-- COUNT of the last checkpoint and of the last superblock; R319, R324 -/
  lastCkpt : Nat := 0
  lastSuper : Nat := 0
  /-- a superblock generation is due that names this checkpoint or a later one; R319 -/
  superDue : Option Nat := none
  /-- generation being written, its copy 0–2, and whether that copy is being flushed; R319 -/
  superStep : Option (Super × Nat × Bool) := none
  /-- records have been written since the last checkpoint, and since the last superblock -/
  dirtyCkpt : Bool := false
  dirtySuper : Bool := false
  /-- one member has failed; R317 -/
  degraded : Bool := false
  nearlyFull : Bool := false
  deriving DecidableEq, Repr, Inhabited

/-- A firmware activation (R305, R306). -/
structure Activation where
  cid : Nat := 0
  slot : Nat := 0
  /-- flush set of its implicit Flush -/
  set : List Nat := []
  /-- COUNT at the handover -/
  handover : Option Nat := none
  /-- slot that ran before -/
  old : Nat := 0
  deriving DecidableEq, Repr, Inhabited

/-- A compression job (R343 to R354). -/
structure Job where
  drawer : Nat := 0
  decompress : Bool := false
  src : Nat := 0
  srcLen : Nat := 0
  dst : Nat := 0
  dstLen : Nat := 0
  idx : Nat := 0
  idxLen : Nat := 0
  blockLog2 : Nat := 0
  effort : Nat := 0
  verify : Bool := false
  jobLen : Nat := 0
  /-- totals of earlier calls -/
  inBefore : Nat := 0
  outBefore : Nat := 0
  framesBefore : Nat := 0
  /-- counts of this call -/
  inNow : Nat := 0
  outNow : Nat := 0
  frames : Nat := 0
  /-- the job's input bytes of earlier calls and this one, for JOB_XXH64 -/
  seen : Bytes := []
  /-- handle that the call resumed -/
  handle : Nat := 0
  /-- Drawers of MEM.JOB_CANCEL that wait for its end; 0xFF… none -/
  cancel : List Nat := []
  /-- it stops at its next frame boundary for a power-state entry to this state -/
  power : Option Nat := none
  /-- number of the acquisition of its staging buffers; R356 -/
  acq : Nat := 0
  deriving DecidableEq, Repr, Inhabited

/-- A held handle (R353). -/
structure JobHandle where
  num : Nat := 0
  job : Job := default
  issued : Nat := 0
  deriving DecidableEq, Repr, Inhabited

/-- The Store Room and the compression engine (R276 to R357). -/
structure StoreState where
  /-- SQ0–SQ3 and, as entry 4, the admin pair; R276; none exists -/
  pairs : List (Option QPair) := List.replicate 5 none
  /-- outstanding commands in fetch order; R280; none -/
  cmds : List StoreCmd := []
  /-- queue whose turn it is, and entries fetched in this turn; R280; 0 -/
  turn : Nat := 0
  burst : Nat := 0
  /-- HOST_SHARE in bytes; R303; 64 MiB -/
  hostShare : Nat := 67108864
  /-- ARB_BURST; R303; 1 -/
  arbBurst : Nat := 1
  /-- error log, newest first: SQID, CID, OPCODE, STATUS, time, field; R302; empty -/
  errors : List (Nat × Nat × Nat × Nat × Nat × Nat) := []
  /-- Store statistics: completed per opcode (opcode, count), bytes written, bytes read, buffer high-water mark, longest Flush,
  longest CQ_FULL hold; R302; 0 -/
  perOpcode : List (Nat × Nat) := []
  bytesWritten : Nat := 0
  bytesRead : Nat := 0
  highWater : Nat := 0
  longestFlush : Nat := 0
  longestHold : Nat := 0
  /-- STORE.RESET that waits: its Drawer; R299; none -/
  resetting : Option Nat := none
  /-- staged firmware image: pieces (offset, bytes); R304; none -/
  staged : List (Nat × Bytes) := []
  /-- activation in progress; R306; none -/
  activation : Option Activation := none
  /-- power-state entry in progress: CID, target, I/O commands executed during it, and whether its actions have begun; R308,
  R524; none -/
  powerEntry : Option (Nat × Nat × Nat × Bool) := none
  /-- media ports M0–M3; R311 -/
  members : List Member := List.replicate 4 default
  /-- newest superblock generation that the members hold; R318; DESIGN CHOICE none (log 2) -/
  super : Option Super := none
  /-- records the members hold or that are on the way to them, in SEQ order; R320; DESIGN CHOICE none (log 2) -/
  recs : List Rec := []
  /-- mounted set; R336; none -/
  mounted : Option Mounted := none
  /-- records that wait for the Store buffer; R295; none -/
  incoming : List Incoming := []
  /-- clip now recording or closing; R327; none -/
  clip : Option Clip := none
  /-- Larder, oldest first; R329; empty -/
  larder : List LarderItem := []
  /-- GAP records to be written: lead port, first frame, count, cause; R328; none -/
  gaps : List (Nat × Nat × Nat × Nat) := []
  /-- plays; R341; none -/
  plays : List Play := []
  /-- compression jobs in the order they started, at most 4; R343; none -/
  jobs : List Job := []
  /-- 8 handles; R353; none -/
  handles : List JobHandle := []
  /-- handles issued so far (the MODEL's counter, from which handle numbers come); 0 -/
  handleCtr : Nat := 0
  deriving DecidableEq, Repr, Inhabited

end Sys2Proof.Machine
end

