-- ==== Sys2Proof/Machine/State.lean ====
section
/-! DEFINITION. The state of the block: everything the spec gives the device, and the queue of commands that wait. -/

namespace Sys2Proof.Machine

open Sys2Proof

/-- Why the block stops with a fault. -/
inductive Fault where
  /-- A read request to an arbiter names an Attic byte or a Cellar line that does not exist: R358 gives an Attic address 29 bits and R376
  numbers the lines up to L × N − 1. Raised by execArbiterGrant; safe: no stage, engine or transfer of the device forms such an address. -/
  | noSuchAddress
  deriving DecidableEq, Repr

/-- Why the block has no meaning for a command. -/
inductive Refusal where
  /-- The command's meaning is not written yet; raised by exec's arms only; safe. -/
  | notModelled (mnemonic : String)
  deriving DecidableEq, Repr

/-- The units of Table 17-1 at cold start (R486). -/
def unitTable : List UnitRec :=
  (List.range 18).map (fun n => { kind := 0, number := n, st := if n < 16 then .active else .spare, pos := if n < 16 then some n else none }) ++
  (List.range 27).map (fun n => { kind := 1, number := n, st := if n < 24 then .active else .spare, pos := if n < 24 then some n else none }) ++
  (List.range 32).map (fun n => { kind := 2, number := n }) ++
  (List.range 16).map (fun n => { kind := 3, number := n }) ++
  (List.range 2).map (fun n => { kind := 4, number := n })

/-- The device. -/
structure State where
  /-- commands that wait, first in first out; the MODEL's queue; empty -/
  pending : List Instr := []
  /-- boot, mode, stage, power; R26, R512; see SysState -/
  sys : SysState := {}
  /-- security; R457; see SecState -/
  sec : SecState := {}
  /-- unit map; R486; see UnitMap -/
  units : UnitMap := { units := unitTable }
  /-- heat; R497; see ThermState -/
  therm : ThermState := {}
  /-- slack of KIND 0 to 4; R506; Table 17-7 -/
  slack : List SlackRec := List.replicate 5 {}
  /-- policies 4, 5 and 6 held; R59; not held -/
  holds : List Bool := [false, false, false]
  /-- COUNT of the hold of policy 4 now in force; R146; 0 -/
  calHeldAt : Nat := 0
  /-- Drawers 0–15 and 16–19, and the entries that R449 adds when it frees a Drawer whose command runs on; R432; Free -/
  drawers : List Drawer := List.replicate 20 {}
  /-- 32 bits, REJECTS; R433; 0 -/
  rejects : Nat := 0
  /-- 64 bits, what the last read of an RC register returned (the MODEL's record of it); R9; 0 -/
  readData : Nat := 0
  /-- event control and MSI-X; R430, R451; see EvState -/
  ev : EvState := {}
  /-- host memory as the device reads and writes it; R441; nothing listed (log 8) -/
  hostMem : Memory := []
  /-- registered buffers; R441; none -/
  bufs : List HostBuf := []
  /-- network; R446; see NetState -/
  net : NetState := {}
  /-- the time base and PTP; R397; see TimeState -/
  time : TimeState := {}
  /-- the holdover table, 32 bins; R153; empty -/
  holdTable : List HoldBin := List.replicate 32 {}
  /-- COUNT of the last holdover sample; R153; none -/
  holdSample : Option Nat := none
  /-- audio directions: 0 PDM inputs, 1 TDM receive, 2 TDM transmit; R419; see AudioDir -/
  audio : List AudioDir := List.replicate 3 {}
  /-- Shelves 0–7; R33; Empty -/
  shelves : List Shelf := List.replicate 8 {}
  /-- 16 bits, the plan generation counter; R37; 1 -/
  planCtr : Nat := 1
  /-- sensor ports SP0–SP3; R63; see Port -/
  ports : List Port := List.replicate 4 {}
  /-- per port or bond, at its lead port; R38; see Sensor -/
  sensors : List Sensor := List.replicate 4 {}
  /-- the 16-entry ticket table; R49; empty -/
  table : List (Option Entry) := List.replicate 16 none
  /-- router positions 0–15: the row group each front-end slice holds; R109; none -/
  fePos : List (Option SliceJob) := List.replicate 16 none
  /-- router positions 0–23 of the colour slices; R189; none -/
  csPos : List (Option SliceJob) := List.replicate 24 none
  /-- rendition slots 0–15; R197; see RendSlot -/
  rend : List RendSlot := List.replicate 16 {}
  /-- HEVC contexts, 32 × engine + context; R224; Closed -/
  ctxs : List HevcCtx := List.replicate 64 {}
  /-- engines E0 and E1; R218; idle -/
  engines : List Engine := List.replicate 2 {}
  /-- SDI0–SDI3; R255; stopped -/
  sdi : List Sdi := List.replicate 4 {}
  /-- the display pair; R269; stopped -/
  disp : Display := {}
  /-- host rings 0–15; R443; none bound -/
  hostRings : List HostRingSlot := List.replicate 16 {}
  /-- review rings 0–15; R339; none -/
  reviews : List Review := List.replicate 16 {}
  /-- Attic, Cellar and arbitration; R358; see MemState -/
  mem : MemState := {}
  /-- Store Room and compression engine; R276; see StoreState -/
  store : StoreState := {}
  deriving DecidableEq, Repr, Inhabited

/-- The machine right after the release of PORST_N, with the boot ROM at STAGE 0 (R512, R513, R522). -/
def State.reset : State := {}

end Sys2Proof.Machine
end

