-- ==== Sys2Proof/Machine/Ops.lean ====
section
/-! DEFINITION. Operations that every family shares: readings of the time base, host memory, events and their vectors, and
the life of a Drawer command. -/

namespace Sys2Proof.Machine

open Sys2Proof

/-- The outcome of a step. -/
abbrev Out := Host.Outcome State Fault Refusal

/-- The core runs: PORST_N is high and the thermal trip has not fired (R501, R512). -/
def State.live (s : State) : Bool := !s.sys.held && !s.sys.tripped

/-- What a command does while the core runs; a held core does nothing (R501, R512). -/
def whenLive (s : State) (f : State → State) : Out := if s.live then .next (f s) else .next s

/-! ### Time -/

/-- Microseconds and milliseconds in ticks (R7). -/
def us (n : Nat) : Nat := n * 1000
def ms (n : Nat) : Nat := n * 1000000

/-- The reading at COUNT `c` (R398). -/
def TimeState.readingAt (t : TimeState) (c : Nat) : Nat :=
  ofInt 64 ((t.offset : Int) + (((c : Int) - t.anchor) * (2 ^ 40 + t.drift)) / 2 ^ 40)

/-- The reading now (R398). -/
def State.reading (s : State) : Nat := s.time.readingAt s.time.count

/-- COUNT now (R397). -/
def State.now (s : State) : Nat := s.time.count

/-- A 48-bit time `v` has passed at reading `t` (R402). -/
def passed48 (v t : Nat) : Bool := (t % 2 ^ 48 + 2 ^ 48 - v % 2 ^ 48) % 2 ^ 48 < 2 ^ 47

/-- A synchronised reading (R405). -/
def TimeState.synced (t : TimeState) : Bool := t.st == .locked || t.st == .holdover

/-- One tick: COUNT advances by one (R397). -/
def tick (s : State) : State :=
  { s with time := { s.time with count := (s.time.count + 1) % 2 ^ 64 } }

/-- The free value that this step takes: counter before, and the state with the counter advanced (log 3). -/
def State.takeFree (s : State) : Nat × State :=
  (s.sys.free, { s with sys := { s.sys with free := s.sys.free + 1 } })

/-! ### The identity key (R462, R464) -/

/-- The order n of P-384 (FIPS 186-5; PRESUMED, log 5). -/
def p384Order : Nat :=
  0xFFFFFFFFFFFFFFFFFFFFFFFFFFFFFFFFFFFFFFFFFFFFFFFFC7634D81F4372DDF581A0DB248B0A77AECEC196ACCC52973

/-- d: HKDF-SHA-384 of the seed with the device's number, as a big-endian integer, modulo n − 1, plus 1 (R462). -/
def identityKey : Nat :=
  let okm := Config.hkdfExpand (Config.hkdfExtract (ascii "caerne-identity") Config.identitySeed) (le 8 Config.deviceUid) 64
  ofLe (padTo 64 okm).reverse % (p384Order - 1) + 1

/-- A signature by the identity key in the Chest, or by the debug key while the debug access port is open (R464, R482). -/
def State.identitySign (s : State) (m : Bytes) : Bytes :=
  Config.ecdsaSign (if s.sec.debugOpen then Config.debugKey else s.sec.identity.getD identityKey) m

/-- ID_CERT (R457, Table 16-3): an identity certificate of this device, whose SUBJECT_KEY is d·G (R462); the validity, the serial number,
ISSUER_HASH and SIG are what Caerne programmed. -/
def identityCert : Bytes :=
  let c := padTo 304 Config.idCert
  le 4 0x54524543 ++ le 1 1 ++ le 1 0 ++ le 2 0 ++ le 8 Config.deviceUid ++ slice c 0x10 24 ++ le 24 0 ++
  padTo 96 (Config.publicKey identityKey) ++ slice c 0xA0 144

/-! ### Host memory (R441) -/

/-- A span lies wholly within one registered buffer that permits the access; a span of length 0 does (R441). -/
def State.covered (s : State) (addr len : Nat) (write : Bool) : Bool :=
  len == 0 || s.bufs.any fun b => decide (b.addr ≤ addr) && decide (addr + len ≤ b.addr + b.len) && (b.write || !write)

/-- Bytes of host memory. -/
def State.hostRead (s : State) (addr len : Nat) : Bytes := s.hostMem.readBytes addr len

/-- Host memory with bytes written. -/
def State.hostWrite (s : State) (addr : Nat) (bs : Bytes) : State := { s with hostMem := s.hostMem.writeBytes addr bs }

/-- The host has stored bytes in its own memory, which PCIe orders before the register write that it makes next (log 8). -/
def State.hostStores (s : State) (l : List HostStore) : State := l.foldl (fun s x => s.hostWrite x.addr x.data) s

/-- CONSUMED of a host ring, read from its control area (R128). -/
def State.ringConsumed (s : State) (r : HostRing) (bytes : Nat) : Nat := ofLe (s.hostRead (r.addr + 0x20) bytes)

/-- A host ring of blocks is full (R128). -/
def State.ringFull (s : State) (r : HostRing) : Bool :=
  (r.produced + 2 ^ 32 - s.ringConsumed r 4) % 2 ^ 32 == r.entries

/-- Write one block to a ring, then PRODUCED; `none` when the ring is full (R128). -/
def State.ringPut (s : State) (r : HostRing) (bs : Bytes) : Option (HostRing × State) :=
  if s.ringFull r then none
  else
    let s1 := s.hostWrite (r.addr + 4096 + r.slot * (r.produced % r.entries)) bs
    let p := wrap 32 (r.produced + 1)
    some ({ r with produced := p, inUse := true }, s1.hostWrite r.addr (le 4 p))

/-! ### Tickets (Table 2-6) -/

/-- The 32 bytes of a ticket. -/
def Ticket.bytes (t : Ticket) : Bytes :=
  le 4 t.frame ++ le 2 t.planGen ++ le 2 t.pageGen ++ le 8 t.time ++
  le 1 (t.ports % 16 + 16 * (t.shelf % 8)) ++ le 1 (t.entry % 16) ++
  le 1 (b2n t.settling + 2 * b2n (t.stale != 0) + 4 * b2n t.trunc + 8 * b2n t.concealed + 16 * b2n (t.shedMask != 0) +
    32 * b2n t.calframe + 64 * b2n t.poison) ++
  le 1 (t.stale % 8) ++ le 4 (t.lastRow % 2 ^ 18) ++ le 2 t.shedMask ++ le 2 t.takeMask ++ le 4 0

/-! ### Events (R451 to R455) -/

/-- Mapping class of an event number (Table 15-14). -/
def eventClass (n : Nat) : Nat :=
  if n < 64 then n / 16 else if n < 80 then 4 else if n < 96 then 5 else if n < 104 then 6 else if n < 136 then 7
  else if n < 152 then 8 else if n < 176 then 9 else if n < 208 then 10 else if n < 232 then 11 else if n < 256 then 12
  else if n < 272 then 13 else if n < 304 then 14 else 15

/-- An event number is masked (R453). -/
def EvState.isMasked (ev : EvState) (n : Nat) : Bool := (ev.masks.getD (n / 32) 0).getLsbD (n % 32)

/-- Signal one MSI-X vector: a masked entry sets its pending bit, an unmasked one sends its message (R455). -/
def EvState.signal (ev : EvState) (v : Nat) : EvState :=
  if (at! ev.msix v).masked then { ev with pba := setBit ev.pba v true }
  else { ev with sent := upd ev.sent v (· + 1) }

/-- One more posted entry of a vector that is not yet signalled (R455). -/
def EvState.coalesce (ev : EvState) (now vec : Nat) : EvState :=
  let g := (ev.groups.find? (·.vec == vec)).getD { vec := vec, count := 0, first := now }
  let rest := ev.groups.filter (·.vec != vec)
  if ev.coalCount == 0 || ev.coalTime == 0 || decide (ev.coalCount ≤ g.count + 1) then
    ({ ev with groups := rest }).signal vec
  else { ev with groups := rest ++ [{ g with count := g.count + 1 }] }

/-- The 32 bytes of an event entry (Table 15-13). -/
def EventRec.bytes (r : EventRec) (phase : Bool) : Bytes :=
  le 2 (r.num % 512 + 512 * b2n r.ticket.isSome + 32768 * b2n phase) ++ le 2 r.inst ++ le 4 r.seq ++ le 8 r.time ++
  le 4 (r.args.getD 0 0) ++ le 4 (r.args.getD 1 0) ++ le 4 (r.args.getD 2 0) ++ le 4 (r.args.getD 3 0)

/-- Write one event, its ticket extension first, and count it towards its vector (R452, R455). -/
def EvState.write (ev : EvState) (mem : Memory) (now : Nat) (r : EventRec) : EvState × Memory :=
  let k := if r.ticket.isSome then 2 else 1
  let mem := match r.ticket with
    | some t => mem.writeBytes (ev.base + 32 * ((ev.idx + 1) % ev.entries)) t.bytes
    | none => mem
  let mem := mem.writeBytes (ev.base + 32 * ev.idx) (r.bytes ev.phase)
  let ev := { ev with
    idx := (ev.idx + k) % ev.entries
    phase := if ev.entries ≤ ev.idx + k then !ev.phase else ev.phase
    used := ev.used + k }
  (ev.coalesce now (ev.vectors.getD (eventClass r.num) 0), mem)

/-- The overflow entry, which takes the next SEQ (R453). -/
def EvState.writeOverflow (ev : EvState) (mem : Memory) (now time arg : Nat) : EvState × Memory :=
  ({ ev with seq := wrap 32 (ev.seq + 1) }).write mem now { num := 311, seq := ev.seq, time := time, args := [arg] }

/-- Post one event to the enabled ring, or refuse it for lack of room (R453). -/
def EvState.post (ev : EvState) (mem : Memory) (now time : Nat) (r : EventRec) : EvState × Memory :=
  let k := if r.ticket.isSome then 2 else 1
  if ev.overflow then ({ ev with lost := sat 32 (ev.lost + 1), refused := ev.refused + 1 }, mem)
  else if ev.used + k + 1 ≤ ev.entries then ev.write mem now r
  else ({ ev with lost := sat 32 (ev.lost + 1), overflow := true, refused := 0 }).writeOverflow mem now time 1

/-- Raise an event: its mask, its SEQ, then the ring or the kept events (R452, R453, R454). At STAGE 0 no event is raised
(Table 18-3). -/
def raise (num inst : Nat) (args : List Nat) (ticket : Option Ticket) (s : State) : State :=
  if s.sys.stage = 0 ∨ s.ev.isMasked num = true then s
  else
    let r : EventRec := { num := num, inst := wrap 16 inst, seq := s.ev.seq, time := s.reading, args := args.map (wrap 32), ticket := ticket }
    let ev := { s.ev with seq := wrap 32 (s.ev.seq + 1) }
    if ev.enable then
      let p := ev.post s.hostMem s.now s.reading r
      { s with ev := p.1, hostMem := p.2 }
    else
      let kept := ev.kept ++ [r]
      if 64 < kept.length then { s with ev := { ev with kept := kept.drop 1, lost := sat 32 (ev.lost + 1) } }
      else { s with ev := { ev with kept := kept } }

/-- The two 32-bit words of a 64-bit value, low word first (R452). -/
def words64 (v : Nat) : List Nat := [v % 2 ^ 32, v / 2 ^ 32 % 2 ^ 32]

/-- Raise an event that a chapter limits to once per `span` ticks for one source; `args` is given the count since the last
entry, to which this occurrence adds `k`. -/
def raiseLimitedBy (span k num source inst : Nat) (args : Nat → List Nat) (s : State) : State :=
  let l := (s.ev.limits.find? fun l => l.num == num && l.inst == source).getD { num := num, inst := source }
  let rest := s.ev.limits.filter fun l => !(l.num == num && l.inst == source)
  let due := match l.last with
    | none => true
    | some t => decide (t + span ≤ s.now)
  if due then
    raise num inst (args (l.count + k)) none
      { s with ev := { s.ev with limits := rest ++ [{ l with last := some s.now, count := 0 }] } }
  else { s with ev := { s.ev with limits := rest ++ [{ l with count := l.count + k }] } }

/-- The same, counting one, for an event whose source is its INSTANCE. -/
def raiseLimited (span num inst : Nat) (args : Nat → List Nat) (s : State) : State := raiseLimitedBy span 1 num inst inst args s

/-! ### Status codes (Table 15-9) -/

namespace Status
def ok : Nat := 0x0000
def pending : Nat := 0x0001
def notReady : Nat := 0x0002
def invalidField : Nat := 0x0010
def invalidPlan : Nat := 0x0011
def notPermitted : Nat := 0x0020
def busy : Nat := 0x0030
def aborted : Nat := 0x0040
def abortedOk : Nat := 0x0041
def alreadyDone : Nat := 0x0042
def reset : Nat := 0x0043
def mediaError : Nat := 0x0050
def integrity : Nat := 0x0060
def noSpace : Nat := 0x0070
def notShrunk : Nat := 0x0071
def timeout : Nat := 0x0080
def stepRefused : Nat := 0x0090
end Status

/-! ### Drawers (R432 to R440) -/

/-- DETAIL of a result that names no field (Table 15-7). -/
def noDetail : Nat := 0xFFFFFFFF

/-- Drawer `d`. -/
def State.drawer (s : State) (d : Nat) : Drawer := at! s.drawers d

/-- The state with Drawer `d` changed. -/
def State.setDrawer (s : State) (d : Nat) (f : Drawer → Drawer) : State := { s with drawers := upd s.drawers d f }

/-- The nonce of a command or a result (R469). -/
def gcmNonce (session d dir seq : Nat) : Bytes := le 4 session ++ le 1 d ++ le 1 dir ++ le 2 seq ++ le 4 0

/-- The 16-byte header of a result area (Table 15-7). -/
def DrawerRes.header (r : DrawerRes) : Bytes :=
  le 2 r.status ++ le 2 r.seq ++ le 2 (b2n r.enc) ++ le 2 r.length ++ le 4 r.session ++ le 4 r.detail

/-- The 128 bytes of a result area (Table 15-7). -/
def DrawerRes.bytes (r : DrawerRes) : Bytes := r.header ++ padTo 112 r.payload

/-- The result area as it reads: NOT_READY while Busy, 0 while Free (R434). -/
def Drawer.resultArea (dr : Drawer) : DrawerRes :=
  match dr.st with
  | .free => {}
  | .busy => { status := Status.notReady, seq := dr.cmd.seq }
  | .done => dr.res

/-- The keys of a session, whether it lives or has ended with commands still running (R471). -/
def SecState.keysOf (x : SecState) (id : Nat) : Option Session :=
  match x.sessions.find? (·.id == id) with
  | some k => some k
  | none => x.ended.find? (·.id == id)

/-- The datagram that carries Drawer `d`'s result area to an address (R447). -/
def replyDatagram (d addr port : Nat) (area : Bytes) : Datagram :=
  { srcAddr := addr, srcPort := port, data := le 2 0x5244 ++ le 1 d ++ le 1 3 ++ le 4 0 ++ area }

/-- Keys of ended sessions that no accepted command still needs are erased (R471). -/
def State.pruneEnded (s : State) : State :=
  let used := fun (k : Session) => s.drawers.any fun x => x.st == .busy && x.cmd.enc && x.cmd.session == k.id
  { s with sec := { s.sec with ended := s.sec.ended.filter used } }

/-- Post a result: the Drawer goes from Busy to Done, and NOTIFY raises EVT.MBX.RESULT_READY (R433, R434, R438, R447). A
command whose Drawer R449 has freed has its result discarded. -/
def postResult (d status detail : Nat) (payload : Bytes) (s : State) : State :=
  let dr := s.drawer d
  if dr.st ≠ .busy then s
  else if dr.orphan then s.setDrawer d fun _ => {}
  else
    let enc := dr.cmd.enc
    let payload := payload.take (if enc then 96 else 112)
    let r : DrawerRes := {
      status := status, seq := dr.cmd.seq, enc := enc, length := payload.length
      session := dr.cmd.session, detail := detail, payload := payload }
    let r := match enc, s.sec.keysOf dr.cmd.session with
      | true, some k =>
        let c := Config.gcmSeal k.kRes (gcmNonce dr.cmd.session dr.num 1 dr.cmd.seq) r.header payload
        { r with payload := padTo 96 c.1 ++ padTo 16 c.2 }
      | _, _ => r
    let s1 := s.setDrawer d fun x => { x with st := .done, begun := false, res := r }
    let s2 := s1.pruneEnded
    let s3 := if 16 ≤ dr.num ∧ s2.net.remote = true then
        { s2 with net := { s2.net with reply := some (replyDatagram dr.num dr.srcAddr dr.srcPort r.bytes) } }
      else s2
    if dr.cmd.notify then raise 304 dr.num [dr.cmd.seq, status] none s3 else s3

/-- Complete with OK and a result payload. -/
def done (d : Nat) (payload : Bytes) (s : State) : State := postResult d Status.ok noDetail payload s

/-- Complete with a status that names no field. -/
def fail (d status : Nat) (s : State) : State := postResult d status noDetail [] s

/-- Complete with INVALID_FIELD, naming the payload byte of the field (Table 15-7). -/
def invalid (d off : Nat) (s : State) : State := postResult d Status.invalidField (0x10 + off) [] s

/-- The payload's 32-bit word at payload byte `o` (R437). -/
def DrawerCmd.w (c : DrawerCmd) (o : Nat) : Nat := fieldLe c.payload o 4

/-- The payload's 64-bit word at payload byte `o` (R437). -/
def DrawerCmd.q (c : DrawerCmd) (o : Nat) : Nat := fieldLe c.payload o 8

/-- The accepted command of Drawer `d`, when it is `op` and has not begun. -/
def drawerCmd (d op : Nat) (s : State) (f : DrawerCmd → State) : State :=
  let dr := s.drawer d
  if dr.st = .busy ∧ dr.begun = false ∧ dr.cmd.opcode = op ∧ s.sys.handover = false then f dr.cmd else s

/-- The begun command of Drawer `d`, when it is `op`. -/
def begunCmd (d op : Nat) (s : State) (f : DrawerCmd → State) : State :=
  let dr := s.drawer d
  if dr.st = .busy ∧ dr.begun = true ∧ dr.cmd.opcode = op then f dr.cmd else s

/-- The command of Drawer `d` has begun and its result comes with a later step (R435). -/
def State.begin (s : State) (d : Nat) : State := s.setDrawer d fun x => { x with begun := true }

/-- A buffer reference `ADDR (64), LEN (64)` at payload byte `o` (R437). -/
def DrawerCmd.buf (c : DrawerCmd) (o : Nat) : Nat × Nat := (c.q o, c.q (o + 8))

/-- Bits of a mask, lowest first. -/
def maskBits (n v : Nat) : List Nat := (List.range n).filter fun i => bit v i

/-- The first payload field that fails check 6 of R547, in payload order; `fin` is the end of the last field, and bytes
from it up to LENGTH are 0. -/
def firstBad (c : DrawerCmd) (fin : Nat) (l : List (Bool × Nat)) : Option Nat :=
  match l.find? (·.1) with
  | some x => some x.2
  | none => if allZero (c.payload.drop fin) then none else some fin

/-- Check 6 of R547, then `f` (R8, R437). The bytes that align a 64-bit field are no Reserved field and come before the last field, so they are
not checked, in any command: DEDUCED (log 67). -/
def checked (d : Nat) (c : DrawerCmd) (fin : Nat) (l : List (Bool × Nat)) (s : State) (f : State → State) : State :=
  match firstBad c fin l with
  | some o => invalid d o s
  | none => f s

/-- A host destination of at least `need` bytes in a buffer that permits the write, then `f`; NOT_PERMITTED outside the
registered buffers (R441), NO_SPACE when it is too small (R440, log 20). -/
def withDest (d : Nat) (b : Nat × Nat) (need : Nat) (s : State) (f : State → State) : State :=
  if s.covered b.1 b.2 true then (if b.2 < need then fail d Status.noSpace s else f s) else fail d Status.notPermitted s

/-- The Drawer of a Busy command that waits under an opcode, if any, lowest first. -/
def State.waitingDrawer (s : State) (op : Nat) : Option Nat :=
  (List.range s.drawers.length).find? fun d =>
    let dr := s.drawer d
    dr.st == .busy && dr.begun && dr.cmd.opcode == op

end Sys2Proof.Machine
end

