-- ==== Sys2Proof/Machine/PlanView.lean ====
section
/-! DEFINITION. What the sections of a plan say of a port, a bond or a rendition slot (02_frame_plans.md). -/

namespace Sys2Proof

open Sys2Proof.Machine

/-- `v` lies in `[lo, hi]`. -/
def within (v lo hi : Nat) : Bool := decide (lo ≤ v) && decide (v ≤ hi)

/-- An exact load: a fraction that is not negative. -/
structure Frac where
  num : Nat := 0
  den : Nat := 1
  deriving DecidableEq, Repr, Inhabited

/-- The fraction times `n / m`. -/
def Frac.scale (a : Frac) (n m : Nat) : Frac := { num := a.num * n, den := a.den * m }

/-- Sum of fractions. -/
def Frac.sum (l : List Frac) : Frac := l.foldl (fun a b => { num := a.num * b.den + b.num * a.den, den := a.den * b.den }) {}

/-- The load is at most `n`. -/
def Frac.atMost (a : Frac) (n : Nat) : Bool := decide (a.num ≤ n * a.den)

/-- A count per frame as a rate per second, by the frame period in ticks. -/
def perSecond (n period : Nat) : Frac := { num := n * 1000000000, den := max 1 period }

/-- What a destination is bound as: a kind and a number; a display of both heads binds two. -/
def destBindings (k d : Nat) : List (Nat × Nat) := if k = 1 ∧ d = 2 then [(1, 0), (1, 1)] else [(k, d)]

/-- Symbols per second of a symbol-rate code (Table 3-2). -/
def symbolRate (c : Nat) : Nat := (c + 1) * 3000000000

/-- Pages that an allotment needs of a pool. -/
def needPages (items : List AllotItem) (pool : Nat) : Nat := sumNat (items.map fun i => if i.pool == pool then i.pages else 0)

/-- CFA height (R84, R108). -/
def PortProfile.h (p : PortProfile) : Nat := if p.mono then 1 else 2

/-- Rows that one frame of the port has at most (R134, R135). -/
def PortProfile.frameRows (p : PortProfile) : Nat := if p.timing = .lineScan then p.maxRows else p.rows

/-- Rows of one row group (R16). -/
def PortProfile.groupRows (p : PortProfile) : Nat := 16 * p.h

/-- Position of the member that carries row `r` (R84). -/
def PortProfile.carrier (p : PortProfile) (r : Nat) : Nat := r / p.h % max 1 p.members.length

/-- The first row at or after `r` that member position `m` carries (R84). -/
def PortProfile.nextRow (p : PortProfile) (m r : Nat) : Nat :=
  let k := max 1 p.members.length
  let b := r / p.h
  if b % k = m then r else (b + (m + k - b % k) % k) * p.h

/-- Port mask of the members. -/
def PortProfile.mask (p : PortProfile) : Nat := sumNat (p.members.map (2 ^ ·))

/-- Frame period in ticks (R148). -/
def PortProfile.period (p : PortProfile) : Nat := p.framePeriod

/-- Lead port of a port's section. -/
def PortPlan.lead (p : PortPlan) : Nat := p.profile.members.headD 0

/-- What a plan says of the port or bond that port `l` leads. -/
def Plan.portPlan? (pl : Plan) (l : Nat) : Option PortPlan := pl.portPlans.find? fun x => x.profile.members.head? == some l

/-- Position of port `p` in its bond. -/
def PortProfile.memberIdx (x : PortProfile) (p : Nat) : Nat := (x.members.findIdx? (· == p)).getD 0

/-- Cellar pages of the HEVC regions of a plan, which counts 4 KiB pages of byte data (R53, R375). -/
def Plan.hevcPages (p : Plan) : Nat := sumNat (p.hevc.map fun e => e.statePages + e.outPages)

/-- Renditions that heat asks to shed at a thermal level (R60, Table 17-4). -/
def Plan.heatShed (p : Plan) (level : Nat) : Nat := if level = 0 then 0 else if level = 1 then p.shed100 else p.shed105

/-- The slots of a plan that are enabled. -/
def Plan.enabled (p : Plan) : List Nat := (List.range 16).filter fun k => (p.graph.getD k default).enable

/-- A context entry without the values that a switch may change in place (R227). -/
def HevcEntry.fixed (e : HevcEntry) : HevcEntry :=
  { e with bitrate := 0, maxBitrate := 0, qpInit := 0, qpMin := 0, qpMax := 0, picCap := 0 }

/-- Span of a directory entry in 64-byte units. -/
def DirEntry.last (d : DirEntry) : Nat := d.offset + d.length

/-- Ranges of a port profile (R83, R84, R113, R134, R144). -/
def PortProfile.inRange (p : PortProfile) : Bool :=
  (p.sampleBits == 12 || p.sampleBits == 14) && (p.gains == 1 || p.gains == 2) && decide (p.symbolRate < 4) && decide (p.latency ≤ 7) &&
  decide (p.obRows ≤ 64) && p.obRows % 2 == 0 && decide (p.initList.length ≤ 256) && decide (p.perfGpio < 32) && decide (p.perfDelay ≤ 1000000) &&
  p.wbCold.all (fun w => decide (w < 2 ^ 18)) && decide (p.rawDeltaCold < 256) && decide (p.expMin ≤ p.expMax) && decide (p.gainMin ≤ p.gainMax)

/-- Ranges of the front-end section (R118, R120, R121). -/
def FrontEndSec.inRange (f : FrontEndSec) (p : PortProfile) : Bool :=
  decide (f.ped ≤ 4095) && decide (f.sgShift ≤ 4) && decide (f.krcp < 2 ^ 24) && decide (f.dynT0 ≤ 16383) && decide (f.dynT1 ≤ 1023) &&
  decide (f.t0 + 4 ≤ f.t1) && decide (f.t1 ≤ 4 * p.hSat)

/-- Ranges of Table 5-2. -/
def CalParams.inRange (c : CalParams) (f : FrontEndSec) : Bool :=
  c.blackCold.all (fun b => decide (b < 65536)) && within c.ratioCold 8192 131072 && decide (c.offsetCold.natAbs ≤ 131071) &&
  decide (c.kBl ≤ 10) && decide (c.kFp ≤ 10) && decide (c.kDg ≤ 10) && decide (c.obMin < 65536) && decide (c.obMax < 65536) &&
  within c.blJump 1 65535 && within c.darkWin 1 4095 && within c.fpMin 1 4096 && decide (c.dgLo + 4 ≤ f.t0) &&
  decide (c.dgLmin < 65536) && within c.dgNmin 1024 (2 ^ 24) && within c.dgVarmin 1 (2 ^ 20) && within c.staleFrames 1 64 &&
  (c.staleLimit == 0 || within c.staleLimit 1000000000 600000000000)

/-- Ranges of a rendition-graph slot (Table 7-2, R202). -/
def GraphSlot.inRange (g : GraphSlot) : Bool :=
  if g.enable then
    decide (g.srcKind ≤ 2) && decide (g.srcId < (if g.srcKind = 1 then 64 else if g.srcKind = 0 then 4 else 16)) && decide (g.takeN < 16) &&
    decide (g.takePhase ≤ g.takeN) && decide (g.unitFirst + g.unitCount < 16) && decide (g.destKind ≤ 5) && decide (8 ≤ g.cropW) && decide (8 ≤ g.cropH) &&
    decide (8 ≤ g.outW) && decide (8 ≤ g.outH) && decide (g.tf ≤ 3) && decide (g.ycc ≤ 2) && decide (g.bits ≤ 2) && decide (g.sub ≤ 2) &&
    decide (g.unitCount * (8 * ceilDiv g.outW (8 * (g.unitCount + 1))) < g.outW)
  else g == {}

/-- Ranges of the memory subsection (Table 13-8). -/
def MemSec.inRange (m : MemSec) : Bool :=
  within m.qwindow 1000 100000 && decide (1 ≤ m.quotaIntakeA) && decide (1 ≤ m.quotaScanA) && decide (1 ≤ m.quotaIntakeC) && decide (1 ≤ m.quotaScanC) &&
  within m.budgetStore 1000 10000000 && within m.budgetDma 1000 10000000 && within m.budgetComp 1000 10000000 && within m.budgetFw 1000 10000000 &&
  within m.actWindow 8000 1000000 && within m.actLimit 64 65535 && within m.throttle 1000 1000000

/-- Pages that all frames in flight of a plan need of a pool. -/
def Plan.allotPages (p : Plan) (pool : Nat) : Nat :=
  sumNat (p.portPlans.map fun x => x.allot.maxInflight * needPages x.allot.items pool)

/-- Pixels per second of a plan's sensors (R23, R135). -/
def Plan.pixRate (p : Plan) : Frac := Frac.sum (p.portPlans.map fun x => perSecond (x.profile.width * x.profile.frameRows) x.profile.framePeriod)

/-- Front-end input tokens per second (R110). -/
def Plan.tokenRate (p : Plan) : Frac :=
  Frac.sum (p.portPlans.map fun x => (perSecond (x.profile.width * x.profile.frameRows * x.profile.gains) x.profile.framePeriod).scale 1 4)

/-- A frame rate: `frames` in `span` ticks. `rounded` counts the frame periods of a sensor in the span, each of which a profile
holds in whole ticks. -/
structure FrameRate where
  frames : Nat := 0
  span : Nat := 1000000000
  rounded : Nat := 0
  deriving DecidableEq, Repr, Inhabited

/-- Frame rate of a source, by SRC_KIND and SRC_ID (R198, R221, R339). A review ring has the rate of the slot or encode context of
the plan that writes it; `fuel` bounds a chain of rings. A ring that nothing in the plan writes has no frames: the spec names no
rate for it, and R39 lets no other plan bind it: DESIGN CHOICE (log 58). -/
def Plan.rateOf (p : Plan) : Nat → Nat → Nat → FrameRate
  | 0, _, _ => {}
  | fuel + 1, kind, id =>
    if kind = 0 then { frames := 1, span := ((p.portPlan? id).getD default).profile.framePeriod, rounded := 1 }
    else if kind = 1 then (let h := p.hevc.getD id default; { frames := h.fpsNum, span := 1000000000 * h.fpsDen })
    else match p.graph.find? fun w => w.enable && w.destKind == 5 && w.destId == id with
      | some w =>
        let r := p.rateOf fuel w.srcKind w.srcId
        { r with span := r.span * (w.takeN + 1), rounded := r.rounded * (w.takeN + 1) }
      | none => match p.hevc.find? fun h => h.enable && !h.decode && h.outKind == 5 && h.outId == id with
        | some h => { frames := h.fpsNum, span := 1000000000 * h.fpsDen }
        | none => {}

/-- Frame rate of a slot's source (R198). A chain of review rings has at most the sixteen rings of the device. -/
def Plan.sourceRate (p : Plan) (g : GraphSlot) : FrameRate := p.rateOf 17 g.srcKind g.srcId

/-- `n` per frame of a slot, per second (R21, R198). -/
def Plan.perFrame (p : Plan) (g : GraphSlot) (n : Nat) : Frac :=
  let r := p.sourceRate g
  perSecond (n * r.frames) (r.span * (g.takeN + 1))

/-- Output pixels per second of a slot, for a width of columns (R21, R202). -/
def Plan.slotRate (p : Plan) (g : GraphSlot) (w : Nat) : Frac := p.perFrame g (w * g.outH)

/-- Stripe width of a gang (R202). -/
def GraphSlot.stripe (g : GraphSlot) : Nat := 8 * ceilDiv g.outW (8 * (g.unitCount + 1))

/-- Every destination that a plan binds, with the outputs of encode contexts. -/
def Plan.bindings (p : Plan) : List (Nat × Nat) :=
  (p.enabled.flatMap fun k => let g := p.graph.getD k default; destBindings g.destKind g.destId) ++
  (p.hevc.filterMap fun h => if h.enable && !h.decode then some (h.outKind, h.outId) else none)

/-- Bytes that one row takes on the link at most (R64): headers, prefixes, padding and CRC of its segments. -/
def PortProfile.rowBytes (p : PortProfile) : Nat :=
  let seg := fun (n : Nat) => 16 + ceilDiv (n * p.sampleBits * p.gains) 32 * 4
  let n := ceilDiv p.width (max 1 p.segMin)
  (n - 1) * seg p.segMin + seg (p.width - (n - 1) * p.segMin)

/-- A policy's new value of a field: the change keeps to the rate, and the value to the bounds (R32, KIND 7). -/
def FieldLimit.apply (f : FieldLimit) (old new : Int) : Int := clampInt (clampInt new (old - f.step) (old + f.step)) f.lo f.hi

/-- The same for a field without a sign. -/
def FieldLimit.nat (f : FieldLimit) (old new : Nat) : Nat := (f.apply old new).toNat

end Sys2Proof
end

