-- ==== Sys2Proof/Machine/Access.lean ====
section
/-! DEFINITION. What the running plans say of a port or bond, and the named updates of ports, sensors and frames in flight
(02_frame_plans.md R17, R33, 03_sensor_links.md R64, R84). -/

namespace Sys2Proof.Machine

open Sys2Proof

/-! ### What a plan says -/

/-- Plan of Shelf `k`. -/
def State.plan? (s : State) (k : Nat) : Option Plan := (at! s.shelves k).plan

/-- What the running plan says of lead port `l` (R33). A bond of which another Shelf has taken a member runs no more, and nothing
drives its other members: DESIGN CHOICE (log 58). -/
def State.portPlan? (s : State) (l : Nat) : Option PortPlan :=
  match (at! s.sensors l).shelf with
  | some k => ((s.plan? k).bind (·.portPlan? l)).filter fun x => x.profile.members.all fun m => (at! s.sensors m).shelf == some k
  | none => none

/-- The running plan of lead port `l`. -/
def State.planOf? (s : State) (l : Nat) : Option Plan := (at! s.sensors l).shelf.bind s.plan?

/-- The same, with the section of an absent plan. -/
def State.portPlan (s : State) (l : Nat) : PortPlan := (s.portPlan? l).getD default

/-- Lead port of the port or bond to which `p` belongs under the running plans (R84). -/
def State.leadOf (s : State) (p : Nat) : Option Nat :=
  (List.range 4).find? fun l => (s.portPlan l).profile.members.contains p

/-- What a frame in flight runs on: the Shelf its ticket names (R17). -/
def State.entryPlan (s : State) (e : Entry) : Plan := (s.plan? e.ticket.shelf).getD default

/-- Lead port of a frame's source. -/
def Entry.lead (e : Entry) : Nat := match e.src with
  | .sensor l => l
  | _ => 0

/-- The frame comes from a sensor. -/
def Entry.isSensor (e : Entry) : Bool := match e.src with
  | .sensor _ => true
  | _ => false

/-- The port section that a frame runs on. -/
def State.entryPort (s : State) (e : Entry) : PortPlan := ((s.entryPlan e).portPlan? e.lead).getD default

/-- Change ticket-table entry `e`. -/
def State.setEntry (s : State) (e : Nat) (f : Entry → Entry) : State := { s with table := upd s.table e (·.map f) }

/-- Ticket-table entry `e`. -/
def State.entry? (s : State) (e : Nat) : Option Entry := s.table.getD e none

/-- The live entries with their numbers. -/
def State.live' (s : State) : List (Nat × Entry) := (s.table.zipIdx.filterMap fun (x, i) => x.map fun e => (i, e))

/-- Entry of frame `f` of lead port `l`. -/
def State.entryOf (s : State) (l f : Nat) : Option Nat :=
  (s.live'.find? fun (_, e) => e.src == .sensor l && e.ticket.frame == f).map (·.1)

/-- Change the sensor state of lead port `l`. -/
def State.setSensor (s : State) (l : Nat) (f : Sensor → Sensor) : State := { s with sensors := upd s.sensors l f }

/-- Change port `p`. -/
def State.setPort (s : State) (p : Nat) (f : Port → Port) : State := { s with ports := upd s.ports p f }

/-- Raise an event that carries the ticket of entry `e`. -/
def raiseFor (num inst : Nat) (args : List Nat) (e : Nat) (s : State) : State :=
  raise num inst args ((s.entry? e).map (·.ticket)) s

/-- The newest ticket that a port or bond still has in the table: the frame in progress, or the one about to open. -/
def State.lastTicket (s : State) (l : Nat) : Option Ticket :=
  (s.live'.filter fun (_, e) => e.src == .sensor l).foldl (fun b (_, e) => match b with
    | none => some e.ticket
    | some t => if (e.ticket.frame + 2 ^ 32 - t.frame % 2 ^ 32) % 2 ^ 32 < 2 ^ 31 then some e.ticket else b) none

/-- Change lane `k` of port `p`. -/
def State.setLane (s : State) (p k : Nat) (f : Lane → Lane) : State := s.setPort p fun q => { q with lanes := upd q.lanes k f }

/-- Lanes that the port's profile runs (R64). -/
def State.laneCount (s : State) (p : Nat) : Nat := match s.leadOf p with
  | some l => (s.portPlan l).profile.laneCount
  | none => 0

end Sys2Proof.Machine
end

