-- ==== Sys2Proof/Machine/LinkView.lean ====
section
/-! DEFINITION. What a marker, a packet and an eye histogram say of themselves (03_sensor_links.md R70 to R77, R96, R101). -/

namespace Sys2Proof

open Sys2Proof.Machine

/-- CRC-8 of R70 and R73. -/
def crc8 (bs : Bytes) : Nat := crcMsb 8 7 0 bs

/-- `n` bytes of `v`, most significant first (R72). -/
def be (n v : Nat) : Bytes := (le n v).reverse

/-- The number that bytes spell, most significant first (R72). -/
def beNat (bs : Bytes) : Nat := ofLe bs.reverse

/-- Bits of a Gray-mapped level (Table 3-3), as a number of two bits. -/
def levelBits (g : Nat) : Nat := [0, 1, 3, 2].getD g 0

/-- The 64 bits of a marker, bit 63 first: Gray-mapped without precoding (R67, R70). -/
def LaneMarker.word (m : LaneMarker) : Nat := m.levels.foldl (fun a g => 4 * a + levelBits g) 0

/-- A marker is valid on a lane: SYNC, LANE and MCRC are correct (R70, R71). -/
def LaneMarker.valid (m : LaneMarker) (lane : Nat) : Bool :=
  let v := m.word
  m.levels.length == 32 && bits v 40 24 == 0xC5A396 && bits v 36 4 == lane && bits v 0 8 == crc8 (be 7 (bits v 8 56))

/-- MSEQ and NEXT_PKT of a marker (Table 3-4). -/
def LaneMarker.mseq (m : LaneMarker) : Nat := bits m.word 8 16
def LaneMarker.nextPkt (m : LaneMarker) : Nat := bits m.word 24 12

/-- Samples of level `L` in the bins that `f` picks. -/
def EyeLevels.count (e : EyeLevels) (L : Nat) (f : Nat → Bool) : Nat :=
  sumNat (((e.bins.getD L []).zipIdx.filter fun (_, b) => f b).map (·.1))

/-- lo_L: the last bin, from below, below which fewer than 2⁻¹⁶ of the level's samples fall (R96). Read literally, "the lowest bin"
would be bin 0 of every histogram; DEDUCED (log 59). A level without samples leaves no margin. -/
def EyeLevels.lo (e : EyeLevels) (L : Nat) : Nat :=
  ((List.range 256).filter fun b => decide (e.count L (decide <| · < b) * 65536 < e.count L fun _ => true)).foldl max 0

/-- hi_L: the first bin above which fewer than 2⁻¹⁶ of the level's samples fall (R96, log 59). -/
def EyeLevels.hi (e : EyeLevels) (L : Nat) : Nat :=
  ((List.range 256).filter fun b => decide (e.count L (decide <| b < ·) * 65536 < e.count L fun _ => true)).foldl min 255

/-- The figure of merit of one window (R96). -/
def EyeLevels.fom (e : EyeLevels) : Nat :=
  let m := fun k => e.lo k - e.hi (k - 1)
  min 255 (4 * min (m 1) (min (m 2) (m 3)))

/-- Fields of a packet header (Table 3-5). -/
def LinkPacket.type (k : LinkPacket) : Nat := bits k.header.toNat 28 4
def LinkPacket.seq (k : LinkPacket) : Nat := bits k.header.toNat 20 8
def LinkPacket.length (k : LinkPacket) : Nat := bits k.header.toNat 8 12

/-- The header's HEC is right (R73). -/
def LinkPacket.hecOk (k : LinkPacket) : Bool := bits k.header.toNat 0 8 == crc8 (be 3 (bits k.header.toNat 8 24))

/-- Bytes of the packet in transmission order. -/
def LinkPacket.bytes (k : LinkPacket) : Bytes := be 4 k.header.toNat ++ k.payload ++ be 4 k.crc.toNat

/-- The packet CRC is right, and the payload has the length its header says (R73, R75). -/
def LinkPacket.crcOk (k : LinkPacket) : Bool :=
  k.payload.length == 4 * (k.length + 1) &&
  k.crc.toNat == crcMsb 32 0x04C11DB7 0xFFFFFFFF (be 4 k.header.toNat ++ k.payload) ^^^ 0xFFFFFFFF

/-- The packet with one bit inverted, counted from its first byte in transmission order (R101). -/
def LinkPacket.corrupt (k : LinkPacket) (byte bit : Nat) : LinkPacket :=
  let bs := k.bytes.modify byte (· ^^^ BitVec.ofNat 8 (2 ^ (bit % 8)))
  let n := k.payload.length
  { header := BitVec.ofNat 32 (beNat (bs.take 4)), payload := (bs.drop 4).take n, crc := BitVec.ofNat 32 (beNat (bs.drop (4 + n))) }

end Sys2Proof
end

