-- ==== Sys2Proof/Machine/Symbols.lean ====
section
/-! DEFINITION. The symbol layer of the Caerne link (03_sensor_links.md R65 to R75, R99): Gray mapping and levels, the precoder, the
striping of bytes over lanes, blocks and markers, how the symbols of a packet become its words, and the test patterns. -/

namespace Sys2Proof.Machine

open Sys2Proof

/-! ### Gray values and levels (R66) -/

/-- Gray value of a pair of bits, `b1` first in time (Table 3-3). -/
def grayOf (b1 b0 : Bool) : Nat := if b1 then (if b0 then 2 else 3) else b2n b0

/-- The pair of bits of a Gray value (Table 3-3). -/
def pairOf (g : Nat) : Bool × Bool := (decide (2 ≤ g), g == 1 || g == 2)

/-- Nominal amplitude of a level (Table 3-3). -/
def amplitude (level : Nat) : Int := 2 * level - 3

/-- Gray values of bytes: four symbols a byte, bits [7:6] first (R68). -/
def grayBytes (bs : Bytes) : List Nat :=
  bs.flatMap fun b => [grayOf b[7] b[6], grayOf b[5] b[4], grayOf b[3] b[2], grayOf b[1] b[0]]

/-- Bits of Gray values, first in time first. -/
def grayBits (gs : List Nat) : List Bool := gs.flatMap fun g => let (a, b) := pairOf g; [a, b]

/-- The number that bits spell, most significant first. -/
def bitsNat (bs : List Bool) : Nat := bs.foldl (fun a b => 2 * a + b2n b) 0

/-- Bytes of Gray values, four symbols each; a rest of fewer symbols is no byte. -/
def bytesOfGray : List Nat → Bytes
  | a :: b :: c :: d :: r => BitVec.ofNat 8 (bitsNat (grayBits [a, b, c, d])) :: bytesOfGray r
  | _ => []

/-! ### The precoder (R67) -/

/-- What the transmitter sends for Gray values, from the last level sent. -/
def precode (p : Nat) : List Nat → List Nat
  | [] => []
  | g :: r => let q := (g + 4 - p % 4) % 4; q :: precode q r

/-- The Gray values that the receiver recovers, from the last level decided. -/
def recover (q : Nat) : List Nat → List Nat
  | [] => []
  | l :: r => (l + q) % 4 :: recover (l % 4) r

/-- The last level of a run, or `q` of an empty one. -/
def lastLevel (q : Nat) (l : List Nat) : Nat := (l.getLast?.getD q) % 4

/-! ### Blocks and lanes (R68, R69) -/

/-- Symbols of a block, of its marker, and data symbols of a block (R69). -/
def blockSymbols : Nat := 4096
def markerSymbols : Nat := 32
def dataSymbols : Nat := blockSymbols - markerSymbols

/-- Bytes per lane and words per lane of a block (R69): 1,016 and 254. -/
def blockBytes : Nat := dataSymbols / 4
def blockWords : Nat := blockBytes / 4

/-- Symbols of skew between the lanes of a port that the device tolerates (R65). -/
def skewLimit : Nat := 256

/-- Bytes of lane `i` of `n`, when the stream's first byte goes to lane `k` (R68). -/
def stripe (n k i : Nat) (bs : Bytes) : Bytes := (bs.zipIdx.filter fun (_, j) => (k + j) % n == i).map (·.1)

/-- The byte stream of lanes whose first byte is on lane `k` (R68): byte by byte, until a lane has none. -/
def unstripe (n : Nat) (lanes : List Bytes) : Nat → Nat → Bytes
  | 0, _ => []
  | fuel + 1, k => match at! lanes (k % n) with
    | [] => []
    | b :: r => b :: unstripe n (lanes.set (k % n) r) fuel (k + 1)

/-- A lane's bytes of a packet's symbols, and its last level: the precoder starts at 0 after each marker (R67). -/
def laneBytes (q : Nat) : List (List Nat) → Bytes × Nat
  | [] => ([], q)
  | run :: rest =>
    let gs := recover q run ++ rest.flatMap (recover 0)
    (bytesOfGray gs, lastLevel (if rest.isEmpty then q else 0) ((run :: rest).getLast?.getD []))

/-! ### From symbols to a packet (R72 to R74) -/

/-- The stream without the idle words that stand before its first other word. -/
def dropIdle : Nat → Bytes → Bytes
  | 0, bs => bs
  | fuel + 1, bs => if 4 ≤ bs.length ∧ allZero (bs.take 4) = true then dropIdle fuel (bs.drop 4) else bs

/-- The packet that a stream opens with, its words most significant byte first. A word whose HEC fails or whose TYPE is 0 starts no
packet. -/
def packetOf (bs : Bytes) : LinkPacket :=
  let h : LinkPacket := { header := BitVec.ofNat 32 (beNat (bs.take 4)), payload := [], crc := 0 }
  if h.hecOk = false ∨ h.type = 0 then h
  else
    let n := 4 * (h.length + 1)
    { h with payload := (bs.drop 4).take n, crc := BitVec.ofNat 32 (beNat ((bs.drop (4 + n)).take 4)) }

/-! ### What the device sends (R70, R72, R73, R75) -/

/-- The marker of a block (Table 3-4). -/
def markerWord (lane next mseq : Nat) : Nat :=
  let v := 0xC5A396 * 2 ^ 32 + lane % 16 * 2 ^ 28 + next % 4096 * 2 ^ 16 + mseq % 65536
  v * 256 + crc8 (be 7 v)

/-- The levels of a marker: Gray-mapped without precoding (R67, R70). -/
def markerLevels (lane next mseq : Nat) : List Nat := grayBytes (be 8 (markerWord lane next mseq))

/-- A packet with its header, LENGTH and HEC included, and its CRC (R72, R73, R75). -/
def makePacket (type seq : Nat) (words : List Nat) : LinkPacket :=
  let v := type % 16 * 2 ^ 20 + seq % 256 * 2 ^ 12 + (words.length - 1) % 4096
  let h := v * 256 + crc8 (be 3 v)
  let pay := words.flatMap (be 4)
  { header := BitVec.ofNat 32 h, payload := pay, crc := BitVec.ofNat 32 (crcMsb 32 0x04C11DB7 0xFFFFFFFF (be 4 h ++ pay) ^^^ 0xFFFFFFFF) }

/-! ### Test patterns (R99) -/

/-- Taps of PRBS13 and PRBS31 (IEEE 802.3: 1 + x + x² + x¹² + x¹³ and 1 + x²⁸ + x³¹; PRESUMED, log 60). -/
def prbsTaps (pattern : Nat) : List Nat := if pattern = 0 then [1, 2, 12, 13] else [28, 31]

/-- The next bit of a pattern, from the bits sent, newest first. -/
def prbsNext (pattern : Nat) (past : List Bool) : Bool := (prbsTaps pattern).foldl (fun a t => a != past.getD (t - 1) false) false

/-- `n` bits of a pattern after those of `past`. -/
def prbsBits (pattern : Nat) : Nat → List Bool → List Bool
  | 0, _ => []
  | n + 1, past => let b := prbsNext pattern past; b :: prbsBits pattern n ((b :: past).take 31)

/-- Gray values of bits in pairs. -/
def grayPairs : List Bool → List Nat
  | a :: b :: r => grayOf a b :: grayPairs r
  | _ => []

/-- `n` symbols of PRBS13Q (pattern 0) or PRBS31Q (pattern 1): Gray-mapped, without precoding and without markers. -/
def patternSymbols (pattern n : Nat) : List Nat := grayPairs (prbsBits pattern (2 * n) Config.prbsSeed)

/-- Injected errors (R99): 1 is added modulo 4 to one symbol, once (`every` 1) or in every `every`-th; 0 injects none. The single
error stands after the checker's lock: DESIGN CHOICE (log 60). -/
def injectErrors (every : Nat) (l : List Nat) : List Nat :=
  l.zipIdx.map fun (g, i) =>
    if every = 0 then g
    else if every = 1 then (if i = 31 then (g + 1) % 4 else g)
    else if (i + 1) % every = 0 then (g + 1) % 4 else g

/-- The checker (R99): it locks on 31 error-free symbols in a row, then counts symbols compared and errors. -/
def checkPattern : Nat → List (Nat × Nat) → Nat × Nat
  | _, [] => (0, 0)
  | run, (x, y) :: r =>
    if run < 31 then checkPattern (if x = y then run + 1 else 0) r
    else let (n, e) := checkPattern run r; (n + 1, e + if x = y then 0 else 1)

/-- Errors that the checker of a lane finds in `n` compared symbols of the device's own generator. -/
def loopbackErrors (pattern every n : Nat) : Nat :=
  let ref := patternSymbols pattern (31 + n)
  (checkPattern 0 (ref.zip (injectErrors every ref))).2

end Sys2Proof.Machine
end

