-- ==== Sys2Proof/Machine/BackLine.lean ====
section
/-! DEFINITION. The line of a back channel (03_sensor_links.md R68 to R75, R87, R89, R92): waking, packets and markers on BD, and
commands that leave. -/

namespace Sys2Proof.Machine

open Sys2Proof

/-- TYPE of a command packet (Table 3-6). -/
def BcKind.type : BcKind → Nat
  | .cmdWrite _ _ => 8
  | .cmdRead _ _ => 9
  | .exposure _ _ _ _ => 0xA
  | .stream _ => 0xB
  | .test _ _ => 0xC

/-- Payload words of a command packet (Table 3-6, Table 3-10). -/
def BcKind.words : BcKind → List Nat
  | .cmdWrite a ws => (a * 65536 + ws.length) :: ws
  | .cmdRead a n => [a * 65536 + n]
  | .exposure i g t _ => [i, g * 65536 + t]
  | .stream b => [b2n b]
  | .test m l => [m + 16 * l]

/-- The packet of a command (R72, R73, R75). -/
def BcCmd.packet (c : BcCmd) : LinkPacket := makePacket c.kind.type c.seq c.kind.words

/-- The levels of words on BD after `pos` words of a block, and the level that follows; `mseq` is the next marker's (R67 to R70). -/
def bdWords : List Bytes → Nat → Nat → Nat → List Nat × Nat
  | [], _, _, level => ([], level)
  | w :: r, mseq, pos, level =>
    if pos < blockWords then
      let x := precode level (grayBytes w)
      let (rest, q) := bdWords r mseq (pos + 1) (lastLevel level x)
      (x ++ rest, q)
    else
      let x := precode 0 (grayBytes w)
      let (rest, q) := bdWords r (mseq + 1) 1 (lastLevel 0 x)
      (markerLevels 0xF (if r.length + 1 < blockWords then r.length + 1 else 0xFFF) mseq ++ x ++ rest, q)

/-- The words of a packet in transmission order (R72). -/
def packetWords (k : LinkPacket) : List Bytes :=
  [be 4 k.header.toNat] ++ (List.range (k.payload.length / 4)).map (fun i => slice k.payload (4 * i) 4) ++ [be 4 k.crc.toNat]

/-- Symbols on BD since the marker of the last wake, at 1.5 GBd (R63). -/
def BackChan.symbolNow (bc : BackChan) (now : Nat) : Nat := max bc.endSym ((now - bc.wokeAt) * 3 / 2)

/-- A packet leaves on BD (R92): a sleeping back channel restarts BK, sends idle symbols for 1 µs and a marker first; a running one
goes on from the next word of its block, idle words between. -/
def BackChan.transmit (bc : BackChan) (now : Nat) (k : LinkPacket) : BackChan :=
  if bc.phase = .asleep then
    let (x, q) := bdWords (packetWords k) (bc.mseq + 1) 0 0
    let line := markerLevels 0xF 0 bc.mseq ++ x
    { bc with phase := .awake, wokeAt := now + us 1, idle := 1500, line := line, endSym := line.length, level := q, sent := some k }
  else
    let sym := bc.symbolNow now
    let b := sym / blockSymbols
    let pos := ceilDiv (sym % blockSymbols - markerSymbols) 16
    let start := b * blockSymbols + markerSymbols + 16 * pos
    let gap := start - bc.endSym
    let level := if bc.endSym / blockSymbols ≠ b then 0 else if gap % 2 = 0 then bc.level else (4 - bc.level) % 4
    let (line, q) := bdWords (packetWords k) (bc.mseq + b + 1) pos level
    { bc with phase := .awake, idle := 0, line := line, endSym := start + line.length, level := q, sent := some k }

/-- No command is pending: the sleep entry of 64 idle symbols begins (R92). -/
def BackChan.rest (bc : BackChan) (now : Nat) : BackChan :=
  if bc.phase = .awake ∧ bc.current.isNone = true ∧ bc.waiting = [] then { bc with phase := .entering, endSym := bc.symbolNow now } else bc

/-- The sleep entry ends: BD and BK stop (R92). The next wake's marker follows the last one sent (R70). -/
def BackChan.sleep (bc : BackChan) : BackChan :=
  { bc with phase := .asleep, mseq := wrap 16 (bc.mseq + (bc.endSym + 64) / blockSymbols + 1) }

/-- An EXPOSURE packet has left: the device keeps the last 16 of a port (R132), and that of a scheduled calibration frame puts it in
state 2 (R151, Table 5-3). -/
def Sensor.keepExposure (x : Sensor) (seq : Nat) : BcKind → Sensor
  | .exposure _ _ t gen => { x with
      expHist := ((seq, gen, t) :: x.expHist).take 16
      cal := if x.cal.state = 1 ∧ x.cal.fixed = true ∧ x.cal.pageGen = gen then { x.cal with state := 2 } else x.cal }
  | _ => x

/-- The next waiting command that leaves now, if one does: none awaits its REPLY, and the back channel is not entering sleep
(R87, R92). -/
def BackChan.next (bc : BackChan) : Option BcCmd :=
  if bc.phase = .entering ∨ bc.current.isSome = true then none else bc.waiting.head?

/-- The next waiting command leaves; without one the back channel goes to sleep (R87, R92). -/
def leaveNext (p : Nat) (s : State) : State :=
  let bc := (at! s.ports p).bc
  match bc.next with
  | none => s.setPort p fun q => { q with bc := q.bc.rest s.now }
  | some c =>
    let c := { c with seq := bc.seq, attempts := 1 }
    let s1 := s.setPort p fun q => { q with bc :=
      { q.bc with seq := wrap 8 (bc.seq + 1), waiting := q.bc.waiting.drop 1, current := some (c, s.now) }.transmit s.now c.packet }
    s1.setSensor p fun x => x.keepExposure c.seq c.kind

/-- Commands wait on the back channel of lead port `p` (R85, R89). -/
def queueBc (p : Nat) (cs : List BcCmd) (s : State) : State :=
  s.setPort p fun q => { q with bc := { q.bc with waiting := q.bc.waiting ++ cs } }

/-- The initialisation list of a profile (R95). -/
def initCmds (x : PortProfile) (owner : BcOwner) : List BcCmd :=
  x.initList.map fun (a, ws) => { kind := .cmdWrite a ws, owner := owner }

end Sys2Proof.Machine
end

