-- ==== Sys2Proof/Machine/PlanSizes.lean ====
section
/-! DEFINITION. What a plan's sections need of the device: raw budgets (06_raw_codec.md R159 to R176), pictures and rate control
of HEVC contexts (08_video_coding.md R218 to R243), output buffers (09_outputs_and_display.md R255, R256), and the checks
of Table 2-4 that rest on them (R174, R191, R200, R201, R208, R221, R223, R266, R270). -/

namespace Sys2Proof

open Sys2Proof.Machine

/-! ### Raw coder (R159, R173, R174, R176) -/

/-- The floor size of a group (R173). -/
def floorSize (w rows : Nat) : Nat := 32 + 4 * ceilDiv (w / 4 * ceilDiv rows 4) 4

/-- Planes of a port's frames. -/
def planesOf (p : PortProfile) : Nat := if p.mono then 1 else 4

/-- Coded groups of a complete frame. -/
def rawGroups (p : PortProfile) : Nat := planesOf p * ceilDiv p.frameRows (16 * p.h)

/-- Plane rows of coded group `j` in a frame of `rows` sensor rows (R160). -/
def planeRows (p : PortProfile) (rows j : Nat) : Nat :=
  let g := j / planesOf p
  let n := min p.groupRows (rows - g * p.groupRows)
  if p.mono then n else (n + 1 - j % 4 / 2) / 2

/-- The budget B of a frame (R174). -/
def rawBudget (p : PortProfile) (r : RawSec) : Nat :=
  if r.mode = 2 then p.width * p.frameRows * 288 / (8 * max 1 r.ratioX16) / 4 * 4 else r.capPages * 4096

/-- Floor size of coded group `j` by plan geometry (R176). -/
def planFloor (p : PortProfile) (j : Nat) : Nat :=
  let n := planeRows p p.frameRows j
  if n = 0 then 0 else floorSize (p.width / p.h) n

/-- Ranges of the raw-coder section (Table 6-2). -/
def RawSec.inRange (r : RawSec) : Bool :=
  decide (r.mode ≤ 2) &&
  (if r.mode = 2 then within r.ratioX16 48 160 && decide (r.deltaInit ≤ r.deltaMax) && within r.deltaMax 1 255 && r.capPages == 0
   else r.ratioX16 == 0 && r.deltaInit == 0 && r.deltaMax == 0)

/-- The raw coder's budget holds every floor, and its one Cellar item holds the budget (R174). -/
def PortPlan.rawFits (x : PortPlan) : Bool :=
  let b := rawBudget x.profile x.raw
  let items := x.allot.items.filter fun i => i.pool == 1 && i.holder == 1
  decide (96 + sumNat ((List.range (rawGroups x.profile)).map (planFloor x.profile)) ≤ b) && items.length == 1 &&
    items.all fun i => decide (ceilDiv b 4096 ≤ i.pages)

/-! ### Colour path and renditions (R191, R194, R200, R201, R204, R208) -/

/-- A value fits a signed field of `w` bits. -/
def fitsInt (w : Nat) (x : Int) : Bool := decide (-(2 ^ (w - 1) : Nat) ≤ x) && decide (x < (2 ^ (w - 1) : Nat))

/-- Ranges of Table 7-1, and the CFA that each debayer needs (R191). -/
def ColourSec.inRange (c : ColourSec) (p : PortProfile) : Bool :=
  let col := fun (k : Nat) => p.cfaMap / 4 ^ k % 4
  let all := [col 0, col 1, col 2, col 3]
  decide (c.debayer ≤ 3) && (c.debayer == 3) == p.mono && decide (c.norm ≤ 8) && decide (c.edT < 65536) && decide (c.auxClip < 2 ^ 18) &&
  c.m.all (fitsInt 18) && c.off.all (fitsInt 18) &&
  (p.mono || ((all.filter (· == 1)).length == 2 && all.contains 0 && all.contains 2 && ((col 0 == 1) == (col 3 == 1))))

/-- Ranges of a slot's rendition-unit section (R201, R204). -/
def RenditionSec.inRange (r : RenditionSec) : Bool :=
  let phases := fun (c : List Int) => (List.range 64).all fun p => ((c.drop (8 * p)).take 8).foldl (· + ·) 0 == 4096
  r.hcoef.all (fitsInt 14) && r.vcoef.all (fitsInt 14) && phases r.hcoef && phases r.vcoef && r.m.all (fitsInt 18) && r.off.all (fitsInt 18)

/-- Scaling step of an axis (R201). -/
def scaleStep (inn out : Nat) : Nat := (inn * 65536 + out / 2) / max 1 out

/-- Width and height of a slot's source (R200). -/
def Plan.sourceSize (p : Plan) (g : GraphSlot) : Nat × Nat :=
  if g.srcKind = 0 then (let q := ((p.portPlan? g.srcId).getD default).profile; (q.width, q.frameRows - q.obRows))
  else if g.srcKind = 1 then (let h := p.hevc.getD g.srcId default; (h.width, h.height))
  else match p.graph.find? fun w => w.enable && w.destKind == 5 && w.destId == g.srcId with
    | some w => (w.outW, w.outH)
    | none => match p.hevc.find? fun h => h.enable && !h.decode && h.outKind == 5 && h.outId == g.srcId with
      | some h => (h.width, h.height)
      | none => (0, 0)

/-- A slot's window, sizes and encoding are allowed (R200, R208). -/
def Plan.slotShape (p : Plan) (g : GraphSlot) : Bool :=
  let (w, h) := p.sourceSize g
  decide (g.cropX + g.cropW ≤ w) && decide (g.cropY + g.cropH ≤ h) && (g.sub == 0 || g.outW % 2 == 0) && (g.sub != 2 || g.outH % 2 == 0) &&
  within (scaleStep g.cropW g.outW) 16384 1048576 && within (scaleStep g.cropH g.outH) 16384 1048576 &&
  (g.bits != 2 || g.sub == 0) && (g.ycc != 0 || g.sub == 0)

/-! ### HEVC contexts (R218 to R223, R239 to R243) -/

/-- CTUs of a picture (R239). -/
def HevcEntry.ctus (h : HevcEntry) : Nat := ceilDiv h.width 64 * ceilDiv h.height 64

/-- F_HDR (R239). -/
def fHdr : Nat := 1024

/-- F_I (R239). -/
def HevcEntry.floorI (h : HevcEntry) : Nat := fHdr + 48 * h.ctus

/-- Slices of a picture: one, one per tile, or one per row of CTUs of each tile (R219). -/
def HevcEntry.slices (h : HevcEntry) : Nat :=
  if h.sliceMode = 0 then 1
  else if h.sliceMode = 1 then (h.tileCols + 1) * (h.tileRows + 1) else (h.tileCols + 1) * ceilDiv h.height 64

/-- What headers take at least: a start code and a NAL unit header per slice, beside the other NAL units of a picture (R239). -/
def HevcEntry.headerLeast (h : HevcEntry) : Nat := 96 + 7 * (h.slices + 8)

/-- A window's budget at a bit rate (R240). -/
def HevcEntry.windowAt (h : HevcEntry) (rate : Nat) : Nat := rate * h.rcWindow * h.fpsDen / (8 * max 1 h.fpsNum)

/-- WIN: constant QP has windows of one picture (R243). -/
def HevcEntry.win (h : HevcEntry) : Nat := if h.rcMode = 2 then 1 else h.rcWindow

/-- W_B without bytes carried into the window (R240, R243). -/
def HevcEntry.wB (h : HevcEntry) : Nat := if h.rcMode = 2 then h.picCap else h.windowAt (if h.rcMode = 1 then h.maxBitrate else h.bitrate)

/-- T_B (R242). -/
def HevcEntry.tB (h : HevcEntry) : Nat := if h.rcMode = 2 then h.picCap else h.windowAt h.bitrate

/-- Limits of a level of H.265 Annex A: MaxLumaPs, MaxLumaSr, MaxTileRows, MaxTileCols, and MaxBR of the Main and High tiers
(R219; PRESUMED from the standard, log 44). -/
def levelLimits (idc : Nat) : Option (Nat × Nat × Nat × Nat × Nat × Nat) :=
  match idc with
  | 30 => some (36864, 552960, 1, 1, 128, 0)
  | 60 => some (122880, 3686400, 1, 1, 1500, 0)
  | 63 => some (245760, 7372800, 1, 1, 3000, 0)
  | 90 => some (552960, 16588800, 2, 2, 6000, 0)
  | 93 => some (983040, 33177600, 3, 3, 10000, 0)
  | 120 => some (2228224, 66846720, 5, 5, 12000, 30000)
  | 123 => some (2228224, 133693440, 5, 5, 20000, 50000)
  | 150 => some (8912896, 267386880, 11, 10, 25000, 100000)
  | 153 => some (8912896, 534773760, 11, 10, 40000, 160000)
  | 156 => some (8912896, 1069547520, 11, 10, 60000, 240000)
  | 180 => some (35651584, 1069547520, 22, 20, 60000, 240000)
  | 183 => some (35651584, 2139095040, 22, 20, 120000, 480000)
  | 186 => some (35651584, 4278190080, 22, 20, 240000, 800000)
  | _ => none

/-- Bits per unit of MaxBR of a profile code, NAL form (H.265 Annex A; PRESUMED, log 44). -/
def brFactor (profile : Nat) : Nat := [1100, 1100, 1833, 2200, 3300].getD profile 1100

/-- Size, picture rate, bit rate and tiles within the level and tier (R223). -/
def HevcEntry.levelOk (h : HevcEntry) : Bool :=
  match levelLimits h.level with
  | none => false
  | some (ps, sr, rows, cols, main, high) =>
    let br := if h.highTier then high else main
    decide (h.width * h.height ≤ ps) && decide (h.width * h.width ≤ 8 * ps) && decide (h.height * h.height ≤ 8 * ps) &&
    decide (h.width * h.height * h.fpsNum ≤ sr * h.fpsDen) && decide (h.fpsNum ≤ 300 * h.fpsDen) && decide (h.maxBitrate ≤ br * brFactor h.profile) && decide (h.bitrate ≤ br * brFactor h.profile) &&
    decide (h.tileRows + 1 ≤ rows) && decide (h.tileCols + 1 ≤ cols)

/-- Chroma format and depth that a profile permits, as SUB and BITS codes (Table 8-1). -/
def HevcEntry.profileOk (h : HevcEntry) : Bool :=
  let depth := fun (top : Nat) => if h.decode then decide (h.bits ≤ top) else h.bits == top
  match h.profile with
  | 0 => h.sub == 2 && h.bits == 0
  | 1 => h.sub == 2 && depth 1
  | 2 => (h.sub == 1 || h.sub == 2) && depth 1
  | 3 => (h.sub == 1 || h.sub == 2) && depth 2
  | 4 => decide (h.sub ≤ 2) && depth 2
  | _ => false

/-- Ranges of a context entry (Tables 8-1 to 8-4, R220, R222, R223, R240, R243). -/
def HevcEntry.inRange (h : HevcEntry) : Bool :=
  if h.enable then
    h.profileOk && h.levelOk && decide (h.sub ≤ 2) && decide (h.bits ≤ 2) && (h.bits != 0 || h.profile == 0) &&
    (if h.decode then within h.width 1 65535 && within h.height 1 65535
     else h.width % 8 == 0 && h.height % 8 == 0 && within h.width 8 8192 && within h.height 8 4352) && decide (0 < h.fpsNum) && decide (0 < h.fpsDen) &&
    decide (h.gopLen ≤ 1024) && [1, 2, 4, 8].contains h.mgop && decide (h.ltrMax ≤ 4) && decide (h.sliceMode ≤ 2) &&
    (!h.wpp || (h.tileCols == 0 && h.tileRows == 0)) && decide (256 * (h.tileCols + 1) ≤ max 256 h.width) && decide (64 * (h.tileRows + 1) ≤ max 64 h.height) &&
    decide (h.rcMode ≤ 2) && decide (h.qpInit ≤ 51) && decide (h.qpMin ≤ h.qpMax) && decide (h.qpMax ≤ 51) && within h.rcWindow 1 256 &&
    (h.rcMode == 1 || h.maxBitrate == h.bitrate) && (h.rcMode == 2 || h.picCap == 0) &&
    decide (Config.statePages h ≤ h.statePages) &&
    (if h.decode then within h.wdTicks 1000000 1000000000 && h.outKind == 0
     else h.wdTicks == 0 && !h.inClip && [3, 4, 5].contains h.outKind && decide (h.outId < (if h.outKind = 4 then 8 else 16)) &&
      decide (h.win * h.floorI ≤ h.wB) && decide (Config.headerNeed h ≤ fHdr) && decide (h.headerLeast ≤ fHdr))
  else h == {}

/-- Weight of Table 8-3, in thousandths. -/
def HevcEntry.weight (h : HevcEntry) : Nat :=
  if h.bits = 2 then (if h.sub = 0 then 1875 else 1250) else if h.sub = 0 then 1500 else if h.sub = 1 then 1000 else 750

/-- The enabled contexts of engine `e`. -/
def Plan.contexts (p : Plan) (e : Nat) : List HevcEntry := ((p.hevc.drop (32 * e)).take 32).filter (·.enable)

/-- Load of an engine with contexts `l` at `rate` weighted pixels per second, as a share of the engine's time (R221): the weighted
pixels, and a switch of 24 µs per picture when the engine serves more than one context. -/
def engineShare (rate : Nat) (l : List HevcEntry) : Frac :=
  let fps := fun (h : HevcEntry) => (Frac.mk h.fpsNum (max 1 h.fpsDen))
  Frac.sum ((l.map fun h => (fps h).scale (h.width * h.height * h.weight) (1000 * rate)) ++
    (if 1 < l.length then l.map fun h => (fps h).scale 24 1000000 else []))

/-! ### Outputs (R255, R256, R262, R265, R266, R270) -/

/-- Width and height of a RASTER code (Table 9-1). -/
def rasterSize (r : Nat) : Nat × Nat := [(1920, 1080), (2048, 1080), (3840, 2160), (4096, 2160), (7680, 4320), (8192, 4320)].getD r (0, 0)

/-- Frame rate of a RATE code (Table 9-1). -/
def sdiRate (r : Nat) : Nat × Nat := [(24000, 1001), (24, 1), (25, 1), (30000, 1001), (30, 1), (48000, 1001), (48, 1), (50, 1), (60000, 1001), (60, 1)].getD r (0, 1)

/-- The rasters and rates of a MODE (Table 9-3). -/
def sdiFormat (mode raster rate : Nat) : Bool :=
  match mode with
  | 1 => decide (raster ≤ 1)
  | 2 => within raster 2 3 && decide (rate ≤ 4)
  | 3 => within raster 2 3 && within rate 5 9
  | 4 => within raster 4 5
  | _ => true

/-- Ranges of an SDI entry (Table 9-1, Table 9-3). -/
def SdiEntry.inRange (e : SdiEntry) (n : Nat) : Bool :=
  let (num, den) := sdiRate e.rate
  decide (e.mode ≤ 4) && (e.mode != 4 || n == 0) && decide (e.raster ≤ 5) && decide (e.rate ≤ 9) && (!e.df || e.rate == 3 || e.rate == 8) &&
  sdiFormat e.mode e.raster e.rate && decide (2 * e.phase.natAbs * num ≤ 1000000000 * den)

/-- Lines of a display frame (R270). -/
def DispEntry.vTotal (e : DispEntry) : Nat := e.vActive + e.vFront + e.vSync + e.vBack

/-- Ranges of the display entry (Table 9-2, R270). -/
def DispEntry.inRange (e : DispEntry) : Bool :=
  if e.enable then
    decide (80 ≤ e.hBlank) && decide (1 ≤ e.vFront) && decide (1 ≤ e.vSync) && decide (1 ≤ e.vBack) && decide (e.lineMatch < e.vActive) &&
    decide (0 < e.fpsDen) && decide (0 < e.fpsNum) && decide (e.fpsNum ≤ 120 * e.fpsDen) && decide (e.vActive ≤ 2160) && e.hActive % 2 == 0 &&
    decide (e.hActive ≤ (if 60 * e.fpsDen < e.fpsNum then 3840 else 4096)) &&
    decide ((e.hActive + e.hBlank) * e.vTotal * e.fpsNum * (3 * (if e.bpc8 then 8 else 10)) * 100 * 132 ≤
      97 * (if e.uhbr135 then 54000000000 else 40000000000) * 128 * e.fpsDen) &&
    decide (2 * e.phase.natAbs * e.fpsNum ≤ 1000000000 * e.fpsDen)
  else true

/-- Cellar pages of the SDI buffers and Attic pages of the display buffers (R255, R256). -/
def Plan.sdiPages (p : Plan) : Nat :=
  sumNat (p.sdi.map fun e => if e.mode = 0 then 0 else (let (w, h) := rasterSize e.raster; 3 * ceilDiv (w * h * 20 / 8) 4096))
def Plan.dispPages (p : Plan) : Nat := if p.display.enable then 6 * ceilDiv (p.display.hActive * p.display.vActive * 4) 4096 else 0

/-- Pages of the Cellar's standing regions (R53, R255, R339, R392): counted once for plans that share the memory section. -/
def Plan.standing (p : Plan) : Nat :=
  p.hevcPages + p.sdiPages + sumNat (p.reviewRings.map fun r => r.slots * r.slotPages)

/-- A frame rate divided by `n` is `num / den` per second. A sensor's frame period stands in whole ticks, and RATE is no whole number
of them, so a sensor's rate agrees when every frame period is off by less than a tick: DESIGN CHOICE (log 58). -/
def FrameRate.agrees (r : FrameRate) (n num den : Nat) : Bool :=
  let a := r.span * n * num
  let b := r.frames * 1000000000 * den
  a == b || decide (((a : Int) - b).natAbs < r.rounded * n * num)

/-- A slot bound to an SDI output has its raster, rate and encoding (R266). -/
def Plan.sdiBound (p : Plan) (g : GraphSlot) : Bool :=
  let e := p.sdi.getD g.destId default
  let (num, den) := sdiRate e.rate
  e.mode != 0 && decide (g.destId < 4) && (g.outW, g.outH) == rasterSize e.raster && (g.ycc == 1 || g.ycc == 2) && g.sub == 1 && g.bits == 0 && !g.fullRange &&
  (p.sourceRate g).agrees (g.takeN + 1) num den

/-- A quad link shares its outputs with no other slot (R266). -/
def Plan.quadAlone (p : Plan) : Bool :=
  (p.sdi.getD 0 default).mode != 4 || !(p.enabled.any fun k => let g := p.graph.getD k default; g.destKind == 0 && within g.destId 1 3)

/-- A slot bound to the display has its size and encoding (R270). -/
def Plan.dispBound (p : Plan) (g : GraphSlot) : Bool :=
  let e := p.display
  decide (g.destId ≤ 2) && e.enable && g.ycc == 0 && g.sub == 0 && g.bits == 0 && g.outH == e.vActive &&
  g.outW == (if g.destId = 2 then 2 * e.hActive else e.hActive)

/-- Frames of a source that at least one slot takes, as a share of 720,720, the least common multiple of every n (R188, R198). -/
def Plan.takenShare (p : Plan) (mine : GraphSlot → Bool) : Nat :=
  let l := (p.enabled.map fun k => p.graph.getD k default).filter mine
  if l.isEmpty then 0
  else if l.any (·.takeN == 0) then 720720
  else ((List.range 720720).filter fun f => l.any fun g => f % (g.takeN + 1) == g.takePhase).length

/-- Colour pixels per second (R188, R196): each sensor and each picture source counts once, with the frames that any rendition
takes. -/
def Plan.colourRate (p : Plan) : Frac :=
  let share := fun (kind id : Nat) => p.takenShare fun g => g.srcKind == kind && g.srcId == id
  let pics := ((p.enabled.map fun k => p.graph.getD k default).map fun g => (g.srcKind, g.srcId)).eraseDups.filter (·.1 != 0)
  Frac.sum ((p.portPlans.map fun x =>
      (perSecond (x.profile.width * (x.profile.frameRows - x.profile.obRows)) x.profile.framePeriod).scale (share 0 x.lead) 720720) ++
    pics.map fun (kind, id) =>
      let (w, h) := p.sourceSize { srcKind := kind, srcId := id }
      let r := p.rateOf 17 kind id
      (perSecond (w * h * r.frames) r.span).scale (share kind id) 720720)

/-! ### Media and host loads (Table 1-9, R30) -/

/-- Bits of a BITS code of Table 7-2. -/
def bitsOf (code : Nat) : Nat := [10, 12, 16].getD code 10

/-- Bytes of a frame as R340 packs it, with its header. -/
def GraphSlot.packedBytes (g : GraphSlot) : Nat :=
  let row := fun (n : Nat) => ceilDiv (n * bitsOf g.bits) 32 * 4
  64 + (if g.sub = 0 then g.outH * row (3 * g.outW) else if g.sub = 1 then g.outH * row (2 * g.outW)
    else g.outH * row g.outW + 2 * (g.outH / 2 * row (g.outW / 2)))

/-- Bytes of a frame in a host frame ring, with its header (R444). -/
def GraphSlot.ringBytes (g : GraphSlot) : Nat :=
  64 + 2 * (if g.sub = 0 then 3 * g.outW * g.outH else if g.sub = 1 then 2 * g.outW * g.outH else g.outW * g.outH + 2 * (g.outW / 2 * (g.outH / 2)))

/-- Coded bytes per second of an encode context: its largest bit rate, or in constant QP its picture cap (Table 8-4). -/
def HevcEntry.byteRate (h : HevcEntry) : Frac :=
  if h.rcMode = 2 then { num := h.picCap * h.fpsNum, den := max 1 h.fpsDen } else { num := max h.bitrate h.maxBitrate, den := 8 }

/-- The coded streams that a plan binds to an OUT_KIND. -/
def Plan.codedRate (p : Plan) (kind : Nat) : List Frac :=
  (p.hevc.filter fun h => h.enable && !h.decode && h.outKind == kind).map HevcEntry.byteRate

/-- Bytes per second that a plan writes to the media (Table 1-9, and the worked example after R30): the coded raw of every port at
its budget, and the streams bound to the Store Room. -/
def Plan.mediaRate (p : Plan) : Frac :=
  Frac.sum ((p.portPlans.map fun x => perSecond (rawBudget x.profile x.raw) x.profile.framePeriod) ++
    ((p.enabled.map fun k => p.graph.getD k default).filter (·.destKind == 4)).map (fun g => p.perFrame g g.packedBytes) ++ p.codedRate 4)

/-- Bytes per second that a plan moves to the host (Table 1-9): the frame rings and byte rings that it binds. -/
def Plan.hostRate (p : Plan) : Frac :=
  Frac.sum (((p.enabled.map fun k => p.graph.getD k default).filter (·.destKind == 3)).map (fun g => p.perFrame g g.ringBytes) ++ p.codedRate 3)

end Sys2Proof
end

