-- ==== Sys2Proof/Machine/CodeIn.lean ====
section
/-! DEFINITION. What reaches an HEVC encode context at ticket issue and from the front end: source frames, missing frames, and
the green zone means of the shot-change policy (08_video_coding.md R224, R225, R228, R233, R235, R236, R237). -/

namespace Sys2Proof.Machine

open Sys2Proof

/-- Frame number `a` is at or before `b`, by signed difference modulo 2³² (R51). -/
def serialLe (a b : Nat) : Bool := decide ((b % 2 ^ 32 + 2 ^ 32 - a % 2 ^ 32) % 2 ^ 32 < 2 ^ 31)

/-! ### Pictures that wait (R228, R233, R251) -/

/-- A job in its place in output order. -/
def insertJob (j : CodeJob) : List CodeJob → List CodeJob
  | [] => [j]
  | k :: r => if j.poc ≤ k.poc then j :: k :: r else k :: insertJob j r

/-- The pictures that no engine has started are inputs again, in output order (R228, R251, log 64). -/
def HevcCtx.takeBack (c : HevcCtx) : HevcCtx :=
  { c with
    inputs := (c.jobs.foldr insertJob []).map (·.input) ++ c.inputs, jobs := []
    poc := c.jobs.foldl (fun m j => min m j.poc) c.poc }

/-- The next picture that a context codes is an IDR picture that starts a new window with the QP reset (R228, R242). -/
def HevcCtx.restart (c : HevcCtx) : HevcCtx := { c.takeBack with irapDue := true, idrDue := true, fresh := true }

/-- The source frame of some inputs is not delivered (R233): their pictures become repeats, and an IRAP that has formed is formed anew. -/
def HevcCtx.miss (same : CodeInput → Bool) (c : HevcCtx) : HevcCtx :=
  let mark := fun (i : CodeInput) => if same i then { i with missing := true, known := true } else i
  let inputs := c.inputs.map mark
  if c.jobs.any fun j => j.irap && same j.input then
    let g := c.gopStart
    { c with
      inputs := c.jobs.map (fun j => mark j.input) ++ inputs, jobs := [], poc := g.poc, sinceIrap := g.sinceIrap, prevZones := g.prevZones
      irapDue := g.irapDue, idrDue := g.idrDue, fresh := g.fresh }
  else { c with
    inputs := inputs
    jobs := c.jobs.map fun j => if same j.input then { j with
      input := mark j.input, type := if j.type = 0 then 1 else j.type, shot := false, policyPin := false } else j }

/-- One source frame in the pattern of the slot that feeds a context: taken, or missing (R224, R225, R233, R235, R236); in the
112 °C stop a frame is neither (R228). -/
def acceptInput (t : Ticket) (qp : Int) (sensor taken stop : Bool) (c : HevcCtx) : HevcCtx :=
  if c.st == .openSt && !c.entry.decode then
    if !taken && stop then c
    else
      let force := c.forceIdr.any fun f => serialLe f t.frame
      let i : CodeInput := {
        ticket := t, qpDelta := qp, missing := !taken, known := !taken || !sensor || !c.entry.shotPin, idr := force }
      let c1 := { c with inputs := c.inputs ++ [i], forceIdr := if force then none else c.forceIdr }
      if taken then { c1 with
          pins := c.pins.map fun p => if p.host && p.target.isNone && serialLe p.frame t.frame then { p with target := some t.frame } else p }
      else c1
  else if taken then { c with discarded := c.discarded + 1 }
  else c

/-- A source frame reaches every encode context that its slots feed (R224, R233). -/
def codeInputs (p : Plan) (mine : GraphSlot → Bool) (t : Ticket) (sensor : Bool) (qp : Nat → Int) (s : State) : State :=
  let slots := p.enabled.filter fun k =>
    let g := p.graph.getD k default
    mine g && g.destKind == 2 && t.frame % (g.takeN + 1) == g.takePhase
  slots.foldl (fun s k => { s with
    ctxs := upd s.ctxs (p.graph.getD k default).destId (acceptInput t (qp k) sensor (bit t.takeMask k) (s.therm.level == 3)) }) s

/-- A source frame that delivers no picture counts as missing (R233). -/
def codeMissing (t : Ticket) (s : State) : State :=
  { s with ctxs := s.ctxs.map (HevcCtx.miss fun i => i.ticket.entry == t.entry && i.ticket.frame == t.frame && i.ticket.time == t.time) }

/-- MEAN of channel `n` of a zone (R126). -/
def Zone.mean (z : Zone) (n : Nat) : Nat :=
  let c := z.counts.getD n 0
  if c = 0 then 0 else z.sums.getD n 0 * 64 / c % 2 ^ 24

/-- The green-channel means of the zone records (R237). -/
def greenMeans (cfaMap : Nat) (zones : List Zone) : List Nat :=
  let greens := (List.range 4).filter fun n => bits cfaMap (2 * n) 2 == 1
  zones.flatMap fun z => greens.map z.mean

/-- A frame's statistics block is known to the contexts that wait for it (R237). -/
def codeZones (t : Ticket) (means : List Nat) (s : State) : State :=
  { s with ctxs := s.ctxs.map fun c => { c with inputs := c.inputs.map fun i =>
      if !i.known && i.ticket.entry == t.entry && i.ticket.frame == t.frame then { i with known := true, zones := means } else i } }

end Sys2Proof.Machine
end

