-- ==== Sys2Proof/Machine/Frames.lean ====
section
/-! DEFINITION. Frames in flight: what a port's plan says, row groups, truncation, statistics blocks, plan switches, shedding,
ticket issue and retirement (02_frame_plans.md R33 to R61, 04_raw_front_end.md R104 to R112, R127, 05_calibration.md R139,
R145, 07_colour_and_renditions.md R198, R211 to R215, 08_video_coding.md R227, 09_outputs_and_display.md R264,
17_faults_thermal_supply.md R489 to R508). -/

namespace Sys2Proof.Machine

open Sys2Proof

/-! ### Pools (R53, R116) -/

/-- Pages of the Attic outside the fixed regions and the port regions (R53, R116). -/
def atticPool : Nat := 131072 - 2048 - 8192 - 19310 - 384 - 2112

/-- Interfaces that the strap gives (R373, R513): CEL_CFG 0, 1, 2 for 4, 8, 12; 3 for no Cellar. -/
def SysState.ifcCount (x : SysState) : Nat := if x.celCfg = 3 then 0 else 4 * (x.celCfg + 1)

/-- Interfaces that the ordering code enables (R4, Table 0-1). -/
def SysState.ifcLimit (x : SysState) : Nat := match x.ordering with | 0 => 4 | 1 => 8 | _ => 12

/-- Lines of one interface (R376): 2²⁷ at 16 GiB, so 2²³ per GiB (log 66). -/
def State.ifcLines (s : State) : Nat := s.mem.gib * 2 ^ 23

/-- Pages of the Cellar (R375). -/
def State.cellarPages (s : State) : Nat := s.sys.ifcCount * s.ifcLines / 38

/-- The memory subsection in force (R394). -/
def State.memSec (s : State) : MemSec := s.mem.plan.getD default

/-- The plans of Active Shelves. -/
def State.activePlans (s : State) : List Plan := s.shelves.filterMap fun k => if k.st == .active then k.plan else none

/-- Pages that the items of live frames hold in a pool (R52, R55). -/
def State.heldPages (s : State) (pool : Nat) : Nat :=
  sumNat (s.live'.map fun (_, e) => sumNat (e.items.map fun i => if i.1 == pool then i.2.1 else 0))

/-- Pages of a pool that frames may hold: the pool less standing regions and the dynamic pools (R53, R392). -/
def State.poolPages (s : State) (pool : Nat) : Nat :=
  let m := s.memSec
  if pool = 0 then atticPool - m.atticPages - m.dynAttic - sumNat (s.activePlans.map Plan.dispPages)
  else s.cellarPages - m.larderPages - m.storePages - m.dynCellar - sumNat (s.activePlans.map Plan.standing)

/-- Free pages of a pool (R55). -/
def State.freePages (s : State) (pool : Nat) : Nat := s.poolPages pool - s.heldPages pool

/-! ### Ends of stages (R52) -/

/-- Stage class `c` has finished the frame of entry `e`: its items are released (R52). -/
def endClass (e c : Nat) (s : State) : State :=
  s.setEntry e fun x => { x with ended := x.ended.set c true, items := x.items.filter fun i => i.2.2 != c }

/-- Everything of a sensor frame has ended: items released, destinations served, stages done (R52). -/
def Entry.retirable (e : Entry) : Bool :=
  e.items.isEmpty && e.pendingDest.isEmpty &&
    (!e.isSensor || (e.ended.getD 0 false && e.ended.getD 1 false && (e.ticket.takeMask == 0 || e.ended.getD 2 false)))

/-! ### Row groups and truncation (R105 to R108) -/

/-- The first row of the frame that is not complete (R107). -/
def Entry.front (e : Entry) : Nat := e.fronts.foldl min e.rowCount

/-- The row groups of a frame of `rows` rows (R16). -/
def groupsOf (p : PortProfile) (rows : Nat) : List RowGroup :=
  let g := p.groupRows
  (List.range (ceilDiv rows g)).map fun i =>
    { index := i, firstRow := i * g, rows := min g (rows - i * g), last := decide (rows ≤ (i + 1) * g) }

/-- Waiting groups whose rows and the H rows after them are complete become ready (R108). -/
def Entry.refresh (e : Entry) (h : Nat) : Entry :=
  let f := e.front
  let ok := fun (g : RowGroup) => e.closed || decide (min (g.firstRow + g.rows + h) e.rowCount ≤ f)
  { e with groups := e.groups.map fun g => if g.st == .waiting && ok g then { g with st := .ready } else g }

/-- The front end has finished the frame: its last row group has left, or it has closed without one (R107, R127). -/
def Entry.feDone (e : Entry) : Bool := (e.closed || !e.groups.isEmpty) && e.groups.all (·.st == .left)

/-- Release the rows of a frame from row `t` on in every member's intake (R105). -/
def releaseFrom (members : List Nat) (frame t : Nat) (s : State) : State :=
  members.foldl (fun s p => s.setPort p fun x => { x with intake := x.intake.filter fun r => r.frame != frame || decide (r.row < t) }) s

/-- The reading at which the last sample of row `t - 1` of a frame was accepted, if the row is still in intake (R127). -/
def State.rowTime (s : State) (members : List Nat) (frame t : Nat) : Option (Nat × Nat) :=
  (members.findSome? fun p => (at! s.ports p).intake.find? fun r => r.frame == frame && r.row + 1 == t && r.time != 0).map fun r => (r.time, r.row)

/-- A frame is truncated at row `t` (R105, R106): rows at or beyond it are released and every member discards the rest. LAST_TIME
becomes that of the row before (R127). -/
def truncateAt (e t : Nat) (s : State) : State :=
  match s.entry? e with
  | none => s
  | some x =>
    let pp := s.entryPort x
    let cut := if x.ticket.trunc then min t x.rowCount else t
    let g := pp.profile.groupRows
    let s1 := s.setEntry e fun x => { x with
      rowCount := min cut x.rowCount
      discarded := pp.profile.frameRows - cut
      stats := match s.rowTime pp.profile.members x.ticket.frame cut with
        | some (v, r) => { x.stats with lastTime := v, lastTimeRow := r }
        | none => x.stats
      ticket := { x.ticket with trunc := true, lastRow := if cut = 0 then 0x3FFFF else cut - 1 }
      groups := (x.groups.filter fun k => decide (k.firstRow < cut)).map fun k =>
        if cut ≤ k.firstRow + g then { k with rows := min k.rows (cut - k.firstRow), last := true, trunc := true } else k }
    let s2 := releaseFrom pp.profile.members x.ticket.frame cut s1
    let s3 := pp.profile.members.foldl (fun s p => s.setPort p fun q =>
      if q.part.frame == x.ticket.frame then { q with part := { q.part with truncAt := some cut } } else q) s2
    s3.setEntry e fun x => x.refresh pp.profile.h

/-! ### Statistics block (R127 to R129) -/

/-- One zone record (Table 4-5). -/
def Zone.bytes (z : Zone) : Bytes :=
  ((List.range 4).flatMap fun n => le 4 (z.mean n) ++ le 4 (z.clipped.getD n 0) ++ le 4 (z.counts.getD n 0)) ++
  le 4 (sat 32 z.focusH) ++ le 4 (sat 32 z.focusV) ++ le 8 0

/-- The 96-byte statistics header (Table 4-4). -/
def FrameStats.header (f : FrameStats) : Bytes :=
  let (seq, integ, gain) := f.echo.getD (0, 0, 0)
  le 4 f.rowsDone ++ le 4 f.staticFixed ++ le 4 f.dynamicFixed ++ le 4 f.missing ++
  le 4 integ ++ le 2 gain ++ le 1 seq ++ le 1 (b2n f.echo.isSome + 2 * b2n f.expMatch) ++ le 4 f.expPageGen ++
  le 4 (f.embedded.length + 8192 * b2n f.embCut) ++ le 4 f.clipTotal ++ le 4 f.expRow ++ le 8 f.row0Time ++ le 8 f.lastTime ++
  le 2 f.feLate ++ le 2 f.defectUnfixed ++ padTo 36 []

/-- The 64 KiB block (Table 4-3). -/
def statsBlock (t : Ticket) (f : FrameStats) : Bytes :=
  t.bytes ++ f.header ++
  ((List.range 4).flatMap fun c => (List.range 1024).flatMap fun b => le 4 ((f.hist.getD c []).getD b 0)) ++
  ((List.range 576).flatMap fun z => (f.zones.getD z {}).bytes) ++
  padTo 4096 f.embedded ++ padTo 8064 []

/-- The geometry of a port's profile is unchanged (R145). -/
def sameGeometry (p q : PortProfile) : Bool :=
  p.width == q.width && p.rows == q.rows && p.mono == q.mono && p.cfaMap == q.cfaMap && p.gains == q.gains && p.sampleBits == q.sampleBits &&
  p.obRows == q.obRows && p.members == q.members

/-- The statistics block is posted, and written to the host ring if one is bound (R127, R128). Calibration has no use for a frame of another
geometry than the port's (R145). -/
def postStats (e : Nat) (s : State) : State :=
  match s.entry? e with
  | none => s
  | some x =>
    if x.statsPosted then s
    else
      let s := codeZones x.ticket (greenMeans (s.entryPort x).profile.cfaMap x.stats.zones) s
      let s1 := s.setEntry e fun x => { x with statsPosted := true, stats := { x.stats with rowsDone := x.rowCount } }
      let s1 := s1.setSensor x.lead fun y => { y with
        lastHist := x.stats.hist
        calWaiting := if sameGeometry (s.entryPort x).profile (s.portPlan x.lead).profile then
            y.calWaiting ++ [{ ticket := x.ticket, sums := x.stats.cal, ratio := x.calRatio, discard := x.calDiscard }] else y.calWaiting }
      match (at! s1.sensors x.lead).ring with
      | none => s1
      | some r =>
        let y := (s1.entry? e).getD default
        match s1.ringPut r (statsBlock y.ticket y.stats) with
        | none => raiseFor 67 x.lead [] e s1
        | some (r', s2) => raiseFor 66 x.lead [] e (s2.setSensor x.lead fun k => { k with ring := some r' })

/-- Every group of the frame has left the front end: the block is posted and class 0 ends (R52, R127). -/
def frontEndEnd (e : Nat) (s : State) : State :=
  match s.entry? e with
  | none => s
  | some x => if x.feDone && !x.ended.getD 0 false then endClass e 0 (postStats e s) else s

/-- A frame that closes without a complete row produces no row group: the colour path and the stages after it have nothing to
do (R107), and a context that waits for it codes a repeat (R233); the raw coder still writes its header and trailer (R180). -/
def emptyFrame (e : Nat) (s : State) : State :=
  match s.entry? e with
  | none => s
  | some x =>
    if x.groups.isEmpty then
      let s1 := s.setEntry e fun x => { x with ticket := { x.ticket with trunc := true, lastRow := 0x3FFFF } }
      codeMissing x.ticket (endClass e 4 (endClass e 3 (endClass e 2 (s1.setEntry e fun x => { x with pendingDest := [] }))))
    else s

/-- The frame closes at intake: its groups that wait are ready (R81, R108). The colour path has nothing to do for a frame without a complete
image row, which its renditions fill (R188, R213). -/
def closeEntry (e : Nat) (s : State) : State :=
  match s.entry? e with
  | none => s
  | some x =>
    if x.closed then s
    else
      let p := (s.entryPort x).profile
      let bare := decide (x.rowCount ≤ p.obRows) && !x.groups.isEmpty
      let s1 := s.setEntry e fun x =>
        let y := ({ x with closed := true }).refresh p.h
        if bare then { y with colour := { y.colour with finished := true } } else y
      frontEndEnd e (emptyFrame e (if bare then endClass e 2 s1 else s1))

/-- A frame is truncated at row `t`, or at a lower one that another member has not wholly accepted (R106), and closes there (R108).
EVT.FE.INTAKE_OVERFLOW tells how many rows were discarded; it is raised once for a frame. -/
def overflow (e t : Nat) (s : State) : State :=
  match s.entry? e with
  | none => s
  | some x =>
    let s1 := truncateAt e (min t x.front) s
    let s2 := if x.ticket.trunc then s1 else raiseFor 68 x.lead [((s1.entry? e).getD default).discarded] e s1
    closeEntry e s2

/-- Every member has closed its part of the frame. Rows that are not complete then belong to a member that went Down, and the frame
ends before the first of them (R94, R106, R107). -/
def endFrame (e : Nat) (s : State) : State :=
  match s.entry? e with
  | none => s
  | some x => if !x.closed && decide (x.front < x.rowCount) then overflow e x.front s else closeEntry e s

/-! ### Shedding (R60, R499, R507, R508) -/

/-- Bits of a list of slots. -/
def slotMask (l : List Nat) : Nat := sumNat (l.eraseDups.map (2 ^ ·))

/-- What slack asks of the port at this ticket issue (R507): runs of frames below SLACK_LOW per class, and one further
rendition after SLACK_FRAMES of them. The first 64 tickets shed nothing for slack (R508). It sheds at most SHED_105 of the plan that
runs (R60); while policy 3 is held it sheds nothing, and a release starts from that (R59). -/
def slackStep (p : Plan) (now : Nat) (x : Sensor) : Sensor × Bool :=
  let low := p.fault.slackLow
  let x := { x with shedSlack := if x.holds.getD 3 false then 0 else min x.shedSlack p.shed105 }
  let run := (List.range 5).map fun c => match x.spanSlack.getD c none with
    | some v => if v < low then min 255 (x.lowRun.getD c 0 + 1) else 0
    | none => 0
  let clear := [1, 3, 4].all fun c => match x.spanSlack.getD c none with
    | some v => decide (2 * low ≤ v)
    | none => true
  let since := if clear then some (x.clearSince.getD now) else none
  let x : Sensor := { x with lowRun := run, spanSlack := List.replicate 5 none, slackWait := x.slackWait + 1, clearSince := since }
  let due := [1, 3, 4].any fun c => decide (p.fault.slackFrames ≤ run.getD c 0)
  if x.holds.getD 3 false ∨ x.tickets < 64 then (x, false)
  else if due ∧ p.fault.slackFrames ≤ x.slackWait ∧ max x.shedSlack x.shedNow < p.shed105 then
    ({ x with shedSlack := max x.shedSlack x.shedNow + 1, slackWait := 0 }, true)
  else if (since.map fun t => decide (t + 1000000000 ≤ now)) = some true then ({ x with shedSlack := 0 }, false)
  else (x, false)

/-- The number of renditions shed at this ticket issue: the larger request at once, restored one per 64 frames (R60, R508). -/
def shedStep (want : Nat) (x : Sensor) : Sensor :=
  if x.holds.getD 3 false then { x with shedNow := 0, restoreWait := 0 }
  else if x.shedNow ≤ want then { x with shedNow := want, restoreWait := 64 }
  else if 64 ≤ x.restoreWait then { x with shedNow := x.shedNow - 1, restoreWait := 1 }
  else { x with restoreWait := x.restoreWait + 1 }

/-- SHED_MASK of a ticket of the port (R60, R214, R215, R500). -/
def State.shedMask (s : State) (p : Plan) (x : Sensor) : Nat :=
  if s.therm.level = 3 then slotMask p.enabled
  else slotMask (p.shedOrder.take x.shedNow ++ p.enabled.filter fun k => (at! s.rend k).lost)

/-- TJ as an event carries it: quarter degrees, two's complement (R510). -/
def State.tjArg (s : State) : Nat := ofInt 32 s.therm.tj

/-- Events of the thermal step that this ticket issue applies (Table 17-4, R499, R510): each carries TJ, EVT.THERM.CLEARED the level
left in degrees too. -/
def thermalEvents (l old new : Nat) (s : State) : State :=
  let up := ((List.range 4).filter fun k => decide (old < k) && decide (k ≤ new)).foldl (fun s k => raise (282 + k) l [s.tjArg] none s) s
  let down := ((List.range 4).filter fun k => decide (new < k) && decide (k ≤ old)).reverse.foldl (fun s k =>
    let s := raise 287 l [s.tjArg, if k = 1 then 100 else if k = 2 then 105 else 112] none s
    if k = 3 then raise 286 l [s.tjArg] none s else s) up
  down

/-! ### Substitution (R489 to R494) -/

/-- GEN of a router position advances (R486). -/
def UnitMap.bump (u : UnitMap) (kind pos : Nat) : UnitMap :=
  if kind = 0 then { u with feGen := upd u.feGen pos (fun g => (g + 1) % 8) }
  else { u with csGen := upd u.csGen pos (fun g => (g + 1) % 8) }

/-- GEN of a router position. -/
def UnitMap.gen (u : UnitMap) (kind pos : Nat) : Nat := if kind = 0 then u.feGen.getD pos 0 else u.csGen.getD pos 0

/-- Change one unit. -/
def UnitMap.set (u : UnitMap) (kind number : Nat) (f : UnitRec → UnitRec) : UnitMap :=
  { u with units := u.units.map fun x => if x.kind == kind && x.number == number then f x else x }

/-- A unit of Table 17-1. -/
def UnitMap.get? (u : UnitMap) (kind number : Nat) : Option UnitRec := u.units.find? fun x => x.kind == kind && x.number == number

/-- INSTANCE of a unit's events: the class in the high byte and the number in the low one. -/
def unitInst (kind number : Nat) : Nat := kind * 256 + number

/-- The slice at a position is disconnected: the tokens of its group that have not reached the router are discarded for their stale
GEN, and the router completes the group with poisoned ones (R490). How far the slice had come is a free value. -/
def fence (kind pos : Nat) (s : State) : State :=
  match (if kind = 0 then s.fePos else s.csPos).getD pos none with
  | none => s
  | some j =>
    let (n, s) := s.takeFree
    let s := if kind = 0 then { s with fePos := s.fePos.set pos none } else { s with csPos := s.csPos.set pos none }
    match s.entry? j.entry with
    | none => s
    | some e =>
      let w := (s.entryPort e).profile.width
      let groups := if kind = 0 then e.groups else e.colour.groups
      let rows := ((groups.find? (·.index == j.group)).map (·.rows)).getD 0
      let total := rows * (if kind = 0 then w / 4 else w)
      let first := Config.freeBits 32 n % (total + 1)
      let spoil := fun (g : RowGroup) => if g.index = j.group then
          { g with bad := (g.bad ++ (List.range' first (total - first))).eraseDups } else g
      let s := s.setEntry j.entry fun x =>
        let x := { x with ticket := { x.ticket with poison := x.ticket.poison || decide (first < total) } }
        if kind = 0 then { x with groups := x.groups.map spoil } else { x with colour := { x.colour with groups := x.colour.groups.map spoil } }
      if first < total then raiseLimitedBy (ms 1000) (total - first) 277 0 0 (fun k => [k]) s else s

/-- A faulty slice is fenced: its position's GEN advances, and the lowest-numbered spare takes its place (R489, R491). -/
def substitute (x : UnitRec) (s : State) : State :=
  let pos := x.pos.getD 0
  let s := fence x.kind pos s
  let u1 := (s.units.bump x.kind pos).set x.kind x.number fun y => { y with
    st := .retired, pos := none, retires := sat 8 (y.retires + 1), changed := s.reading }
  match u1.units.find? fun y => y.kind == x.kind && y.st == .spare with
  | some sp =>
    let u2 := u1.set x.kind sp.number fun y => { y with st := .active, pos := some pos, changed := s.reading }
    raise 274 (unitInst x.kind sp.number) [] none { s with units := u2 }
  | none => raise 275 (unitInst x.kind x.number) [] none { s with units := u1 }

/-- An unspared unit is retired (R492): a rendition unit's slots are shed, and an engine's contexts drain. The slots lost are answered
beside the state, since the ticket of EVT.REN.UNIT_LOST is not yet issued (R217). -/
def retireUnit (x : UnitRec) (s : State) : State × List Nat :=
  let u := s.units.set x.kind x.number fun y => { y with st := .retired, retires := sat 8 (y.retires + 1), changed := s.reading }
  let s1 := raise 276 (unitInst x.kind x.number) [] none { s with units := u }
  if x.kind = 3 then
    let lost := s1.activePlans.flatMap fun p => p.enabled.filter fun k =>
      let g := p.graph.getD k default
      decide (g.unitFirst ≤ x.number) && decide (x.number ≤ g.unitFirst + g.unitCount)
    (lost.foldl (fun s k => { s with rend := upd s.rend k fun r => { r with lost := true } }) s1, lost)
  else if x.kind = 4 then
    ({ s1 with ctxs := s1.ctxs.zipIdx.map fun (c, i) =>
        if i / 32 == x.number && c.st == .openSt then { c with st := .draining, inputs := [], jobs := [] } else c }, [])
  else (s1, [])

/-- The faulty units are substituted or retired at a ticket issue, unless policy 6 is held (R489, R493); with the slots lost. -/
def substituteAll (s : State) : State × List Nat :=
  if s.holds.getD 2 false then (s, [])
  else (s.units.units.filter (·.st == .faulty)).foldl (fun (s, l) x =>
    if x.kind ≤ 1 then (substitute x s, l) else let (s', k) := retireUnit x s; (s', l ++ k)) (s, [])

/-! ### Ports going down (R93, R94) -/

/-- A member whose last closed frame is `last` has closed frame `f` (R51, R81). -/
def closedFrom (f : Nat) (last : Option Nat) : Bool := last.any fun c => serialLe f c

/-- The port receives packets (Table 3-8). -/
def Port.runs (q : Port) : Bool := q.st == .up || q.st == .asleep

/-- Every member of the bond has closed its part of frame `f`, or can deliver no more of it: it is not running, or waits for a
FRAME_START (R81, R82). -/
def State.allClosed (s : State) (l f : Nat) : Bool :=
  (s.portPlan l).profile.members.all fun m =>
    let q := at! s.ports m
    closedFrom f q.part.lastClosed || q.waitStart || !q.runs

/-- A member's part of its frame is over; when every member's is, the frame closes (R81). -/
def closePart (l p : Nat) (s : State) : State :=
  let part := (at! s.ports p).part
  let s1 := s.setPort p fun x => { x with part := { x.part with
    closed := true, opened := false, lastClosed := some x.part.frame, past := x.part.sfc.map fun c => (x.part.frame, c) } }
  match s1.entryOf l part.frame with
  | none => s1
  | some e => if s1.allClosed l part.frame then endFrame e s1 else s1

/-- A scheduled calibration frame is cancelled (R151). The host's command, if one waits, completes ABORTED (log 23). -/
def cancelCal (l : Nat) (s : State) : State :=
  let c := (at! s.sensors l).cal
  if c.state = 0 then s
  else
    let s1 := s.setSensor l fun x => { x with cal := { x.cal with state := 0, fixed := false, drawer := none } }
    let s2 := match c.drawer with
      | some d => fail d Status.aborted s1
      | none => s1
    raise 85 l [] none s2

/-- Training begins on every lane: unaligned, and the search of R97 and R152 at its first setting unless policy 5 is held
(R58). -/
def beginTraining (p : Nat) (s : State) : State :=
  s.setPort p fun x => { x with
    st := .training, trainStart := s.now
    lanes := x.lanes.map fun k => { k with
      aligned := false, goodRun := 0, badRun := 0, mseq := none, arrival := none, trainStep := 0, trainBest := (0, 0), trial := none
      phase := if s.holds.getD 1 false then k.phase else 0, ctle := if s.holds.getD 1 false then k.ctle else 8 } }

/-- A Power State command to a lower state has been fetched and not completed (R308, R525). -/
def State.entering (s : State) : Bool :=
  s.store.cmds.any fun c => c.q == 4 && c.entry.opcode == 0x87 && decide (s.sys.pstate < c.entry.arg0)

/-- CK present and a profile active: Down goes to Training (Table 3-8), once the initialisation list of a new link profile has been
answered (R93, R95); in P2 and P3 the receivers have no power (R524). -/
def tryTrain (p : Nat) (s : State) : State :=
  let q := at! s.ports p
  let ready := (s.leadOf p).any fun l => !(at! s.sensors l).listing
  if q.st = .down ∧ q.ck = true ∧ s.sys.pstate < 2 ∧ ready = true then beginTraining p s else s

/-- Every entry to Down (R93): counted, reported, and the frame in progress ends at the first row the port did not deliver
(R94, R106). -/
def takeDown (p : Nat) (s : State) : State :=
  let q := at! s.ports p
  if q.st = .down then s
  else
    let s1 := s.setPort p fun x => { x with
      st := .down, stats := { x.stats with linkDowns := sat 16 (x.stats.linkDowns + 1) }, test := none, sleepAt := none
      lanes := x.lanes.map fun k => { k with aligned := false, goodRun := 0, badRun := 0, mseq := none, arrival := none }
      inject := x.inject.map fun (i : Injection) => { i with held := none }, bc := { x.bc with trigger := none } }
    let s2 := raise (16 * p + 1) p [] none s1
    match s2.leadOf p with
    | none => s2
    | some l =>
      let s3 := if q.part.opened && !q.part.closed then
          let s := match s2.entryOf l q.part.frame with
            | some e => if (s2.portPlan l).profile.frameRows ≤ q.part.expRow then s2 else overflow e q.part.expRow s2
            | none => s2
          closePart l p s
        else s2
      tryTrain p (cancelCal l s3)

/-! ### Plan switches (R38 to R42, R93, R145, R227, R264, R394) -/

/-- The cold-start estimates of a plan (R157). -/
def coldEstimates (c : CalParams) (w gains : Nat) : Estimates := {
  blf := (List.range gains).map fun k => List.replicate w (c.blackCold.getD k 1024 * 256)
  fpf := List.replicate gains (List.replicate w 0), ratio := c.ratioCold, offset := c.offsetCold
  seen := List.replicate gains (List.replicate w false) }

/-- The STALE bits that a port can have: no ratio on a single-gain port (R143). -/
def staleAll (p : PortProfile) : Nat := if p.gains = 2 then 7 else 5

/-- The first estimate copy of the port that no ticket names and that `busy` does not exclude (R139). -/
def freeCopy (l : Nat) (busy : Nat → Bool) (s : State) : Option Nat :=
  (List.range 5).find? fun k => !busy k && !(s.live'.any fun (_, e) => e.src == .sensor l && e.copy == k)

/-- The plan's own cold-start estimates. -/
def coldOf (pp : PortPlan) : Estimates := coldEstimates pp.cal pp.profile.width pp.profile.gains

/-- Estimate copy `k` of a port; 5 is no copy but the plan's cold-start values (R139, R157). -/
def Sensor.estimates (x : Sensor) (pp : PortPlan) (k : Nat) : Estimates := if k < 5 then at! x.copies k else coldOf pp

/-- A port takes a plan's cold-start estimates, every one of them stale (R145, R157). A ticket still names every copy: the estimates are
then those of the plan (log 62). -/
def coldCal (l : Nat) (pp : PortPlan) (s : State) : State :=
  let k := (freeCopy l (fun _ => false) s).getD 5
  let all := staleAll pp.profile
  s.setSensor l fun x => { x with
    copies := x.copies.set k (coldOf pp), copy := k, inForce := coldOf pp
    stale := all, staleSeen := x.staleSeen &&& all, since := (List.range 3).map fun j => if bit all j then x.since.getD j 0 else 0
    failRun := [0, 0, 0], calLoad := none, calWaiting := [] }

/-- PIPE.SET_CAL's values are taken at the port's ticket issue (R139, R156). -/
def takeCalLoad (l : Nat) (s : State) : State × Bool :=
  match (at! s.sensors l).calLoad, freeCopy l (fun k => k == (at! s.sensors l).copy) s with
  | some (est, valid, bins), some k =>
    let all := staleAll (s.portPlan l).profile
    let s1 := s.setSensor l fun x => { x with
      copies := x.copies.set k est, copy := k, calLoad := none, stale := all - (valid &&& all), failRun := [0, 0, 0]
      validOnce := x.validOnce ||| (valid &&& all) }
    ({ s1 with holdTable := bins.map fun (r, n) => { r := r, n := n } }, true)
  | _, _ => (s, false)

/-- The plan's cold-start page (R44). -/
def coldPage (pp : PortPlan) : Page := {
  pageGen := 0, ports := pp.profile.mask, exposure := pp.profile.expCold, sensorGain := pp.profile.gainCold
  wb := pp.profile.wbCold, rawDelta := pp.profile.rawDeltaCold, stage := padTo 768 pp.profile.stageCold }

/-- The raw ladder's rungs (R177). -/
def ladder : List Nat := [0, 1, 2, 3, 4, 6, 8, 11, 16, 23, 32, 45, 64, 90, 128, 181, 255]

/-- The lowest rung at or above DELTA_INIT (R178). -/
def rungAt (d : Nat) : Nat := (ladder.findIdx? fun r => decide (d ≤ r)).getD 16

/-- The ladder index is set from DELTA_INIT for the frames from the next ticket on; the frames before it go on from theirs (R178, R179).
EVT.RAW.RATE_RESET carries that ticket (R187, log 63). -/
def ladderReset (l : Nat) (s : State) : State :=
  s.setSensor l fun x => { x with ladderInit := some (rungAt (s.portPlan l).raw.deltaInit) }

/-- A switch sets the raw ladder index: no plan has run on the port, or its raw-coder section was another (R178). -/
def resetsLadder (x : Sensor) (pp : PortPlan) : Bool := !x.ran.any fun r => r.raw == pp.raw

/-- What a switch of the members `mem` to a plan does to a context of Shelf `old` (R224, R227): one that a sensor feeds waits for the
switch of its own port. -/
def switchCtx (op : Plan) (mem : List Nat) (old new : Nat) (np : Plan) (i : Nat) (c : HevcCtx) : HevcCtx :=
  let e := np.hevc.getD i default
  let feed := (op.graph.find? fun g => g.enable && g.destKind == 2 && g.destId == i)
  let mine := feed.all fun g => g.srcKind != 0 || mem.contains g.srcId
  if c.st == .openSt && c.shelf == old && mine then
    if e.enable && e.fixed == c.entry.fixed then { c with shelf := new, nextEntry := some e }
    else { c with st := .draining }
  else c

/-- What a switch does to the SDI outputs whose source port is `l` (R264). -/
def switchSdi (np : Plan) (l : Nat) (op : Option Plan) (s : State) : State :=
  let mine := fun (n : Nat) =>
    let f := fun (p : Plan) => p.graph.filter fun g => g.enable && g.destKind == 0 && g.destId == n && g.srcKind == 0
    let g := f np ++ (match op with
      | some p => f p
      | none => [])
    g.isEmpty || g.any (·.srcId == l)
  (List.range 4).foldl (fun s n =>
    let e := np.sdi.getD n default
    let o := at! s.sdi n
    let was := match op with
      | some p => p.sdi.getD n default
      | none => default
    if !mine n || (e.mode == 0 && was.mode == 0) || e == o.entry then s
    else if o.st == .stopped then { s with sdi := upd s.sdi n fun o => { o with entry := e, tcOffset := e.tcOffset } }
    else { s with sdi := upd s.sdi n fun o => { o with stopping := true, restart := some e } }) s

/-- The same for the display pair (R264). -/
def switchDisp (np : Plan) (op : Option Plan) (s : State) : State :=
  let was := match op with
    | some p => p.display
    | none => default
  if (!np.display.enable && !was.enable) || np.display == s.disp.entry then s
  else if s.disp.st == .stopped then { s with disp := { s.disp with entry := np.display, lineMatch := np.display.lineMatch } }
  else { s with disp := { s.disp with stopping := true, restart := some np.display } }

/-- The lane count, symbol rate or membership of a port differs (R93). -/
def linkDiffers (a b : PortProfile) : Bool := a.members != b.members || a.laneCount != b.laneCount || a.symbolRate != b.symbolRate

/-- The old Shelf of a port: Draining while a ticket names it, Loaded when no port runs it any more (Table 2-3); its contexts that no
other plan has taken over drain (R224). -/
def leaveShelf (k : Nat) (s : State) : State :=
  if s.sensors.any (·.shelf == some k) then s
  else
    let named := s.live'.any fun (_, e) => e.ticket.shelf == k
    { s with
      ctxs := s.ctxs.map fun c => if c.st == .openSt && c.shelf == k then { c with st := .draining } else c
      shelves := upd s.shelves k fun x => if x.st == .active then { x with st := if named then .draining else .loaded } else x }

/-- The profile under which a port runs, if a plan drives it. -/
def State.profileOf (s : State) (p : Nat) : Option PortProfile := ((s.leadOf p).bind s.portPlan?).map (·.profile)

/-- A switch changes the link of a port: the section that drove it had other lanes, rate or members, or drives it no more (R93). -/
def linkChanges (s : State) (pp : PortProfile) (m : Nat) : Bool := match s.profileOf m with
  | some b => !pp.members.contains m || linkDiffers b pp
  | none => false

/-- On ports that are not started, a new link profile takes its ports Down; the lead's back channel sends the initialisation list, and
Training waits for its last answer (R93, R95). -/
def newLink (l : Nat) (pp : PortProfile) (down : List Nat) (s : State) : State :=
  let cmds := initCmds pp .linkList
  let s1 := s.setSensor l fun x => { x with listing := !cmds.isEmpty }
  let s2 := down.foldl (fun s m => takeDown m s) s1
  if cmds.isEmpty then s2 else leaveNext l (queueBc l cmds s2)

/-- A plan switch takes effect on lead port `l`: Shelf `k` drives its section's ports from now on (R38, R42 to R44, R93, R145, R178,
R211, R227, R264, R394). Its events are left to the caller, which knows whether a ticket follows. -/
def applySwitch (l k : Nat) (s : State) : State :=
  match s.plan? k with
  | none => s
  | some np =>
    let pp := (np.portPlan? l).getD default
    let mem := pp.profile.members
    let x := at! s.sensors l
    let op := s.planOf? l
    let before := (s.leadOf l).bind s.portPlan?
    let old := mem.flatMap fun m => ((s.profileOf m).map (·.members)).getD []
    let down := (mem ++ old).eraseDups.filter (linkChanges s pp.profile)
    let left := ((mem.filterMap fun m => (at! s.sensors m).shelf).eraseDups).filter (· != k)
    let s0 := mem.foldl (fun s m => s.setSensor m fun y => { y with shelf := some k, switch := none }) s
    let s1 := s0.setSensor l fun y => { y with
      page := { (if y.pageSet then y.page else coldPage pp) with ports := pp.profile.mask }
      staging := { (if y.pageSet then y.staging else coldPage pp) with ports := pp.profile.mask }, pageSet := true, ran := some pp }
    let s2 := { s1 with
      shelves := upd s1.shelves k fun y => { y with st := .active, pending := y.pending.filter fun m => !mem.contains m }
      mem := { s1.mem with plan := some np.memory }
      ctxs := s1.ctxs.zipIdx.map fun (c, i) => left.foldl (fun c o => switchCtx ((s.plan? o).getD default) mem o k np i c) c
      rend := s1.rend.zipIdx.map fun (r, i) =>
        let g := np.graph.getD i default
        let dead := (s1.units.units.filter fun u => u.kind == 3 && u.st == .retired).any fun u =>
          decide (g.unitFirst ≤ u.number) && decide (u.number ≤ g.unitFirst + g.unitCount)
        if g.enable then { r with lost := dead } else r }
    let s3 := left.foldl (fun s o => leaveShelf o s) s2
    let s4 := switchDisp np op (switchSdi np l op s3)
    let s5 := if before.any (fun b => b.profile != pp.profile) then
        s4.setSensor l fun y => { y with settle := max y.settle np.settleFrames } else s4
    let s6 := if x.ran.any (fun r => sameGeometry r.profile pp.profile) then s5 else coldCal l pp s5
    let s7 := if resetsLadder x pp then ladderReset l s6 else s6
    let s8 := if before.isNone || !down.isEmpty then newLink l pp.profile down s7 else s7
    mem.foldl (fun s m => tryTrain m s) s8

/-- EVT.SYS.PLAN_ACTIVE for a switch of lead port `l` to Shelf `k` (R38). -/
def planActive (l k : Nat) (t : Option Ticket) (s : State) : State := raise 315 l [k, (at! s.shelves k).gen] t s

/-- A switch without a ticket: its effect and its event (R38). -/
def switchNow (l k : Nat) (s : State) : State := planActive l k none (applySwitch l k s)

/-- A pending switch of a port whose tickets allow it now (R38, R40). -/
def dueSwitch (l : Nat) (s : State) : Option Nat :=
  let x := at! s.sensors l
  match x.switch with
  | none => none
  | some w =>
    let blocked := w.drain && (match x.shelf with
      | some o => s.live'.any fun (_, e) => e.src == .sensor l && e.ticket.shelf == o
      | none => false)
    if blocked then none else some w.shelf

/-- A stopped port takes its pending switch (R38). -/
def stoppedSwitch (l : Nat) (s : State) : State :=
  if (at! s.sensors l).started then s
  else match dueSwitch l s with
    | some k => switchNow l k s
    | none => s

/-! ### Ticket issue (R49 to R55) -/

/-- Settings that take effect at a ticket issue of the port: policy holds of every member, rings and banks (R59, R116, R122, R128). The
policies of a bond are held by its lead port's hold: DESIGN CHOICE (log 58). -/
def issueSettings (l : Nat) (s : State) : State :=
  let s1 := s.setSensor l fun x => { x with ring := if x.nextRing.isSome then x.nextRing else x.ring, nextRing := none }
  (s1.portPlan l).profile.members.foldl (fun s p => (s.setSensor p fun x => { x with holds := x.holdNext }).setPort p fun q => { q with
    defBank := if q.defNext then 1 - q.defBank else q.defBank, defNext := false
    shadeBank := if q.shadeNext then 1 - q.shadeBank else q.shadeBank, shadeNext := false }) s1

/-- Bank switches whose first frame this is take effect (R211): of slots that this source feeds. -/
def bankSwitches (p : Plan) (mine : GraphSlot → Bool) (s : State) : State × List Nat :=
  let due := p.enabled.filter fun k => mine (p.graph.getD k default) && (at! s.rend k).switchAt.isSome
  (due.foldl (fun s k => { s with rend := upd s.rend k fun r => { r with
      bank := 1 - r.bank, switchAt := none
      banks := upd r.banks r.bank fun b => { b with lutLoaded := false, curvesLoaded := false } } }) s, due)

/-- The slots that take a frame (R198). -/
def takeMask (p : Plan) (mine : GraphSlot → Bool) (frame shed : Nat) : Nat :=
  slotMask (p.enabled.filter fun k =>
    let g := p.graph.getD k default
    mine g && frame % (g.takeN + 1) == g.takePhase && !bit shed k)

/-- Whether stage class `c` will process a frame (R52): the front end and raw coders every sensor frame, the colour path and
renditions a frame that a rendition takes, the engines a frame that an Open context takes, the Store Room and Larder a
sensor frame that they keep. -/
def State.classRuns (s : State) (p : Plan) (sensor : Bool) (take c : Nat) : Bool :=
  let slots := (List.range 16).filter (bit take)
  let dests := slots.map fun k => p.graph.getD k default
  match c with
  | 0 => sensor
  | 1 => sensor
  | 2 => sensor && take != 0
  | 3 => take != 0
  | 4 => dests.any fun g => g.destKind == 2 && (at! s.ctxs g.destId).st == .openSt
  | _ => (sensor && (decide (0 < s.memSec.larderPages) || s.store.clip.isSome)) ||
      (s.store.clip.isSome && dests.any (·.destKind == 4))

/-- The allotment items that a frame holds, with the class that releases each (R52, R53). -/
def State.grants (s : State) (p : Plan) (items : List AllotItem) (sensor : Bool) (take : Nat) : List (Nat × Nat × Nat) :=
  items.filterMap fun i =>
    if s.classRuns p sensor take i.release then some (i.pool, i.pages, i.release)
    else if s.classRuns p sensor take i.holder then some (i.pool, i.pages, i.holder)
    else none

/-- Why a frame is skipped, if it is (R55): 1 no free entry, 2 a pool short of pages. -/
def State.skipCause (s : State) (items : List AllotItem) : Option Nat :=
  if s.table.all (·.isSome) then some 1
  else if s.freePages 0 < needPages items 0 ∨ s.freePages 1 < needPages items 1 then some 2
  else none

/-- EVT.CAL.STALE_SET and EVT.CAL.STALE_CLEAR of a ticket issue, and the readings of Table 5-3 (R145, R146). -/
def staleEvents (l e : Nat) (s : State) : State :=
  let x := at! s.sensors l
  (List.range 3).foldl (fun s j =>
    let was := bit x.staleSeen j
    let is := bit x.stale j
    if is && (!was || x.since.getD j 0 == 0) then
      raiseFor 80 l [] e (s.setSensor l fun y => { y with
        since := y.since.set j s.reading, sinceAt := y.sinceAt.set j s.now, paused := y.paused.set j 0, limitRaised := y.limitRaised.set j false })
    else if was && !is then
      raiseFor 81 l [] e (s.setSensor l fun y => { y with since := y.since.set j 0, limitRaised := y.limitRaised.set j false })
    else s) (s.setSensor l fun y => { y with staleSeen := y.stale })

/-- EVT.CAL.HOLDOVER_BIN for the bins that a load has made valid (R153, R156). -/
def holdoverEvents (e : Nat) (old : List HoldBin) (s : State) : State :=
  ((List.range 32).filter fun b => decide ((at! old b).n < 16) && decide (16 ≤ (at! s.holdTable b).n)).foldl (fun s _ => raiseFor 88 0 [] e s) s

/-- EVT.REN.SHED and EVT.REN.RESTORED (R214) at a ticket issue: for the slots of the plan that its source feeds, whose frames the mask
concerns (log 61). -/
def shedEvents (p : Plan) (mine : GraphSlot → Bool) (e mask : Nat) (s : State) : State :=
  (p.enabled.filter fun k => mine (p.graph.getD k default)).foldl (fun s k =>
    if (at! s.rend k).shed == bit mask k then s
    else raiseFor (if bit mask k then 107 else 108) k [] e { s with rend := upd s.rend k fun r => { r with shed := bit mask k } }) s

/-- Raw frames that a clip should hold and that have no record (R328): GAP records to write, and EVT.MEDIA.GAP at most once per
second with the count. -/
def gapFrames (l frame count cause : Nat) (s : State) : State :=
  raiseLimitedBy (ms 1000) count 197 0 0 (fun n => [n]) { s with store := { s.store with gaps := s.store.gaps ++ [(l, frame, count, cause)] } }

/-- The clip that takes the frames whose tickets are issued now (R327). -/
def State.liveClip (s : State) : Option Nat := s.store.clip.bind fun c => if c.live && !c.closing then some c.num else none

/-- The frame without a ticket (R55): the port discards its data. -/
def skipFrame (l frame cause : Nat) (s : State) : State :=
  let mem := (s.portPlan l).profile.members
  let s1 := s.setSensor l fun x => { x with upcoming := some (frame, none) }
  let s2 := releaseFrom mem frame 0 s1
  let s3 := mem.foldl (fun s p => s.setPort p fun q =>
    if q.part.frame == frame && q.part.opened then { q with part := { q.part with discarding := true } } else q) s2
  let s3 := match s3.planOf? l with
    | some p => codeInputs p (fun g => g.srcKind == 0 && g.srcId == l) { frame := frame, time := s3.reading, ports := (s.portPlan l).profile.mask } true (fun _ => 0) s3
    | none => s3
  let s4 := raise 64 l [(s.portPlan l).profile.mask, frame, cause] none s3
  let c := (at! s4.sensors l).cal
  let s5 := if c.state ≠ 0 ∧ c.fixed = true ∧ c.frame = frame then cancelCal l s4 else s4
  if s5.liveClip.isSome then gapFrames l frame 1 1 s5 else s5

/-- A clip that waits for its first frame starts at this ticket issue (R326). -/
def clipTakesEffect (l frame : Nat) (s : State) : State :=
  match s.store.clip with
  | some c => if c.live then s else { s with store := { s.store with clip := some (if c.pre then { c with live := true } else { c with live := true, lead := l, firstFrame := frame }) } }
  | none => s

/-- What rows that a member accepted before the frame's ticket leave in its statistics (R127). -/
def earlyStats (s : State) (members : List Nat) (frame : Nat) : FrameStats :=
  let rows := (members.flatMap fun p => (at! s.ports p).intake).filter (·.frame == frame)
  let f : FrameStats := { row0Time := ((rows.find? (·.row == 0)).map (·.begun)).getD 0 }
  rows.foldl (fun f r => if r.time ≠ 0 ∧ f.lastTimeRow ≤ r.row then { f with lastTime := r.time, lastTimeRow := r.row } else f) f

/-- A ticket is issued, or the frame is skipped: one step for the port's logic (R38, R49 to R55). The first ticket after SENSOR.START
comes from the pending Shelf even when old tickets live, and starts the settling count of the plan that then runs (R38, R61). -/
def issueTicket (l frame : Nat) (s : State) : State :=
  let first := (at! s.sensors l).fresh
  let s0 := s.setSensor l fun x => { x with nextFrame := wrap 32 (frame + 1), fresh := false }
  let (s1, lost) := substituteAll (issueSettings l s0)
  let due := if first then (at! s1.sensors l).switch.map (·.shelf) else dueSwitch l s1
  let s2 := match due with
    | some k => applySwitch l k s1
    | none => s1
  let s2 := if first then s2.setSensor l fun x => { x with settle := ((s2.planOf? l).getD default).settleFrames } else s2
  match s2.planOf? l with
  | none => s2
  | some p =>
    let pp := s2.portPlan l
    let old := at! s2.therm.applied l
    let s3 := thermalEvents l old s2.therm.level { s2 with therm := { s2.therm with applied := s2.therm.applied.set l s2.therm.level } }
    let settling := decide (0 < (at! s3.sensors l).settle)
    let (x1, shedMore) := slackStep p s3.reading (at! s3.sensors l)
    let x2 := shedStep (max (p.heatShed s3.therm.level) x1.shedSlack) { x1 with settle := x1.settle - 1 }
    let s4 := s3.setSensor l fun _ => x2
    let s4 := if shedMore then raise 291 l [] none s4 else s4
    match s4.skipCause pp.allot.items with
    | some cause =>
      let s5 := match due with
        | some k => planActive l k none s4
        | none => s4
      skipFrame l frame cause (lost.foldl (fun s k => raise 113 k [] none s) s5)
    | none =>
      let i := (s4.table.findIdx? (·.isNone)).getD 0
      let (s4, loaded) := takeCalLoad l (clipTakesEffect l frame s4)
      let c := (at! s4.sensors l).cal
      -- the calibration packet has not left: DESIGN CHOICE the frame is an ordinary one (log 62)
      let s4 := if c.state = 1 ∧ c.fixed = true ∧ c.frame = frame then cancelCal l s4 else s4
      let x := at! s4.sensors l
      let calframe := x.cal.state == 2 && x.cal.frame == frame
      let shed := s4.shedMask p x
      let mine := fun (g : GraphSlot) => g.srcKind == 0 && g.srcId == l
      let (s5, switched) := bankSwitches p mine s4
      let take := if calframe || s5.therm.level == 3 then 0 else takeMask p mine frame shed
      let page := { x.page with bank := s5.rend.map (·.bank) }
      let k := x.shelf.getD 0
      let t : Ticket := {
        frame := frame, planGen := (at! s5.shelves k).gen, pageGen := page.pageGen, time := s5.reading
        ports := pp.profile.mask, shelf := k, entry := i, settling := settling, calframe := calframe
        stale := x.stale, shedMask := shed, takeMask := take }
      let rows := pp.profile.frameRows
      let fronts := pp.profile.members.zipIdx.map fun (m, j) =>
        let q := (at! s5.ports m).part
        if q.frame == frame && q.opened then q.expRow else pp.profile.nextRow j 0
      let e : Entry := {
        ticket := t, src := .sensor l, order := x.tickets, page := page, copy := x.copy, raw := { init := x.ladderInit }
        defBanks := pp.profile.members.map fun m => (at! s5.ports m).defBank
        shadeBanks := pp.profile.members.map fun m => (at! s5.ports m).shadeBank
        items := s5.grants p pp.allot.items true take, rowCount := rows, fronts := fronts
        stats := earlyStats s5 pp.profile.members frame
        clip := s5.liveClip, calRatio := calframe && x.cal.ratio, calDiscard := calframe && x.cal.discard
        groups := groupsOf pp.profile rows, pendingDest := (List.range 16).filter (bit take) }
      let s6 := { s5 with table := s5.table.set i (some e) }
      let s7 := s6.setSensor l fun y => { y with
        upcoming := some (frame, some i), tickets := y.tickets + 1, ladderInit := none, inForce := y.estimates pp y.copy
        cal := if calframe then { y.cal with state := 0, fixed := false, discard := false, last := some s6.now } else y.cal }
      let s7 := codeInputs p mine t true (fun k => page.qpDelta.getD k 0) s7
      let s8 := match due with
        | some k => planActive l k (some t) s7
        | none => s7
      let s8 := if x.ladderInit.isSome then raise 101 l [] (some t) s8 else s8
      let s8 := lost.foldl (fun s k => raise 113 k [] (some t) s) s8
      let s9 := switched.foldl (fun s k => raiseFor 106 k [] i s) s8
      let s10 := if loaded then holdoverEvents i s3.holdTable (raiseFor 89 l [] i s9) else s9
      let s11 := staleEvents l i (shedEvents p mine i shed s10)
      -- a member that opened the frame before its ticket may have overflowed already
      match ((pp.profile.members.map fun m => (at! s11.ports m).part).filter fun q => q.frame == frame && q.opened).filterMap (·.truncAt) with
      | [] => s11
      | t :: r => overflow i (r.foldl min t) s11

/-! ### Retirement (R52, R33) -/

/-- ENTRY_RETIRE (R52): the entry is free, the final ticket leaves, and a Draining Shelf that no ticket names any more is
Loaded. -/
def retireEntry (e : Nat) (s : State) : State :=
  match s.entry? e with
  | none => s
  | some x =>
    if !x.retirable then s
    else
      let s1 := raise 65 x.lead [] (some x.ticket) { s with
        table := s.table.set e none, rend := s.rend.map fun r => { r with kept := r.kept.filter (·.1 != e) } }
      let k := x.ticket.shelf
      let named := s1.live'.any fun (_, y) => y.ticket.shelf == k
      let s2 := if named then s1 else { s1 with shelves := upd s1.shelves k fun y => if y.st == .draining then { y with st := .loaded } else y }
      if x.isSensor then stoppedSwitch x.lead s2 else s2

/-- ENTRY_RETIRE. -/
def execEntryRetire (e : Nat) (s : State) : Out := whenLive s (retireEntry e)

end Sys2Proof.Machine
end

