-- ==== Sys2Proof/Machine/BackChan.lean ====
section
/-! DEFINITION. The back channel of a port (03_sensor_links.md, R85 to R92), what leaves on it, and the EXPOSURE packets of
commits (R88, R130, R132, R136). -/

namespace Sys2Proof.Machine

open Sys2Proof

/-- The last symbol of STREAM start leaves: the port is started and the ticket of frame 0 is issued, but in line-scan mode
(R82, R135). -/
def streamStarted (l : Nat) (s : State) : State :=
  let s1 := s.setSensor l fun x => { x with started := true }
  if (s1.portPlan l).profile.timing = .lineScan then s1 else issueTicket l (at! s1.sensors l).nextFrame s1

/-- The next waiting command leaves when none awaits its REPLY (R87, R92). -/
def sendNext (p : Nat) (s : State) : State :=
  match ((at! s.ports p).bc.next).map (·.kind) with
  | some (BcKind.stream true) => streamStarted p (leaveNext p s)
  | _ => leaveNext p s

/-- A command is issued on the back channel of lead port `p` (R85, R89). -/
def issueBc (p : Nat) (c : BcCmd) (s : State) : State := sendNext p (queueBc p [c] s)

/-- An EXPOSURE command. -/
def BcCmd.isExposure (c : BcCmd) : Bool := match c.kind with
  | .exposure _ _ _ _ => true
  | _ => false

/-- INTEGRATION of an exposure in ticks (R88). -/
def integration (pp : PortPlan) (ticks : Nat) : Nat := min 0xFFFFFFFF (ticks * 256 / max 1 pp.profile.rowPeriod)

/-- FIRST_FRAME of a commit now (R46): once SENSOR.STOP waits for its vertical blanking, the next ticket is that of frame 0 after the
next SENSOR.START. -/
def State.firstFrame (s : State) (l : Nat) : Nat := if (at! s.sensors l).stopping.isSome then 0 else (at! s.sensors l).nextFrame

/-- EXPOSURE_FRAME of a commit now (R130, R136). -/
def State.exposureFrame (s : State) (l : Nat) : Nat :=
  let pp := s.portPlan l
  if pp.profile.timing = .lineScan then s.firstFrame l else wrap 32 (s.firstFrame l + pp.profile.latency)

/-- The EXPOSURE packet of a commit (R88, R130); in line-scan mode it waits for the ticket issue of FIRST_FRAME (R136). A
packet that has not left gives way to a later one. -/
def sendExposure (l : Nat) (s : State) : State :=
  let pp := s.portPlan l
  let pg := (at! s.sensors l).page
  if pp.profile.timing = .lineScan then s.setSensor l fun x => { x with scanExp := x.scanExp.filter (·.1 != 0) ++ [(0, s.firstFrame l)] }
  else
    let k := BcKind.exposure (integration pp pg.exposure) pg.sensorGain (s.exposureFrame l % 2 ^ 16) pg.pageGen
    let s1 := s.setPort l fun q => { q with bc := { q.bc with waiting := q.bc.waiting.filter fun c => !c.isExposure } }
    issueBc l { kind := k } s1

/-- PAGE_GEN after a commit: 0 is skipped (R44). -/
def nextPageGen (g : Nat) : Nat := if g = 0xFFFF then 1 else g + 1

/-- A commit (R44): staging page to committed page in one step, PAGE_GEN advanced; a changed EXPOSURE or SENSOR_GAIN sends
its packet, and `always` one that has not changed (R88: SENSOR.SET_EXPOSURE; R148). -/
def commitPage (l : Nat) (always : Bool) (f : Page → Page) (s : State) : State :=
  let old := (at! s.sensors l).page
  let st := f (at! s.sensors l).staging
  let new := { st with pageGen := nextPageGen old.pageGen }
  let s1 := s.setSensor l fun x => { x with staging := st, page := new }
  if always = true ∨ new.exposure ≠ old.exposure ∨ new.sensorGain ≠ old.sensorGain then sendExposure l s1 else s1

/-- The result of a commit: PAGE_GEN, FIRST_FRAME and, when EXPOSURE or SENSOR_GAIN changed, EXPOSURE_FRAME (R46). -/
def commitResult (l : Nat) (changed : Bool) (s : State) : Bytes :=
  le 4 (at! s.sensors l).page.pageGen ++ le 4 (s.firstFrame l) ++ le 4 (if changed then s.exposureFrame l else 0)

end Sys2Proof.Machine
end

