-- ==== Sys2Proof/Machine/Rows.lean ====
section
/-! DEFINITION. Frames as they arrive on the ports: opening and closing of a member's part, missing samples, intake, the
exposure echo, and line-scan rows (03_sensor_links.md R77 to R85, 04_raw_front_end.md R104 to R107, R129 to R136). -/

namespace Sys2Proof.Machine

open Sys2Proof

/-- Payload word `i`, most significant byte first (R72). -/
def payWord (bs : Bytes) (i : Nat) : Nat := (slice bs (4 * i) 4).foldl (fun a b => a * 256 + b.toNat) 0

/-- EVT.PORT.FRAME_PROTOCOL (Table 3-12). -/
def protoEvent (p frame cause value : Nat) (s : State) : State := raise (16 * p + 12) p [frame, cause, value] none s

/-- A frame-protocol error of R80: counted and reported. -/
def protoError (p cause value : Nat) (s : State) : State :=
  let s1 := s.setPort p fun q => { q with stats := { q.stats with protoErr := sat 32 (q.stats.protoErr + 1) } }
  protoEvent p (at! s1.ports p).part.frame cause value s1

/-! ### Complete rows and missing samples (R80, R107) -/

/-- A member's first incomplete row moves to `r` in the frame's entry, and groups become ready (R107, R108). -/
def advanceFront (l p r : Nat) (s : State) : State :=
  let frame := (at! s.ports p).part.frame
  match s.entryOf l frame with
  | none => s
  | some e =>
    let pp := (s.portPlan l).profile
    s.setEntry e fun x => ({ x with fronts := x.fronts.set (pp.memberIdx p) r }).refresh pp.h

/-- `n` samples are marked missing (R80): counted, and the ticket carries POISON. -/
def markMissing (l p n : Nat) (s : State) : State :=
  if n = 0 then s
  else
    let s1 := s.setPort p fun q => { q with stats := { q.stats with missing := sat 32 (q.stats.missing + n) } }
    match s1.entryOf l (at! s1.ports p).part.frame with
    | none => s1
    | some e => s1.setEntry e fun x => { x with
        ticket := { x.ticket with poison := true }, stats := { x.stats with missing := sat 32 (x.stats.missing + n) } }

/-- Change the row `r` of a frame in intake, adding it when it is not there yet. -/
def putRow (rows : List IRow) (frame r : Nat) (f : IRow → IRow) : List IRow :=
  if rows.any fun x => x.frame == frame && x.row == r then rows.map fun x => if x.frame == frame && x.row == r then f x else x
  else rows ++ [f { frame := frame, row := r }]

/-- Row `r` of member `p` gets `n` missing samples at its end (R80). -/
def addMissing (p r n : Nat) (s : State) : State :=
  s.setPort p fun q => { q with intake := putRow q.intake q.part.frame r fun x => { x with samples := x.samples ++ List.replicate n none } }

/-- The row now expected ends where it is: its remaining pixels are missing, and the next row of the member is expected. -/
def endRow (l p : Nat) (s : State) : State :=
  let pp := (s.portPlan l).profile
  let part := (at! s.ports p).part
  let n := (pp.width - part.expPix) * pp.gains
  let keep := !part.discarding && (match part.truncAt with
    | some t => decide (part.expRow < t)
    | none => true)
  let s1 := if keep then markMissing l p n (addMissing p part.expRow n s) else s
  let nr := pp.nextRow (pp.memberIdx p) (part.expRow + 1)
  advanceFront l p nr (s1.setPort p fun q => { q with part := { q.part with expRow := nr, expPix := 0 } })

/-- Rows before `r` that the member carries and has not delivered are missing (R80); `fuel` bounds the rows. -/
def missUpTo (l p r : Nat) (fuel : Nat) (s : State) : State :=
  match fuel with
  | 0 => s
  | n + 1 => if (at! s.ports p).part.expRow < r then missUpTo l p r n (endRow l p s) else s

/-! ### The exposure echo (R132) -/

/-- Signed difference modulo 2¹⁶: `a` is at or before `b`. -/
def atOrBefore16 (a b : Nat) : Bool := (b % 65536 + 65536 - a % 65536) % 65536 < 32768

/-- The exposure rules for the frame of entry `e`, once its echo is known or known absent (R132). -/
def compareEcho (l e : Nat) (echo : Option (Nat × Nat × Nat)) (s : State) : State :=
  match s.entry? e with
  | none => s
  | some x =>
    if (s.portPlan l).profile.timing = .lineScan then s.setEntry e fun y => { y with stats := { y.stats with echo := echo } }
    else
      let hist := (at! s.sensors l).expHist
      let expected := hist.find? fun h => atOrBefore16 h.2.2 x.ticket.frame
      let named := echo.bind fun c => hist.find? fun h => h.1 == c.1
      let gen := (named.map (·.2.1)).getD 0
      let hit := match echo, expected with
        | some c, some h => c.1 == h.1
        | _, _ => false
      let s1 := s.setEntry e fun y => { y with stats := { y.stats with echo := echo, expPageGen := gen, expMatch := hit } }
      match expected, echo with
      | none, _ => s1
      | some h, none => raiseFor 71 l [h.1, 0, h.2.1] e s1
      | some h, some c => if hit then s1 else raiseFor 70 l [h.1, c.1, h.2.1] e s1

/-- The lead member's echo is compared when its frame has a ticket. -/
def checkEcho (l : Nat) (s : State) : State :=
  let part := (at! s.ports l).part
  match s.entryOf l part.frame with
  | none => s
  | some e =>
    if part.compared then s
    else compareEcho l e part.echo (s.setPort l fun q => { q with part := { q.part with compared := true } })

/-! ### Opening and closing (R81, R82, R133) -/

/-- STREAM stop leaves at this start of vertical blanking (Table 15-10): the port stops, its pending switch is taken, and the
Drawer of SENSOR.STOP gets OK. -/
def streamStop (l : Nat) (s : State) : State :=
  let d := (at! s.sensors l).stopping
  let s1 := s.setSensor l fun x => { x with started := false, stopping := none, fresh := false, nextFrame := 0, upcoming := none }
  let s2 := stoppedSwitch l (issueBc l { kind := .stream false } s1)
  match d with
  | some d => if d < 255 then done d [] s2 else s2
  | none => s2

/-- The start of vertical blanking (R82): the ticket of the next frame, or the stop of the port. -/
def vblank (l : Nat) (s : State) : State :=
  let x := at! s.sensors l
  if !x.started then s
  else if x.stopping.isSome then streamStop l s
  else if (s.portPlan l).profile.timing = .lineScan then s
  else issueTicket l x.nextFrame s

/-- The frame whose ticket, or skip, was last taken. -/
def State.ticketed (s : State) (l : Nat) : Option Nat := (at! s.sensors l).upcoming.map (·.1)

/-- A member closes its part (R81): rows still expected are missing; the last member's closing starts vertical blanking (R82). -/
def finishPart (l p : Nat) (s : State) : State :=
  let pp := (s.portPlan l).profile
  let part := (at! s.ports p).part
  if part.closed then s
  else
    let s1 := if pp.timing = .lineScan then s else missUpTo l p pp.rows (pp.rows + 1) s
    let s2 := if p = l then checkEcho l s1 else s1
    let s3 := closePart l p s2
    if s3.ticketed l = some part.frame ∧ s3.allClosed l part.frame = true then vblank l s3 else s3

/-- A port goes Down (R93, R94). A bond whose other members have all delivered the frame's FRAME_END then starts vertical blanking: no
later FRAME_END comes (R82). -/
def portDown (p : Nat) (s : State) : State :=
  let s1 := takeDown p s
  match s.leadOf p with
  | none => s1
  | some l => match s1.ticketed l with
    | none => s1
    | some n =>
      let ended := ((s1.portPlan l).profile.members.filter (· != p)).any fun m => (at! s1.ports m).runs && closedFrom n (at! s1.ports m).part.lastClosed
      if (at! s.ports p).st ≠ .down ∧ (at! s1.sensors l).started = true ∧ ended = true ∧ s1.allClosed l n = true then
        vblank l (match s1.entryOf l n with
          | some e => endFrame e s1
          | none => s1)
      else s1

/-- Number of the frame that member `p` opens in the normal sequence (R82): the ticketed one, or the one after the last it closed. -/
def nextNumber (l p : Nat) (s : State) : Nat :=
  let n := (s.ticketed l).getD (at! s.sensors l).nextFrame
  match (at! s.ports p).part.lastClosed with
  | some c => if serialLe n c then wrap 32 (c + 1) else n
  | none => n

/-- The number and SFC of the last frame opened (R133): a frame that opens without FRAME_START has the SFC that its number implies. -/
def lastOpened (n : Nat) (sfc : Option Nat) (old : Option (Nat × Nat)) : Option (Nat × Nat) :=
  match sfc, old with
  | some c, some o => if serialLe o.1 n then some (n, c) else old
  | some c, none => some (n, c)
  | none, some o => if serialLe n o.1 then old else some (n, wrap 16 (o.2 + (n + 2 ^ 32 - o.1 % 2 ^ 32) % 2 ^ 32))
  | none, none => none

/-- A member's part opens as frame `n` (R81). -/
def openPart (l p n : Nat) (sfc : Option Nat) (echo : Option (Nat × Nat × Nat)) (s : State) : State :=
  let pp := (s.portPlan l).profile
  let skipped := if pp.timing = .lineScan then (s.entryOf l n).isNone else (at! s.sensors l).upcoming == some (n, none)
  let cut := match s.entryOf l n with
    | some e => match s.entry? e with
      | some x => if x.ticket.trunc then some x.rowCount else none
      | none => none
    | none => none
  let first := pp.nextRow (pp.memberIdx p) 0
  let s1 := s.setPort p fun q => { q with part := { q.part with
    frame := n, opened := true, closed := false, expRow := first, expPix := 0, lastRow := none, sfc := sfc, discarding := skipped, truncAt := cut
    echo := echo, compared := false } }
  s1.setSensor l fun x => { x with lastOpen := lastOpened n sfc x.lastOpen }

/-- The number that the first frame after a loss takes (R133). -/
def resumeNumber (l p sfc : Nat) (s : State) : Nat :=
  let pp := (s.portPlan l).profile
  let peer := pp.members.find? fun m => m != p && (let q := at! s.ports m; q.part.opened && q.part.sfc == some sfc)
  match peer with
  | some m => (at! s.ports m).part.frame
  | none => match (at! s.sensors l).lastOpen with
    | some (f, c) =>
      let d := (sfc + 65536 - c % 65536) % 65536
      wrap 32 (f + (if d = 0 then 1 else d))
    | none => (s.ticketed l).getD (at! s.sensors l).nextFrame

/-- After a loss, the last member's FRAME_START starts vertical blanking (R82): the ticket already taken serves the frame that
has its number; any other that no row has reached ends without rows, and this frame gets its own. While a member still runs through
the ticketed frame, its FRAME_END starts the blanking. -/
def resumeTicket (l n : Nat) (s : State) : State :=
  let members := (s.portPlan l).profile.members
  if members.any fun m => (at! s.ports m).waitStart && (at! s.ports m).st == .up then s
  else match (at! s.sensors l).upcoming with
  | some (k, e) =>
    let past := fun (m : Nat) => let q := at! s.ports m
      (q.part.opened && q.part.frame == n) || closedFrom k q.part.lastClosed || !q.runs
    if k = n ∨ members.all past = false then s
    else
      let s1 := match e with
        | some i => (match s.entry? i with
          | some x => if x.ticket.frame = k ∧ x.isSensor = true ∧ x.closed = false then closeEntry i (truncateAt i 0 s) else s
          | none => s)
        | none => s
      if (at! s1.sensors l).stopping.isSome then streamStop l s1 else issueTicket l n s1
  | none => if (at! s.sensors l).stopping.isSome then streamStop l s else issueTicket l n s

/-- Another member of the bond has given frame `n` another SFC (R84, R85). -/
def sfcDiffers (l p n sfc : Nat) (s : State) : Bool :=
  ((s.portPlan l).profile.members.filter (· != p)).any fun m =>
    let x := (at! s.ports m).part
    (x.frame == n && x.sfc.any (· != sfc)) || x.past.any fun (f, c) => f == n && c != sfc

/-- A member's FRAME_START of frame `n` arrives (R85): the bond's first one is timed, and a later one that comes more than 20 µs after
it raises EVT.PORT.BOND_SKEW. -/
def bondStart (l p n : Nat) (s : State) : State :=
  if (s.portPlan l).profile.members.length ≤ 1 then s
  else match (at! s.sensors l).bondStarts.find? (·.1 == n) with
    | some (_, t) => if t + us 20 < s.now then raise (16 * p + 11) p [] none s else s
    | none => s.setSensor l fun x => { x with bondStarts := ((n, s.now) :: x.bondStarts).take 4 }

/-- A FRAME_START is accepted (R80 to R85, R132, R133). In line-scan mode it comes once after STREAM start and opens no frame (R134). -/
def frameStart (l p : Nat) (pay : Bytes) (s : State) : State :=
  if pay.length ≠ 16 then protoError p 4 1 s
  else if (s.portPlan l).profile.timing = .lineScan then s.setPort p fun x => { x with waitStart := false }
  else
    let pp := (s.portPlan l).profile
    let sfc := payWord pay 0 / 65536
    let echo := (payWord pay 0 / 256 % 256, payWord pay 1, payWord pay 2 / 65536)
    let rows := payWord pay 3 / 16384
    let q := at! s.ports p
    let (n, s1) := if q.waitStart then
        let n := resumeNumber l p sfc s
        (n, s.setPort p fun x => { x with waitStart := false })
      else
        let s0 := finishPart l p s
        (nextNumber l p s0, s0)
    let s2 := openPart l p n (some sfc) (some echo) s1
    let s3 := if q.waitStart then resumeTicket l n s2 else s2
    let s4 := if p = l then checkEcho l s3 else s3
    let s5 := if rows != pp.rows then protoEvent p n 5 rows s4 else s4
    bondStart l p n (if sfcDiffers l p n sfc s5 then protoEvent p n 6 sfc s5 else s5)

/-- A FRAME_END is accepted (R81, R82). Its SFC is compared where it tells something new (R85): FRAME_START was lost, or had another. -/
def frameEnd (l p : Nat) (pay : Bytes) (s : State) : State :=
  if pay.length ≠ 4 then protoError p 4 3 s
  else
    let q := at! s.ports p
    if q.waitStart ∨ (s.portPlan l).profile.timing = .lineScan then s
    else
      let sfc := payWord pay 0 / 65536
      let s1 := if q.part.closed then openPart l p (nextNumber l p s) none none s else s
      let part := (at! s1.ports p).part
      let s2 := if part.sfc ≠ some sfc ∧ sfcDiffers l p part.frame sfc s1 = true then protoEvent p part.frame 6 sfc s1 else s1
      let s3 := if part.sfc.isNone then
          (s2.setPort p fun x => { x with part := { x.part with sfc := some sfc } }).setSensor l fun x => { x with
            lastOpen := lastOpened part.frame (some sfc) x.lastOpen }
        else s2
      finishPart l p s3

/-! ### Rows (R77, R80, R104, R105) -/

/-- `n` samples of `w` bits, most significant bit first (R77). -/
def unpackSamples (w n : Nat) (bs : Bytes) : List Nat :=
  let v := bs.foldl (fun a b => a * 256 + b.toNat) 0
  let total := 8 * bs.length
  (List.range n).map fun i => v / 2 ^ (total - w * (i + 1)) % 2 ^ w

/-- Bits that a port's intake buffer holds (R104). -/
def intakeBits (w : Nat) (rows : List IRow) : Nat :=
  w * sumNat (rows.map fun r => (r.samples.filter Option.isSome).length)

/-- Samples of one ROW_DATA packet are accepted into intake, or the frame overflows at this row (R105). -/
def acceptSamples (l p row first count : Nat) (data : Bytes) (s : State) : State :=
  let pp := (s.portPlan l).profile
  let part := (at! s.ports p).part
  let gone := part.discarding || (match part.truncAt with
    | some t => decide (t ≤ row)
    | none => false)
  let n := count * pp.gains
  let s0 := if gone then s else
    let skip := (first - part.expPix) * pp.gains
    if skip = 0 then s else markMissing l p skip (addMissing p row skip s)
  let full := decide (16777216 < intakeBits pp.sampleBits (at! s0.ports p).intake + n * pp.sampleBits)
  let s1 := if gone then s0
    else if full then
      match s0.entryOf l part.frame with
      | some e => overflow e row s0
      | none => s0.setPort p fun q => { q with part := { q.part with truncAt := some row } }
    else s0.setPort p fun q => { q with intake := putRow q.intake part.frame row fun x => { x with
        samples := x.samples ++ (unpackSamples pp.sampleBits n data).map some
        complete := first + count == pp.width
        begun := if x.begun = 0 then s0.reading else x.begun
        time := if first + count = pp.width then s0.reading else x.time } }
  let stored := !gone && !full
  let s2 := if stored then
      match s1.entryOf l part.frame with
      | some e => s1.setEntry e fun x => { x with stats := { x.stats with
          row0Time := if row = 0 ∧ x.stats.row0Time = 0 then s1.reading else x.stats.row0Time
          lastTime := if first + count = pp.width ∧ x.stats.lastTimeRow ≤ row then s1.reading else x.stats.lastTime
          lastTimeRow := if first + count = pp.width then max x.stats.lastTimeRow row else x.stats.lastTimeRow } }
      | none => s1
    else s1
  if first + count = pp.width then
    let nr := if pp.timing = .lineScan then row + 1 else pp.nextRow (pp.memberIdx p) (row + 1)
    let s3 := s2.setPort p fun q => { q with part := { q.part with expRow := nr, expPix := 0, lastRow := some row } }
    if stored then advanceFront l p nr s3 else s3
  else s2.setPort p fun q => { q with part := { q.part with expRow := row, expPix := first + count, lastRow := some row } }

/-- A ROW_DATA packet of a frame sensor whose shape is right (R80, R81). -/
def frameRow (l p row first count : Nat) (data : Bytes) (s : State) : State :=
  let pp := (s.portPlan l).profile
  let part0 := (at! s.ports p).part
  let back := match part0.lastRow with
    | some r => !part0.closed && decide (row < r)
    | none => false
  let s1 := if back then finishPart l p s else s
  let s2 := if (at! s1.ports p).part.closed then openPart l p (nextNumber l p s1) none none s1 else s1
  let s2 := if (at! s2.ports p).part.echo.isNone ∧ p = l then checkEcho l s2 else s2
  let part := (at! s2.ports p).part
  if part.lastRow = some row ∧ (part.expRow ≠ row ∨ first < part.expPix) then protoError p 1 row s2
  else if row < part.expRow then protoError p 1 row s2
  else acceptSamples l p row first count data (missUpTo l p row (pp.rows + 1) s2)

/-! ### Line-scan rows (R134 to R136) -/

/-- The scan frame in progress, if there is one, closes before its row `n` (R135): rows of it that have not come are missing (R80). -/
def closeScan (l n : Nat) (s : State) : State :=
  let pp := (s.portPlan l).profile
  if (at! s.ports l).part.opened then
    let n := min n pp.maxRows
    let s1 := missUpTo l l n (pp.maxRows + 1) s
    let frame := (at! s1.ports l).part.frame
    let s2 := s1.setPort l fun q => { q with part := { q.part with closed := true, opened := false, lastClosed := some frame } }
    match s2.entryOf l frame with
    | none => s2
    | some e =>
      closeEntry e (s2.setEntry e fun x =>
        let n := min n x.rowCount
        { x with rowCount := n, groups := groupsOf pp n |>.map fun g =>
            (x.groups.find? fun k => k.index == g.index && k.st != .waiting).getD g })
  else s

/-- The scan frame in progress has reached MAX_ROWS: it closes there with TRUNC and LAST_ROW, EVT.FE.SCAN_LONG tells it, and rows are
discarded until the next opening (R135). -/
def scanLong (l : Nat) (s : State) : State :=
  let n := (s.portPlan l).profile.maxRows
  match s.entryOf l (at! s.ports l).part.frame with
  | some e => raiseFor 76 l [] e (closeScan l n (truncateAt e n s))
  | none => closeScan l n s

/-- The frames whose PERF_DELAY has passed open with sensor row `row`, one after the other (R135): each closes the one before it at the
row before. -/
def scanOpen (l row : Nat) (s : State) : State :=
  let x := at! s.sensors l
  let due := x.scanNext.takeWhile fun (t, _) => decide (t ≤ s.reading)
  due.foldl (fun s (_, n) =>
    let at' := match (at! s.sensors l).scanBase with
      | some base => (row + 2 ^ 18 - base) % 2 ^ 18
      | none => 0
    let s1 := if (s.portPlan l).profile.maxRows ≤ at' ∧ (at! s.ports l).part.opened = true then scanLong l s else closeScan l at' s
    (openPart l l n none none s1).setSensor l fun y => { y with scanBase := some row })
    (s.setSensor l fun y => { y with scanNext := y.scanNext.dropWhile fun (t, _) => decide (t ≤ s.reading) })

/-- The first frame row after the REPLY to an exposure setting (R136). -/
def scanExposure (l frame r : Nat) (s : State) : State :=
  match (at! s.sensors l).scanExp.find? fun (k, f) => k == 2 && serialLe f frame, s.entryOf l frame with
  | some w, some e => (s.setEntry e fun y => { y with stats := { y.stats with expRow := r, expMatch := r == 0 } }).setSensor l
      fun y => { y with scanExp := y.scanExp.erase w }
  | _, _ => s

/-- A ROW_DATA packet in line-scan mode: the opening of the frame whose time has come, or the next row (R134, R135). -/
def scanRow (l row first count : Nat) (data : Bytes) (s : State) : State :=
  let max' := (s.portPlan l).profile.maxRows
  let s1 := if (at! s.ports l).part.lastRow ≠ some row then scanOpen l row s else s
  let part := (at! s1.ports l).part
  let seen := fun (s : State) => s.setPort l fun q => { q with part := { q.part with lastRow := some row } }
  let r := (row + 2 ^ 18 - (at! s1.sensors l).scanBase.getD row) % 2 ^ 18
  if !part.opened then seen s1
  else if max' ≤ r then seen (scanLong l s1)
  else if r < part.expRow ∨ (r = part.expRow ∧ first < part.expPix) then protoError l 1 row s1
  else
    let s2 := acceptSamples l l r first count data (scanExposure l part.frame r (missUpTo l l r (max' + 1) s1))
    seen (if max' ≤ (at! s2.ports l).part.expRow then scanLong l s2 else s2)

/-- A ROW_DATA packet is accepted (R77, R80). One beyond the profile's rows is not (R81): R80 does not list it among the
frame-protocol errors, so it is dropped and counts as none: DESIGN CHOICE (log 59). -/
def rowData (l p : Nat) (pay : Bytes) (s : State) : State :=
  let pp := (s.portPlan l).profile
  let row := payWord pay 0 / 16384
  let first := payWord pay 1 / 65536
  let count := payWord pay 1 % 65536
  if (at! s.ports p).waitStart then s
  else if count = 0 ∨ pp.width < first + count ∨ pay.length ≠ 8 + ceilDiv (count * pp.sampleBits * pp.gains) 32 * 4 then protoError p 3 row s
  else if pp.timing = .lineScan then scanRow l row first count (pay.drop 8) s
  else if pp.rows ≤ row then s
  else if pp.carrier row ≠ pp.memberIdx p then protoError p 2 row s
  else frameRow l p row first count (pay.drop 8) s

/-- EMBEDDED payload: the first 4 KiB of a frame are kept (R78, R129). -/
def embedded (l p : Nat) (pay : Bytes) (s : State) : State :=
  let q := at! s.ports p
  if q.waitStart then s
  else match s.entryOf l q.part.frame with
  | none => s
  | some e =>
    let old := ((s.entry? e).getD default).stats
    let new := (old.embedded ++ pay).take 4096
    let cut := decide (4096 < old.embedded.length + pay.length)
    let s1 := s.setEntry e fun x => { x with stats := { x.stats with embedded := new, embCut := old.embCut || cut } }
    if cut && !old.embCut then raiseFor 77 l [] e s1 else s1

/-- PERFORATION_EDGE (R135, R136): an accepted edge issues the ticket; the frame opens with the first row after PERF_DELAY. A
commit's EXPOSURE packet leaves at the ticket issue of its FIRST_FRAME. -/
def doPerforationEdge (gpio : Nat) (rising : Bool) (s : State) : State :=
  (List.range 4).foldl (fun s l =>
    let pp := (s.portPlan l).profile
    let x := at! s.sensors l
    if !x.started || pp.timing != .lineScan || pp.perfGpio != gpio || pp.perfRising != rising then s
    else if (x.lastEdge.map fun t => decide (s.reading < t + pp.perfMin)) = some true then
      raise 75 l [] (s.lastTicket l) (s.setSensor l fun y => { y with edgesIgnored := sat 32 (y.edgesIgnored + 1) })
    else
      let n := x.nextFrame
      let s1 := s.setSensor l fun y => { y with lastEdge := some s.reading, scanNext := y.scanNext ++ [(s.reading + pp.perfDelay, n)] }
      let s2 := issueTicket l n s1
      if (at! s2.sensors l).scanExp.contains (0, n) then
        let pg := (at! s2.sensors l).page
        issueBc l { kind := .exposure (integration (s2.portPlan l) pg.exposure) pg.sensorGain 0 pg.pageGen }
          (s2.setSensor l fun y => { y with scanExp := y.scanExp.map fun w => if w == (0, n) then (1, n) else w })
      else s2) s

/-- PERFORATION_EDGE. -/
def execPerforationEdge (gpio : Nat) (rising : Bool) (s : State) : Out := whenLive s (doPerforationEdge gpio rising)

end Sys2Proof.Machine
end

