-- ==== Sys2Proof/Machine/Tokens.lean ====
section
/-! DEFINITION. Tokens and channels: the channel word with its residues, the tag that travels with it, and the tokens of a row group
(01_architecture.md R12 to R16). -/

namespace Sys2Proof.Machine

open Sys2Proof

/-- One token on a channel: four lanes of 18 bits, the residues that the producing stage wrote with them (R13, R14), and the tag
(Table 1-3), KIND 0 data, 1 group header, 2 group end. -/
structure Token where
  lanes : List Nat := [0, 0, 0, 0]
  residues : List Nat := [0, 0, 0, 0]
  port : Nat := 0
  kind : Nat := 0
  poison : Bool := false
  gen : Nat := 0
  deriving DecidableEq, Repr, Inhabited

/-- A token as a sound stage produces it: each residue is that of its lane (R14). -/
def Token.make (port gen kind : Nat) (poison : Bool) (lanes : List Nat) : Token :=
  { lanes := lanes, residues := lanes.map fun v => v % 2 ^ 18 % 7, port := port, kind := kind, poison := poison, gen := gen }

/-- The check of a consuming stage: every residue is that of its lane, so 0b111 never passes (R14). -/
def Token.sound (t : Token) : Bool := t.lanes.map (fun v => v % 2 ^ 18 % 7) == t.residues

/-- The channel word in 11 bytes (R13, Table 1-2). -/
def Token.word (t : Token) : Bytes :=
  le 11 (sumNat ((List.range 4).map fun i => t.lanes.getD i 0 % 2 ^ 18 * 2 ^ (18 * i) + t.residues.getD i 0 % 8 * 2 ^ (72 + 3 * i)))

/-- The 8-bit tag (Table 1-3). -/
def Token.tag (t : Token) : Nat := t.port % 4 * 64 + t.kind % 4 * 16 + b2n t.poison * 8 + t.gen % 8

/-- A token whose residues mismatch, by free choice `n`: which lanes are wrong, what they hold and what their residues hold is not
stated, but that they differ (R14, R485, log 61). -/
def Token.upset (n : Nat) (t : Token) : Token :=
  let f := Config.freeBits 88 n
  let hit := fun (i : Nat) => bit (max 1 (f % 16)) i
  let lane := fun (i : Nat) => bits f (4 + 21 * i) 18
  { t with
    lanes := (List.range 4).map fun i => if hit i then lane i else t.lanes.getD i 0
    residues := (List.range 4).map fun i => if hit i then (lane i % 7 + 1 + bits f (22 + 21 * i) 3 % 7) % 8 else t.residues.getD i 0 }

/-- PORT of a frame's tokens (Table 1-3): the lead port; for a decode context or a review ring the low bits of SRC_ID of the graph's
source entry, which has no other port (log 61). -/
def SourceId.port (x : SourceId) : Nat := match x with
  | .sensor l => l % 4
  | .decode _ c => c % 4
  | .review r => r % 4

/-- The lanes of a group-header token (Table 1-4). -/
def headerLanes (frame entry : Nat) (g : RowGroup) : List Nat :=
  [frame % 2 ^ 18, g.firstRow % 2 ^ 18, entry % 16 * 2 ^ 14 + g.rows % 64 * 2 ^ 8 + b2n g.last * 2 ^ 7 + b2n g.trunc * 2 ^ 6, 0]

/-- The tokens of a row group as its slice emits them: the header, the data tokens and the end token, whose s0 is the number of complete
rows (R16, R108), with those that a residue mismatch has upset (R485). -/
def groupTokens (e : Entry) (g : RowGroup) (data : List (Bool × List Nat)) : List Token :=
  let port := SourceId.port e.src
  let l := Token.make port g.gen 1 false (headerLanes e.ticket.frame e.ticket.entry g) ::
    data.map (fun (bad, v) => Token.make port g.gen 0 bad v) ++ [Token.make port g.gen 2 false [g.rows, 0, 0, 0]]
  l.zipIdx.map fun (t, i) => match g.upset.find? (·.1 == i) with
    | some (_, n) => t.upset n
    | none => t

end Sys2Proof.Machine
end

