-- ==== Sys2Proof/Machine/FrontEnd.lean ====
section
/-! DEFINITION. The front end: the slice router, the stage chain, statistics, calibration sums, and the commands that load its
tables (04_raw_front_end.md R104 to R129, 05_calibration.md R140 to R143). -/

namespace Sys2Proof.Machine

open Sys2Proof

/-! ### Deadlines and the slice router (R57, R108 to R112) -/

/-- The deadline of row group `g` of a frame for stage class `c`, moved by the steps applied since the ticket (R57, R415). -/
def Entry.deadline (e : Entry) (dl : Deadlines) (c g : Nat) : Nat :=
  (((e.ticket.time + dl.offsets.getD c 0 + g * dl.pg / 256 : Nat) : Int) + e.shift).toNat % 2 ^ 48

/-- How far a 48-bit deadline lies from a reading, as a number that grows with the deadline (R402). -/
def nearness (v t : Nat) : Nat := (v % 2 ^ 48 + 2 ^ 48 + 2 ^ 47 - t % 2 ^ 48) % 2 ^ 48

/-- A 48-bit deadline has passed (R402). -/
def late48 (v t : Nat) : Bool := v % 2 ^ 48 != t % 2 ^ 48 && passed48 v t

/-- The least element of a list by a key. -/
def leastBy {α : Type} (key : α → List Nat) : List α → Option α
  | [] => none
  | a :: r => match leastBy key r with
    | none => some a
    | some b => if (key b) < (key a) then some b else some a

/-- The physical unit that works at a router position (R486). -/
def UnitMap.at? (u : UnitMap) (kind pos : Nat) : Option UnitRec :=
  u.units.find? fun x => x.kind == kind && x.pos == some pos && (x.st == .active || x.st == .faulty)

/-- The unit at a position that the router deals to: an active one, or a faulty one while policy 6 is held (R489, R493). -/
def State.dealUnit (s : State) (kind pos : Nat) : Option UnitRec :=
  (s.units.at? kind pos).bind fun u => if u.st == .active || s.holds.getD 2 false then some u else none

/-- The next group of a frame to deal, when it is ready (R111). -/
def nextGroup (gs : List RowGroup) : Option RowGroup :=
  (gs.find? fun g => g.st == .waiting || g.st == .ready).bind fun g => if g.st == .ready then some g else none

/-- Sensor rows that a slice reads for a group: its own, and H rows each side (R108). -/
def groupInput (s : State) (members : List Nat) (frame lo hi : Nat) : List (Nat × List (Option Nat)) :=
  let rows := members.flatMap fun m => (at! s.ports m).intake.filter fun r => r.frame == frame && decide (lo ≤ r.row) && decide (r.row < hi)
  (List.range (hi - lo)).filterMap fun i => (rows.find? fun r => r.row == lo + i).map fun r => (r.row, r.samples)

/-- Rows before `lo` of a frame leave intake: no group reads them any more (R104). -/
def releaseBelow (members : List Nat) (frame lo : Nat) (s : State) : State :=
  members.foldl (fun s p => s.setPort p fun x => { x with intake := x.intake.filter fun r => r.frame != frame || decide (lo ≤ r.row) }) s

/-- The ready group with the nearest front-end deadline, then the lower port, then the lower first row (R109). -/
def pickGroup (s : State) : Option (Nat × Entry × RowGroup) :=
  let l := s.live'.filterMap fun (i, e) => if e.isSensor then (nextGroup e.groups).map fun g => (i, e, g) else none
  leastBy (fun (_, e, g) => [nearness (e.deadline (s.entryPort e).deadlines 0 g.index) s.reading, e.lead, g.firstRow]) l

/-- GROUP_DEAL (R108, R109, R112): the router deals a ready group to the free slice at a position. -/
def doGroupDeal (pos : Nat) (s : State) : State :=
  match s.dealUnit 0 pos, s.fePos.getD pos (some default), pickGroup s with
  | some u, none, some (i, e, g) =>
    let pp := s.entryPort e
    let h := pp.profile.h
    let late := late48 (e.deadline pp.deadlines 0 g.index) s.reading
    let lo := g.firstRow - h
    let hi := min (g.firstRow + g.rows + h) e.rowCount
    let input := groupInput s pp.profile.members e.ticket.frame lo hi
    let s1 := s.setEntry i fun x => { x with
      groups := x.groups.map fun k => if k.index == g.index then { k with st := .dealt, pos := pos, gen := s.units.gen 0 pos, late := late, input := input } else k
      stats := { x.stats with feLate := if late then sat 16 (x.stats.feLate + 1) else x.stats.feLate }
      missRaised := x.missRaised || late }
    let s2 := { s1 with fePos := s1.fePos.set pos (some { entry := i, group := g.index, unit := u.number }) }
    let keep := if g.last then e.rowCount else g.firstRow + g.rows - h
    let s3 := releaseBelow pp.profile.members e.ticket.frame keep s2
    if late && !e.missRaised then raiseFor 69 e.lead [] i s3 else s3
  | _, _, _ => s

/-! ### Stage chain: samples and their neighbours (R110, R114, R115) -/

/-- What a slice works on: the port's section, the rows it reads, the rows the frame has, and the estimates and tables that the
ticket names. Tables are per bond member. -/
structure SliceIn where
  pp : PortPlan := default
  rows : List (Nat × List (Option Nat)) := []
  height : Nat := 0
  est : Estimates := default
  defects : List (List (BitVec 64)) := []
  shade : List (List Nat) := []
  deriving Inhabited

/-- A sample as received, 14 bits wide; none when it is missing (R80, Table 4-1). -/
def SliceIn.got (f : SliceIn) (k r c : Nat) : Option Nat :=
  let p := f.pp.profile
  match f.rows.find? (·.1 == r) with
  | some (_, l) => (l.getD (c * p.gains + k) none).map fun v => if p.sampleBits = 12 then v * 4 else v
  | none => none

/-- The token that carries a pixel before the merge holds a missing sample, and is poisoned (R80, R110). -/
def SliceIn.gap (f : SliceIn) (r c : Nat) : Bool :=
  let g := f.pp.profile.gains
  let n := if g = 2 then 2 else 4
  (List.range n).any fun i => (List.range g).any fun k => (f.got k r (c / n * n + i)).isNone

/-- A sample that a stage may use. -/
def SliceIn.sample (f : SliceIn) (k r c : Nat) : Option Nat := if f.gap r c then none else f.got k r c

/-- The coordinate `h` below `x`, mirrored at 0 (R114). -/
def mirrorLo (x h limit : Nat) : Option Nat := if h ≤ x then some (x - h) else if x + h < limit then some (x + h) else none

/-- The coordinate `h` above `x`, mirrored at the limit (R114). -/
def mirrorHi (x h limit : Nat) : Option Nat := if x + h < limit then some (x + h) else if h ≤ x then some (x - h) else none

/-! ### Defect correction (R115 to R118) -/

/-- Fields of a defect entry (Table 4-2). -/
def defField (e : BitVec 64) (lo n : Nat) : Nat := bits e.toNat lo n

/-- A defect entry covers a sample. -/
def defCovers (e : BitVec 64) (k r c : Nat) : Bool :=
  let col := defField e 0 16
  let row := defField e 16 18
  let run := defField e 40 16
  (defField e 34 2 == 0 || defField e 34 2 == k + 1) &&
    (match defField e 38 2 with
      | 0 => r == row && c == col
      | 1 => c == col && within r row (row + run)
      | _ => r == row && within c col (col + run))

/-- The entry that covers a sample, from the table of the member that carries its row. -/
def SliceIn.defect (f : SliceIn) (k r c : Nat) : Option (BitVec 64) :=
  (f.defects.getD (f.pp.profile.carrier r) []).find? (defCovers · k r c)

/-- A neighbour that static correction may use: unpoisoned, and covered by no entry (R114, R117). -/
def SliceIn.usable (f : SliceIn) (k r c : Nat) : Option Nat := if (f.defect k r c).isSome then none else f.sample k r c

/-- The horizontal and the vertical same-plane pairs of a sample (R114, R117). -/
def SliceIn.hPair (f : SliceIn) (k r c : Nat) : Option (Nat × Nat) := do
  let h := f.pp.profile.h
  let a ← f.usable k r (← mirrorLo c h f.pp.profile.width)
  let b ← f.usable k r (← mirrorHi c h f.pp.profile.width)
  return (a, b)
def SliceIn.vPair (f : SliceIn) (k r c : Nat) : Option (Nat × Nat) := do
  let h := f.pp.profile.h
  let a ← f.usable k (← mirrorLo r h f.height) c
  let b ← f.usable k (← mirrorHi r h f.height) c
  return (a, b)

/-- Distance of two naturals. -/
def dist (a b : Nat) : Nat := a - b + (b - a)

/-- The directional choice takes the vertical pair: both are available and the vertical difference is smaller (R117). -/
def pairVertical (h v : Option (Nat × Nat)) : Bool := match h, v with
  | some a, some b => decide (dist b.1 b.2 < dist a.1 a.2)
  | none, some _ => true
  | _, none => false

/-- A sample after static correction, with 0 untouched, 1 changed or marked, 2 covered and not fixed (R117). -/
def SliceIn.static (f : SliceIn) (k r c : Nat) : Option (Nat × Nat) :=
  match f.sample k r c with
  | none => none
  | some x =>
    match f.defect k r c with
    | none => some (x, 0)
    | some e =>
      let fix := defField e 36 2
      if fix = 3 then some (x, 1)
      else
        let hp := f.hPair k r c
        let vp := f.vPair k r c
        let vertical := if fix = 2 then true else if fix = 1 then false
          else match defField e 38 2 with
            | 1 => false
            | 2 => true
            | _ => pairVertical hp vp
        let pair := if vertical then vp.or hp else hp.or vp
        match pair with
        | some (a, b) => some ((a + b + 1) / 2, 1)
        | none => some (x, 2)

/-- A list of naturals in rising order. -/
def sortNats (l : List Nat) : List Nat := (sortInts (l.map fun (n : Nat) => (n : Int))).map Int.toNat

/-- The eight nearest same-plane neighbours after static correction; none when one is not usable (R114, R118). -/
def SliceIn.ring (f : SliceIn) (k r c : Nat) : Option (List Nat) := do
  let h := f.pp.profile.h
  let w := f.pp.profile.width
  let rl ← mirrorLo r h f.height
  let rh ← mirrorHi r h f.height
  let cl ← mirrorLo c h w
  let ch ← mirrorHi c h w
  [(rl, cl), (rl, c), (rl, ch), (r, cl), (r, ch), (rh, cl), (rh, c), (rh, ch)].mapM fun (y, x) => (f.static k y x).map (·.1)

/-- A sample after dynamic correction, and whether it was replaced (R118). -/
def SliceIn.dynamic (f : SliceIn) (k r c : Nat) : Option (Nat × Bool) :=
  match f.static k r c with
  | none => none
  | some (x, code) =>
    let fe := f.pp.frontEnd
    if fe.dynEnable = false ∨ code ≠ 0 ∨ (f.defect k r c).isSome = true then some (x, false)
    else match f.ring k r c with
    | none => some (x, false)
    | some n =>
      let v := sortNats n
      let med := (at! v 3 + at! v 4) / 2
      let t := fe.dynT0 + fe.dynT1 * med / 1024
      if at! v 7 + t < x ∨ (fe.dynCold = true ∧ x + t < at! v 0) then some (med, true) else some (x, false)

/-! ### Clamp, merge and shading (R119 to R123) -/

/-- B_k[c], from an estimate copy (R119, R141). -/
def Estimates.black (e : Estimates) (k c : Nat) : Int :=
  
  let b : Int := (e.blf.getD k []).getD c 0
  clampInt ((b + (e.fpf.getD k []).getD c 0 + 128) / 256) 0 65535

/-- v = 4x − B_k[c] (R119). -/
def clampBlack (e : Estimates) (k c x : Nat) : Int := 4 * (x : Int) - e.black k c

/-- The dual-gain merge (R120). -/
def mergeGains (fe : FrontEndSec) (ratio : Nat) (offset h l : Int) : Nat :=
  let ls := l * (ratio : Int) / 8192 + offset
  let w := clampInt ((h - fe.t0) * fe.krcp / 4096) 0 4096
  let yq := (h * (4096 - w) + ls * w + 2048) / 4096
  (clampInt ((yq + 2) / 4 + fe.ped) 0 262143).toNat

/-- The single-gain path (R121). -/
def singleGain (fe : FrontEndSec) (v : Int) : Nat := (clampInt ((v + 2) / 4 * 2 ^ fe.sgShift + fe.ped) 0 262143).toNat

/-- Node (i, j) of a plane's gain grid; a bank without a grid holds unity (R122, log 2). -/
def gridNode (g : List Nat) (p i j : Nat) : Nat := g.getD (2145 * p + 65 * j + i) 8192

/-- Plane of a sample (Table 4-1). -/
def planeOf (p : PortProfile) (r c : Nat) : Nat := if p.mono then 0 else 2 * (r % 2) + c % 2

/-- Lens shading of an image-row sample (R123). -/
def shadeSample (pp : PortPlan) (grid : List Nat) (r c y : Nat) : Nat :=
  let h := pp.profile.h
  let fe := pp.frontEnd
  let p := planeOf pp.profile r c
  let u := c / h * fe.scx
  let i := min (u / 65536) 63
  let fx := min ((u - i * 65536) / 16) 4096
  let v := (r - pp.profile.obRows) / h * fe.scy
  let j := min (v / 65536) 31
  let fy := min ((v - j * 65536) / 16) 4096
  let a := gridNode grid p i j * (4096 - fx) + gridNode grid p (i + 1) j * fx
  let b := gridNode grid p i (j + 1) * (4096 - fx) + gridNode grid p (i + 1) (j + 1) * fx
  let g : Nat := (a * (4096 - fy) + b * fy + 8388608) / 16777216
  (clampInt ((((y : Int) - fe.ped) * (g : Int) + 4096) / 8192 + fe.ped) 0 262143).toNat

/-- The merged sample of a pixel (R120, R121). -/
def SliceIn.merged (f : SliceIn) (r c : Nat) : Option Nat :=
  match f.dynamic 0 r c with
  | none => none
  | some (x0, _) =>
    let h := clampBlack f.est 0 c x0
    if f.pp.profile.gains = 2 then (f.dynamic 1 r c).map fun (x1, _) => mergeGains f.pp.frontEnd f.est.ratio f.est.offset h (clampBlack f.est 1 c x1)
    else some (singleGain f.pp.frontEnd h)

/-- One pixel after the chain: merged sample before and after shading, and POISON, which covers the four pixels of its token
(R110). `bad` holds the row's tokens that a residue mismatch poisoned. -/
def SliceIn.pixel (f : SliceIn) (bad : List Nat) (r c : Nat) : Nat × Tok :=
  let gone := (List.range 4).any fun i => f.gap r (c / 4 * 4 + i)
  let y := (f.merged r c).getD 0
  let y2 := if f.pp.profile.obRows ≤ r then shadeSample f.pp (f.shade.getD (f.pp.profile.carrier r) []) r c y else y
  (y, { v := y2, poison := gone || bad.contains (c / 4) })

/-! ### Statistics (R124 to R126) -/

/-- Histogram bin of a sample (R125). -/
def histBin (y : Nat) : Nat :=
  if y < 1024 then y / 4
  else
    let e := y.log2
    256 + 96 * (e - 10) + (y - 2 ^ e) * 96 / 2 ^ e

/-- Zone of a pixel (R126). -/
def zoneOf (p : PortProfile) (r c : Nat) : Nat := (r - p.obRows) * 18 / max 1 (p.frameRows - p.obRows) * 32 + c * 32 / max 1 p.width

/-- The plane is green, or the sensor has one plane (R126). -/
def isGreen (p : PortProfile) (plane : Nat) : Bool := p.mono || bits p.cfaMap (2 * plane) 2 == 1

/-- One term of a focus sum. -/
def focusTerm (a b c : Nat) : Nat := min 4095 ((2 * (b : Int) - a - c).natAbs / 16)

/-- Add to entry `i` of a list of counters, which saturate at 32 bits. -/
def bump32 (l : List Nat) (i : Nat) : List Nat := upd l i fun n => sat 32 (n + 1)

/-- One image pixel enters the statistics (R124 to R126). -/
def statPixel (pp : PortPlan) (r c : Nat) (pre : Nat) (t : Tok) (f : FrameStats) : FrameStats :=
  if t.poison then f
  else
    let ch := planeOf pp.profile r c
    let clip := decide (pp.frontEnd.clipLevel ≤ pre)
    let add := fun (z : Zone) => { z with
      sums := upd z.sums ch (· + t.v), counts := upd z.counts ch (· + 1)
      clipped := if clip then upd z.clipped ch (· + 1) else z.clipped }
    { f with
      hist := upd f.hist ch fun h => bump32 h (histBin t.v)
      zones := upd f.zones (zoneOf pp.profile r c) add
      clipTotal := if clip then sat 32 (f.clipTotal + 1) else f.clipTotal }

/-- The focus sums that row `r` completes: across it, and down the rows centred H rows above it (R126). `row` reads a row
that has left the front end. -/
def statFocus (pp : PortPlan) (row : Nat → List Tok) (r : Nat) (f : FrameStats) : FrameStats :=
  let p := pp.profile
  let h := p.h
  let cur := row r
  let ok := fun (t : Option Tok) => (t.bind fun t => if t.poison then none else some t.v)
  (List.range p.width).foldl (fun f c =>
    let f1 := match isGreen p (planeOf p r c) && decide (h ≤ c), ok cur[c - h]?, ok cur[c]?, ok cur[c + h]? with
      | true, some a, some b, some d => { f with zones := upd f.zones (zoneOf p r c) fun z => { z with focusH := sat 32 (z.focusH + focusTerm a b d) } }
      | _, _, _, _ => f
    if p.obRows + 2 * h ≤ r ∧ isGreen p (planeOf p (r - h) c) = true then
      match ok (row (r - 2 * h))[c]?, ok (row (r - h))[c]?, ok cur[c]? with
      | some a, some b, some d => { f1 with zones := upd f1.zones (zoneOf p (r - h) c) fun z => { z with focusV := sat 32 (z.focusV + focusTerm a b d) } }
      | _, _, _ => f1
    else f1) f

/-! ### Calibration sums (R140 to R143, R149) -/

/-- Add `v` to column `c` of gain `k`. -/
def addCol {α : Type} (add : α → α) (l : List (List α)) (k c : Nat) : List (List α) := upd l k fun row => upd row c add

/-- Empty sums for a port (R141 to R143). -/
def calInit (p : PortProfile) : CalSums := {
  ob := List.replicate p.gains (List.replicate p.width (0, 0)), dark := List.replicate p.gains (List.replicate p.width (0, 0))
  all := List.replicate p.gains (List.replicate p.width (0, 0)), allX := List.replicate p.gains (List.replicate p.width (0, 0)) }

/-- One pixel enters the calibration sums (R140 to R143, R149). -/
def calPixel (f : SliceIn) (bad : Bool) (r c : Nat) (z : CalSums) : CalSums :=
  let p := f.pp.profile
  let cal := f.pp.cal
  let ob := decide (r < p.obRows)
  let z1 := (List.range p.gains).foldl (fun z k =>
    let z := if ob then { z with obTotal := z.obTotal + 1 } else z
    match (if bad then none else f.dynamic k r c) with
    | none => if ob then { z with obPoison := z.obPoison + 1 } else z
    | some (x, _) =>
      let v := clampBlack f.est k c x
      let z := { z with allX := addCol (fun (s, n) => (s + x, n + 1)) z.allX k c }
      if ob then { z with ob := addCol (fun (s, n) => (s + x, n + 1)) z.ob k c }
      else
        let z := { z with all := addCol (fun (s, n) => (s + v, n + 1)) z.all k c }
        if v.natAbs ≤ cal.darkWin then { z with dark := addCol (fun (s, n) => (s + v, n + 1)) z.dark k c } else z) z
  if p.gains = 2 ∧ bad = false then
    match f.dynamic 0 r c, f.dynamic 1 r c with
    | some (x0, _), some (x1, _) =>
      let h := clampBlack f.est 0 c x0
      let l := clampBlack f.est 1 c x1
      if (cal.dgLo : Int) ≤ h ∧ h < f.pp.frontEnd.t0 ∧ (cal.dgLmin : Int) ≤ l then
        { z1 with n := z1.n + 1, sl := z1.sl + l, sh := z1.sh + h, sll := z1.sll + l * l, slh := z1.slh + l * h }
      else z1
    | _, _ => z1
  else z1

/-! ### A group leaves the front end (R111, R117, R118, R127) -/

/-- What the slice of a group works on, by the frame's ticket (R17). -/
def sliceIn (s : State) (e : Entry) (g : RowGroup) : SliceIn :=
  let pp := s.entryPort e
  let m := pp.profile.members
  { pp := pp, rows := g.input, height := e.rowCount, est := (at! s.sensors e.lead).estimates pp e.copy
    defects := m.zipIdx.map fun (p, i) => at! (at! s.ports p).defects (e.defBanks.getD i 0)
    shade := m.zipIdx.map fun (p, i) => at! (at! s.ports p).shading (e.shadeBanks.getD i 0) }

/-- Counts of corrected samples of one row: static, dynamic, unfixed (R117, R118). -/
def rowFixes (f : SliceIn) (r : Nat) : Nat × Nat × Nat :=
  (List.range f.pp.profile.width).foldl (fun n c => (List.range f.pp.profile.gains).foldl (fun (a, b, d) k =>
    let code := ((f.static k r c).map (·.2)).getD 0
    let dyn := ((f.dynamic k r c).map (·.2)).getD false
    (a + b2n (code == 1), b + b2n dyn, d + b2n (code == 2))) n) (0, 0, 0)

/-- Tokens of row `i` of a group that a residue mismatch poisoned. -/
def badOf (p : PortProfile) (g : RowGroup) (i : Nat) : List Nat :=
  let w := p.width / 4
  (g.bad.filter fun t => t / max 1 w == i).map (· % max 1 w)

/-- Statistics of a frame before its first group. -/
def FrameStats.start (f : FrameStats) (p : PortProfile) : FrameStats :=
  if f.hist.isEmpty then { f with
    hist := (List.range 4).map fun c => if c = 0 || !p.mono then List.replicate 1024 0 else []
    zones := List.replicate 576 {}, cal := calInit p } else f

/-- One row of a leaving group enters the frame's statistics and sums (R124 to R126, R141 to R143). -/
def leaveRow (f : SliceIn) (bad : List Nat) (prev : Nat → List Tok) (r : Nat) (px : List (Nat × Tok)) (x : FrameStats) : FrameStats :=
  let p := f.pp.profile
  let (a, b, d) := rowFixes f r
  let x1 := { x with
    staticFixed := sat 32 (x.staticFixed + a), dynamicFixed := sat 32 (x.dynamicFixed + b), defectUnfixed := sat 16 (x.defectUnfixed + d) }
  let x2 := if r < p.obRows then x1
    else statFocus f.pp prev r (px.zipIdx.foldl (fun x ((pre, t), c) => statPixel f.pp r c pre t x) x1)
  { x2 with cal := (List.range p.width).foldl (fun z c => calPixel f (bad.contains (c / 4)) r c z) x2.cal }

/-- The next dealt group of a frame leaves the front end in FIRST_ROW order, and its slice is free (R111). -/
def groupLeave (i : Nat) (s : State) : State :=
  match s.entry? i with
  | none => s
  | some e =>
    match e.groups.find? (·.st != .left) with
    | none => s
    | some g =>
      if g.st ≠ .dealt then s
      else
        let f := sliceIn s e g
        let p := f.pp.profile
        let px := (List.range g.rows).map fun n =>
          let r := g.firstRow + n
          (r, (List.range p.width).map fun c => f.pixel (badOf p g n) r c)
        let out := px.map fun (r, l) => (r, l.map (·.2))
        let row := fun (r : Nat) => match out.find? (·.1 == r) with
          | some x => x.2
          | none => (((e.groups.filter (·.st == .left)).flatMap (·.out)).find? (·.1 == r)).elim [] (·.2)
        let stats := px.zipIdx.foldl (fun x ((r, l), n) => leaveRow f (badOf p g n) row r l x) (e.stats.start p)
        let burst := decide (f.pp.frontEnd.dynBurst < stats.dynamicFixed) && !e.burstRaised
        let s1 := s.setEntry i fun x => { x with
          stats := stats, burstRaised := x.burstRaised || burst
          groups := x.groups.map fun k => if k.index == g.index then { k with st := .left, input := [], out := out } else k }
        let s2 := { s1 with fePos := s1.fePos.map fun j => if j.any (fun j => j.entry == i && j.group == g.index) then none else j }
        let s3 := if burst then raiseFor 74 e.lead [] i s2 else s2
        frontEndEnd i s3

/-- Every DIAG.CAPTURE that waits on this slice of a stage class: the group named completes it with the words of its tokens, the group
header first, and a group of a later frame with none (R13, Table 15-11, log 56). -/
def captureStep (cls unit frame group : Nat) (tokens : List Token) (s : State) : State :=
  (List.range s.drawers.length).foldl (fun s d => begunCmd d 0x0D01 s fun c =>
    if c.w 0 ≠ cls ∨ c.w 4 ≠ unit then s
    else if c.w 8 = frame ∧ c.w 12 = group then
      let out := tokens.take (c.w 16)
      done d (le 4 out.length) (s.hostWrite (c.q 24) (out.flatMap Token.word))
    else if c.w 8 ≠ frame ∧ (frame + 2 ^ 32 - c.w 8) % 2 ^ 32 < 2 ^ 31 then done d (le 4 0) s
    else s) s

/-- Data tokens of four pixels, leftmost in s0, and their POISON (R110). -/
def fourTokens : List Tok → List (Bool × List Nat)
  | a :: b :: c :: d :: r => ([a, b, c, d].any (·.poison), [a.v, b.v, c.v, d.v]) :: fourTokens r
  | _ => []

/-- GROUP_LEAVE: the group leaves, and a capture that waits for it takes its tokens. -/
def doGroupLeave (i : Nat) (s : State) : State :=
  match s.entry? i with
  | none => s
  | some e =>
    let job := s.fePos.find? fun j => j.any fun j => j.entry == i && some j.group == (e.groups.find? (·.st != .left)).map (·.index)
    let s1 := groupLeave i s
    match job.bind id with
    | none => s1
    | some j =>
      let g := (((s1.entry? i).getD e).groups.find? (·.index == j.group)).getD default
      captureStep 0 j.unit e.ticket.frame j.group (groupTokens e g (g.out.flatMap fun r => fourTokens r.2)) s1

/-! ### Tables and rings (R116, R122, R128) -/

/-- Some ticket in the table still names bank `b` of port `p` (R116). -/
def bankNamed (banks : Entry → List Nat) (s : State) (p b : Nat) : Bool :=
  s.live'.any fun (_, e) =>
    let m := (s.entryPort e).profile
    e.isSensor && m.members.contains p && (banks e).getD (m.memberIdx p) 2 == b

/-- An event of a port's tables and rings, with the ticket of the frame in progress (R137, log 61). -/
def raisePort (num p : Nat) (s : State) : State := raise num p [] (s.lastTicket ((s.leadOf p).getD p)) s

/-- Why a defect entry is refused whatever the sensor (R116, Table 4-2). -/
def defectField (e : BitVec 64) : Bool :=
  let ty := defField e 38 2
  defField e 34 2 == 3 || ty == 3 || (ty == 0 && defField e 40 16 != 0) || defField e 56 8 != 0 ||
  (ty == 1 && defField e 36 2 == 2) || (ty == 2 && defField e 36 2 == 1)

/-- Why a defect entry is refused for member `m` of a port or bond (R115, R116). -/
def defectBad (pp : PortProfile) (m : Nat) (e : BitVec 64) : Bool :=
  let row := defField e 16 18
  let col := defField e 0 16
  let run := defField e 40 16
  let ty := defField e 38 2
  let rows := if ty = 1 then run else 0
  let cols := if ty = 2 then run else 0
  defectField e || (pp.gains == 1 && defField e 34 2 != 0) ||
  decide (pp.width ≤ col + cols) || decide (pp.frameRows ≤ row + rows) ||
  ((List.range (rows + 1)).any fun i => pp.carrier (row + i) != m)

/-- Entries sorted by ascending (ROW, COL) (R115). -/
def defectsSorted : List (BitVec 64) → Bool
  | a :: b :: r => decide (bits a.toNat 16 18 * 65536 + bits a.toNat 0 16 ≤ bits b.toNat 16 18 * 65536 + bits b.toNat 0 16) && defectsSorted (b :: r)
  | _ => true

/-- SENSOR.LOAD_DEFECTS (R115, R116). On a port that no plan drives the sensor is not known, and the checks that need it pass
(log 61). -/
def doSensorLoadDefects (d : Nat) (s : State) : State :=
  drawerCmd d 0x0304 s fun c =>
    let p := c.w 0
    let n := c.q 16
    checked d c 24 [(decide (3 < p), 0), (n % 8 != 0 || decide (1048576 < n), 16)] s fun s =>
      let bad := match s.profileOf p with
        | some pp => defectBad pp (pp.memberIdx p)
        | none => defectField
      let q := at! s.ports p
      let b := 1 - q.defBank
      if !s.covered (c.q 8) n false then fail d Status.notPermitted s
      else if bankNamed (·.defBanks) s p b then fail d Status.busy s
      else
        let data := s.hostRead (c.q 8) n
        let es := (List.range (n / 8)).map fun i => BitVec.ofNat 64 (fieldLe data (8 * i) 8)
        if !defectsSorted es || es.any bad then
          postResult d Status.invalidField noDetail [] (s.setPort p fun q => { q with defNext := false })
        else
          let s1 := s.setPort p fun q => { q with defects := q.defects.set b es, defNext := true }
          raisePort 72 p (done d (le 4 es.length) s1)

/-- SENSOR.SET_SHADING (R122). -/
def doSensorSetShading (d : Nat) (s : State) : State :=
  drawerCmd d 0x0305 s fun c =>
    let p := c.w 0
    checked d c 24 [(decide (3 < p), 0), (decide (c.q 16 < 17160), 16)] s fun s =>
      let q := at! s.ports p
      let b := 1 - q.shadeBank
      if !s.covered (c.q 8) (c.q 16) false then fail d Status.notPermitted s
      else if bankNamed (·.shadeBanks) s p b then fail d Status.busy s
      else
        let data := s.hostRead (c.q 8) 17160
        let g := (List.range 8580).map fun i => fieldLe data (2 * i) 2
        raisePort 73 p (done d [] (s.setPort p fun q => { q with shading := q.shading.set b g, shadeNext := true }))

/-- PIPE.SET_STATS_RING (R128): a bond's ring is named by any of its ports. -/
def doPipeSetStatsRing (d : Nat) (s : State) : State :=
  drawerCmd d 0x0404 s fun c =>
    let l := (s.leadOf (c.w 0)).getD (c.w 0)
    let n := c.w 24
    checked d c 28 [(decide (3 < c.w 0), 0), (decide (c.q 16 < 4096 + 65536 * n), 16), (!(isPow2 n && within n 2 64), 24)] s fun s =>
      if !s.covered (c.q 8) (c.q 16) true then fail d Status.notPermitted s
      else done d [] (s.setSensor l fun x => { x with nextRing := some { addr := c.q 8, len := c.q 16, entries := n, slot := 65536 } })

/-! ### The commands -/

def execGroupDeal (pos : Nat) (s : State) : Out := whenLive s (doGroupDeal pos)
def execGroupLeave (e : Nat) (s : State) : Out := whenLive s (doGroupLeave e)
def execSensorLoadDefects (d : Nat) (s : State) : Out := whenLive s (doSensorLoadDefects d)
def execSensorSetShading (d : Nat) (s : State) : Out := whenLive s (doSensorSetShading d)
def execPipeSetStatsRing (d : Nat) (s : State) : Out := whenLive s (doPipeSetStatsRing d)

end Sys2Proof.Machine
end

