-- ==== Sys2Proof/Machine/Validate.lean ====
section
/-! DEFINITION. Validation of a plan image (02_frame_plans.md R35, R36, Table 2-4), with the loads of Tables 1-5 and 1-9 and
the ranges that the stage chapters give. -/

namespace Sys2Proof.Machine

open Sys2Proof

/-- What a failed check reports (R36): the status, REASON, KIND and byte offset. -/
structure PlanFault where
  status : Nat := Status.invalidPlan
  reason : Nat := 0
  kind : Nat := 0
  offset : Nat := 0
  deriving DecidableEq, Repr, Inhabited

/-- A check that rests on an item whose place in the image the spec does not give (R32, log 7). -/
def planItem (reason kind : Nat) (img : PlanImage) : PlanFault :=
  { reason := reason, kind := kind, offset := (Config.planOffset reason img).2 }

/-! ### Check 4: the directory -/

/-- The first directory entry at fault (R32). A missing mandatory section is at fault in no entry: DESIGN CHOICE entry 0 (log 58). Of
two entries that clash, the later one is at fault. -/
def dirBad (img : PlanImage) : Option Nat :=
  let ds := img.directory.zipIdx
  let bad := fun (x : DirEntry × Nat) =>
    let d := x.1
    d.kind != 0 && (decide (8 < d.kind) || decide (d.offset < 4) || decide (img.length < d.last * 64) ||
      (ds.take x.2).any fun y => y.1.kind != 0 && (y.1.kind == d.kind || (decide (d.offset < y.1.last) && decide (y.1.offset < d.last))))
  match ds.find? bad with
  | some x => some x.2
  | none => if [1, 2, 3, 4, 5, 6, 7].all (fun k => img.directory.any (·.kind == k)) then none else some 0

/-! ### Check 5: ranges -/

/-- KIND of the first section with a field out of its range (check 5). -/
def rangeBad (p : Plan) : Option Nat :=
  let portBad := p.portPlans.any fun x => !x.profile.inRange
  let stage := (p.portPlans.any fun x => !x.frontEnd.inRange x.profile || !x.raw.inRange || !x.rawFits || !x.colour.inRange x.profile) ||
    p.hevc.any (fun h => !h.inRange) || p.enabled.any (fun k => !(p.units.getD k default).inRange) ||
    p.sdi.zipIdx.any (fun (e, n) => !e.inRange n) || !p.display.inRange || !p.memory.inRange
  let allot := p.portPlans.any fun x => !within x.allot.maxInflight 1 4 || decide (64 < x.allot.items.length) ||
    x.allot.items.any fun i => decide (1 < i.pool) || decide (5 < i.holder) || decide (5 < i.release)
  let policy := p.portPlans.any (fun x => !x.cal.inRange x.frontEnd) || decide (64 < p.settleFrames) || !within p.fault.faultCount 2 16 ||
    !within p.fault.faultWindow 10000000 60000000000 || !within p.fault.commonUnits 2 8 || !within p.fault.slackLow 1 512 || !within p.fault.slackFrames 1 64
  if portBad then some 1 else if stage then some 2 else if allot then some 3 else if p.graph.any (fun g => !g.inRange || (g.enable && !p.slotShape g)) then some 4
  else if p.shed105 < p.shed100 then some 6 else if policy then some 7 else if 65536 < p.annotationBytes then some 8 else none

/-! ### Check 6: pools (R53, R116, R392) -/

/-- Check 6 for plans that run together. -/
def poolsFit (s : State) (ps : List Plan) : Bool :=
  let m := (ps.headD default).memory
  decide (sumNat (ps.map (·.allotPages 0)) + sumNat (ps.map Plan.dispPages) + m.atticPages + m.dynAttic ≤ atticPool) &&
  decide (sumNat (ps.map (·.allotPages 1)) + sumNat (ps.map Plan.standing) + m.larderPages + m.storePages + m.dynCellar ≤ s.cellarPages) &&
  decide (m.larderPages * 4 ≤ s.cellarPages * 3)

/-! ### Checks 7 and 8: loads and units (Tables 1-5 and 1-9) -/

/-- Rates of Table 1-5 at a corner, per second. -/
def feRate (c : Nat) : Nat := [650000000, 700000000, 760000000].getD c 0
def rcRate (c : Nat) : Nat := [660000000, 710000000, 760000000].getD c 0
def csRate (c : Nat) : Nat := [850000000, 900000000, 960000000].getD c 0
def renRate (c : Nat) : Nat := [1000000000, 1060000000, 1130000000].getD c 0
def hevcRate (c : Nat) : Nat := [4000000000, 4250000000, 4500000000].getD c 0
def atticRate (c : Nat) : Nat := [3400000000000, 3600000000000, 3800000000000].getD c 0

/-- The loads of plans that run together fit the corner column and Table 1-9 with every unit in place; `lines` is what the
Cellar's interfaces carry per second (check 7, R30, R221, R375). -/
def loadsFit (lines : Nat) (ps : List Plan) : Bool :=
  let c := (ps.headD default).corner
  let slots := ps.flatMap fun p => p.enabled.map fun k => (p, p.graph.getD k default)
  let total := fun (f : Plan → Frac) (most : Nat) => (Frac.sum (ps.map f)).atMost most
  total Plan.pixRate 20000000000 && total Plan.tokenRate (16 * feRate c) && total Plan.pixRate (32 * rcRate c) &&
  total Plan.colourRate (24 * csRate c) && slots.all (fun (p, g) => (p.slotRate g g.stripe).atMost (renRate c)) &&
  [0, 1].all (fun e => (engineShare (hevcRate c) (ps.flatMap fun p => p.contexts e)).atMost 1) &&
  decide (sumNat (ps.map Config.cellarLines) ≤ lines) && total Plan.mediaRate 28000000000 && total Plan.hostRate 31500000000 &&
  (Frac.sum (slots.map (fun (p, g) => (p.slotRate g g.outW).scale 36 1) ++ ps.map fun p => { num := Config.lineTraffic p })).atMost (atticRate c)

/-- Units of a class that are in service and hold or can hold a position (R494). -/
def State.inService (s : State) (kind : Nat) : Nat := (s.units.units.filter fun u => u.kind == kind && u.st != .retired).length

/-- KIND of the section that names a unit out of service, or needs more of a class than is in service (check 8, R491): the stage
sections for slices, raw coders and engines, the rendition graph for a rendition unit. Both at fault: the lower KIND, DESIGN CHOICE
(log 58). -/
def unitsBad (s : State) (p : Plan) : Option Nat :=
  let gone := fun (kind n : Nat) => s.units.units.any fun u => u.kind == kind && u.number == n && u.st == .retired
  if !p.tokenRate.atMost (min 16 (s.inService 0) * feRate p.corner) || !p.colourRate.atMost (min 24 (s.inService 1) * csRate p.corner) ||
      !p.pixRate.atMost (s.inService 2 * rcRate p.corner) || [0, 1].any (fun e => gone 4 e && !(p.contexts e).isEmpty) then some 2
  else if p.enabled.any (fun k => let g := p.graph.getD k default; (List.range (g.unitCount + 1)).any fun i => gone 3 (g.unitFirst + i)) then some 4
  else none

/-! ### Check 9: the rendition graph (R198, R199, R223, R286) -/

/-- BITS code of a slot as a context's BITS code. -/
def ctxBits (h : HevcEntry) (g : GraphSlot) : Bool := if h.profile = 0 then g.bits == 0 else g.bits + 1 == h.bits

/-- The graph is sound (check 9). -/
def graphSound (p : Plan) : Bool :=
  let slots := p.enabled.map fun k => p.graph.getD k default
  let units := slots.flatMap fun g => (List.range (g.unitCount + 1)).map (g.unitFirst + ·)
  let b := p.bindings
  decide (units.Nodup) && decide (b.Nodup) && p.quadAlone &&
  slots.all (fun g =>
    (if g.srcKind = 0 then (p.portPlan? g.srcId).isSome
     else if g.srcKind = 1 then (let h := p.hevc.getD g.srcId default; h.enable && h.decode)
     else p.reviewRings.any (·.ring == g.srcId)) &&
    (if g.destKind = 0 then p.sdiBound g
     else if g.destKind = 1 then p.dispBound g
     else if g.destKind = 2 then (let h := p.hevc.getD g.destId default
       h.enable && !h.decode && g.ycc != 0 && ctxBits h g && g.outW == h.width && g.outH == h.height && g.sub == h.sub)
     else if g.destKind = 4 then decide (g.destId < 8)
     else decide (g.destId < 16)) &&
    !(g.srcKind == 1 && g.destKind == 2 && g.srcId == g.destId)) &&
  (p.hevc.zipIdx.all fun (h, i) => !h.enable || h.decode || (slots.filter fun g => g.destKind == 2 && g.destId == i).length == 1)

/-! ### Checks 11 and 12 -/

/-- The shed order lists every rendition exactly once. -/
def shedOrderOk (p : Plan) : Bool := decide (p.shedOrder.Nodup) && p.shedOrder.all p.enabled.contains && p.enabled.all p.shedOrder.contains

/-- The members of a bond have consecutive numbers (R84). -/
def consecutive : List Nat → Bool
  | a :: b :: r => b == a + 1 && consecutive (b :: r)
  | _ => true

/-- A port profile is within the port hardware's limits (check 12: R64, R84, R110, R113, R134). -/
def profileOk (p : PortProfile) : Bool :=
  decide (1 ≤ p.members.length) && decide (p.members.length ≤ 4) && p.members.all (fun m => decide (m < 4)) && consecutive p.members &&
  p.width % 8 == 0 && decide (0 < p.width) && decide (p.width < 65536) && decide (0 < p.frameRows) && [2, 4, 8].contains p.laneCount && within p.segMin 8 p.width &&
  decide (8 + ceilDiv (p.segMin * p.sampleBits * p.gains) 32 * 4 ≤ 16384) && p.obRows % p.h == 0 && decide (p.obRows ≤ p.frameRows) &&
  (p.timing != .lineScan || p.obRows == 0) &&
  decide (p.rowBytes * 8 * 1000000000 * 16 ≤ 15 * (p.laneCount * symbolRate p.symbolRate * 2) * (p.rowPeriod * p.members.length))

/-- Every port belongs to one profile and PORTS names them all (check 12). -/
def portsOk (p : Plan) : Bool :=
  let m := p.portPlans.flatMap (·.profile.members)
  decide (m.Nodup) && sumNat (m.map (2 ^ ·)) == p.ports

/-! ### The whole validation (Table 2-4) -/

/-- Offset of the first Reserved field of the header or the directory that is not 0 (Table 2-1). -/
def reservedAt (img : PlanImage) : Option Nat :=
  if img.reserved06 ≠ 0 then some 0x06
  else if img.reserved0C ≠ 0 then some 0x0C
  else if img.reserved0D ≠ 0 then some 0x0D
  else match img.directory.findIdx? (·.reserved != 0) with
    | some i => some (0x10 + 8 * i + 7)
    | none => if img.reservedC0 ≠ 0 then some 0xC0 else none

/-- The first check that fails, in the order of Table 2-4; `moved` is the number of bytes transferred. A Reserved field of the header
or the directory lies in no section and reports KIND 0: DESIGN CHOICE (log 58). -/
def validate (s : State) (img : PlanImage) (moved : Nat) : Option PlanFault :=
  let p := img.content
  if img.magic ≠ 0x4E414C50 then some { reason := 1, offset := 0 }
  else if img.format ≠ 3 then some { reason := 1, offset := 4 }
  else if img.length ≠ moved ∨ img.length % 64 ≠ 0 ∨ img.length < 256 ∨ 4194304 < img.length then some { reason := 1, offset := 8 }
  else if !img.digestMatches then some { status := Status.integrity, reason := 2, offset := 0x90 }
  else if 2 < p.corner then some { reason := 3, offset := 0x0C }
  else match dirBad img with
  | some i => some { reason := 4, kind := (img.directory.getD i default).kind, offset := 0x10 + 8 * i }
  | none =>
    match reservedAt img with
    | some o => some { reason := 5, offset := o }
    | none => match img.badField with
    | some (k, o) => some { reason := 5, kind := k, offset := o }
    | none => match rangeBad p with
      | some k => some (planItem 5 k img)
      | none =>
        if !poolsFit s [p] then some (planItem 6 3 img)
        else if !loadsFit (300000000 * s.sys.ifcCount) [p] then some (planItem 7 2 img)
        else if let some k := unitsBad s p then some (planItem 8 k img)
        else if !graphSound p then some (planItem 9 4 img)
        else if p.portPlans.any (fun x => (List.range 6).any fun c => decide (x.deadlines.offsets.getD c 0 < Config.minLatency c p.corner)) then some (planItem 10 5 img)
        else if !shedOrderOk p then some (planItem 11 6 img)
        else if !(p.portPlans.all fun x => profileOk x.profile) || !portsOk p then some (planItem 12 1 img)
        else none

/-- KIND of the first conflicting section of plans that would run together (R39). The spec gives the conflicts no order and the
loads no section: DESIGN CHOICE header 0, stage sections 2, allotments 3, graph 4, then the loads as stage sections 2 (log 58). -/
def conflict (s : State) (new : Plan) (others : List Plan) : Option Nat :=
  let all := new :: others
  let pairs := fun (f : Plan → Plan → Bool) => others.any (f new)
  if pairs fun a b => a.corner != b.corner then some 0
  else if pairs (fun a b => a.memory != b.memory) || pairs (fun a b => (List.range 64).any fun i => (a.hevc.getD i default).enable && (b.hevc.getD i default).enable) ||
      pairs (fun a b => (List.range 4).any fun n => (a.sdi.getD n default).mode != 0 && (b.sdi.getD n default).mode != 0) ||
      pairs (fun a b => a.display.enable && b.display.enable) then some 2
  else if !poolsFit s all then some 3
  else if pairs (fun a b => a.enabled.any b.enabled.contains) || pairs (fun a b => a.bindings.any b.bindings.contains) ||
      pairs (fun a b => a.reviewRings.any fun r => b.reviewRings.any (·.ring == r.ring)) ||
      pairs (fun a b => (a.enabled.flatMap fun k => let g := a.graph.getD k default; (List.range (g.unitCount + 1)).map (g.unitFirst + ·)).any
        (b.enabled.flatMap fun k => let g := b.graph.getD k default; (List.range (g.unitCount + 1)).map (g.unitFirst + ·)).contains) then some 4
  else if !loadsFit (300000000 * s.sys.ifcCount) all then some 2
  else none

end Sys2Proof.Machine
end

