-- ==== Sys2Proof/Machine/Plans.lean ====
section
/-! DEFINITION. PLAN commands, parameter-page commits and policies (02_frame_plans.md, Tables 15-10 and 2-8), and the tickets of
decode and review sources (R49). -/

namespace Sys2Proof.Machine

open Sys2Proof

/-! ### Loading and editing (R34 to R37, R62) -/

/-- Shelf `k`. -/
def State.shelf (s : State) (k : Nat) : Shelf := at! s.shelves k

/-- Change Shelf `k`. -/
def State.setShelf (s : State) (k : Nat) (f : Shelf → Shelf) : State := { s with shelves := upd s.shelves k f }

/-- PLAN.LOAD (R34, R35): the image moves into the Shelf, and PLAN_VALIDATION posts the result. -/
def doPlanLoad (d : Nat) (img : PlanImage) (s : State) : State :=
  drawerCmd d 0x0201 s fun c =>
    let k := c.w 0
    checked d c 24 [(decide (7 < k), 0)] s fun s =>
      if (s.shelf k).st ≠ .empty ∨ (s.shelf k).writing.isSome then fail d Status.busy s
      else if !s.covered (c.q 8) (c.q 16) false then fail d Status.notPermitted s
      else (s.setShelf k fun x => { x with writing := some (img, d) }).begin d

/-- The parts of a plan that PLAN.EDIT may not change (R62); allotments are compared apart. -/
def uneditable (p : Plan) : Plan := { p with
  graph := p.graph.map fun g => { g with cropX := 0, cropW := 0, cropY := 0, cropH := 0, outW := 0, outH := 0, takeN := 0, takePhase := 0 }
  hevc := p.hevc.map fun h => { h with bitrate := 0, maxBitrate := 0, qpInit := 0, qpMin := 0, qpMax := 0 }
  shedOrder := [], shed100 := 0, shed105 := 0, settleFrames := 0, fault := {}
  portPlans := p.portPlans.map fun x => { x with
    cal := {}, allot := { x.allot with items := [] }
    profile := { x.profile with expMin := 0, expMax := 0, gainMin := 0, gainMax := 0 } } }

/-- No allotment item grows (R62). -/
def itemsWithin (old new : Plan) : Bool :=
  (old.portPlans.zip new.portPlans).all fun (a, b) => a.allot.items.length == b.allot.items.length &&
    (a.allot.items.zip b.allot.items).all fun (i, j) => decide (j.pages ≤ i.pages) && { j with pages := i.pages } == i

/-- PLAN.EDIT (R34, R62): a changed copy of a Loaded or Active plan goes into an Empty Shelf; `img` is the copy with the
records of the buffer applied. -/
def doPlanEdit (d : Nat) (img : PlanImage) (s : State) : State :=
  drawerCmd d 0x0202 s fun c =>
    let a := c.w 0
    let b := c.w 4
    checked d c 24 [(decide (7 < a), 0), (decide (7 < b), 4)] s fun s =>
      if (s.shelf a).st = .empty ∨ (s.shelf a).st = .draining then invalid d 0 s
      else if (s.shelf b).st ≠ .empty ∨ (s.shelf b).writing.isSome then fail d Status.busy s
      else if !s.covered (c.q 8) (c.q 16) false then fail d Status.notPermitted s
      else
        let old := (s.plan? a).getD default
        if uneditable old == uneditable img.content && itemsWithin old img.content then
          (s.setShelf b fun x => { x with writing := some (img, d) }).begin d
        else postResult d Status.invalidField noDetail [] s

/-- The next plan generation (R37). -/
def nextGen (g : Nat) : Nat := if g = 0xFFFF then 1 else g + 1

/-- PLAN_VALIDATION: the result of PLAN.LOAD or PLAN.EDIT (R35 to R37). -/
def doPlanValidation (d : Nat) (s : State) : State :=
  match s.shelves.findIdx? fun x => (x.writing.map (·.2)) == some d with
  | none => s
  | some k =>
    match (s.shelf k).writing with
    | none => s
    | some (img, _) =>
      let c := (s.drawer d).cmd
      let moved := if c.opcode = 0x0201 then c.q 16 else img.length
      match validate s img moved with
      | some f =>
        postResult d f.status noDetail (le 4 0 ++ le 4 f.reason ++ le 4 f.kind ++ le 4 f.offset)
          (s.setShelf k fun x => { x with writing := none })
      | none =>
        let g := s.planCtr
        let s1 := s.setShelf k fun x => { x with st := .loaded, plan := some img.content, gen := g, digest := img.digest, writing := none, pending := [] }
        done d (le 4 g) { s1 with planCtr := nextGen g }

/-! ### Activation and release (R33, R34, R38 to R41, R93, R151) -/

/-- Ports that feed the recording clip: every port that runs (R41). -/
def State.feedsClip (s : State) (l : Nat) : Bool := s.store.clip.isSome && (at! s.sensors l).started

/-- R41: while a clip records, profile and raw section of the ports that feed it stay as they are. -/
def changesClip (s : State) (p : Plan) : Bool :=
  (List.range 4).any fun l => s.feedsClip l && (match p.portPlan? l with
    | some n => match s.portPlan? l with
      | some o => o.profile != n.profile || o.raw != n.raw
      | none => false
    | none => p.portPlans.any fun x => x.profile.members.any fun m => s.leadOf m == some l)

/-- R93: a started port whose lanes, rate or bond the switch would change. -/
def changesStarted (s : State) (p : Plan) : Bool :=
  (List.range 4).any fun m => bit p.ports m && (match s.leadOf m with
    | some l => (at! s.sensors l).started && (match s.portPlan? l with
      | some o => (match p.portPlans.find? fun x => x.profile.members.contains m with
        | some n => linkDiffers o.profile n.profile
        | none => false)
      | none => false)
    | none => false)

/-- Plans that stay Active on ports outside the mask, or whose activation there is pending (R39). -/
def stayActive (s : State) (k mask : Nat) : List Plan :=
  s.shelves.zipIdx.filterMap fun (x, j) =>
    if j ≠ k ∧ ((x.pending.any fun l => !bit mask l) ∨ ((List.range 4).any fun l => !bit mask l && (at! s.sensors l).shelf == some j)) then x.plan
    else none

/-- PLAN.ACTIVATE takes effect on one section of the plan, with its lead port: at once, or pending on every member (R38). -/
def activateOn (k : Nat) (drain : Bool) (s : State) (x : PortPlan) : State :=
  let l := x.lead
  if (at! s.sensors l).started then
    (x.profile.members.foldl (fun s m => s.setSensor m fun y => { y with switch := some { shelf := k, drain := drain } }) s).setShelf k
      fun y => { y with pending := y.pending ++ x.profile.members }
  else switchNow l k s

/-- PLAN.ACTIVATE (R38 to R41, R93, R151, R491). -/
def doPlanActivate (d : Nat) (s : State) : State :=
  drawerCmd d 0x0203 s fun c =>
    let k := c.w 0
    let mask := c.w 4
    checked d c 12 [(decide (7 < k), 0), (decide (15 < mask), 4), (decide (1 < c.w 8), 8)] s fun s =>
      let x := s.shelf k
      if x.writing.isSome then fail d Status.busy s
      else match x.plan with
      | none => invalid d 0 s
      | some p =>
        if mask ≠ p.ports then invalid d 4 s
        else if x.st ≠ .loaded ∨ x.pending ≠ [] then fail d Status.busy s
        else if (List.range 4).any (fun l => bit mask l && ((at! s.sensors l).switch.isSome || (at! s.sensors ((s.leadOf l).getD l)).cal.state == 2)) then fail d Status.busy s
        else if changesClip s p || changesStarted s p then fail d Status.notPermitted s
        else if let some kind := unitsBad s p then postResult d Status.invalidPlan noDetail (le 4 8 ++ le 4 kind ++ le 4 0) s
        else
          let others := stayActive s k mask
          match (if others.isEmpty then none else conflict s p others) with
          | some kind => postResult d Status.invalidPlan noDetail (le 4 0x0D ++ le 4 kind ++ le 4 0) s
          | none => p.portPlans.foldl (activateOn k (c.w 8 == 1)) (done d [] s)

/-- PLAN.RELEASE (Table 2-3, R34, R93). -/
def doPlanRelease (d : Nat) (s : State) : State :=
  drawerCmd d 0x0204 s fun c =>
    let k := c.w 0
    checked d c 4 [(decide (7 < k), 0)] s fun s =>
      let x := s.shelf k
      let driven := (List.range 4).filter fun l => (at! s.sensors l).shelf == some k
      if x.writing.isSome then fail d Status.busy s
      else if x.st = .empty then invalid d 0 s
      else if x.st = .draining ∨ x.pending ≠ [] ∨ (driven.any fun m => (s.leadOf m).any fun l => (at! s.sensors l).started) = true ∨
          (s.live'.any fun (_, e) => e.ticket.shelf == k) = true then fail d Status.busy s
      else
        let s1 := driven.foldl (fun s m => s.setSensor m fun y => { y with shelf := none, listing := false }) s
        let s2 := driven.foldl (fun s m => takeDown m s) s1
        done d [] (s2.setShelf k fun _ => {})

/-- One entry of PLAN.GET_SHELVES (Table 15-10). -/
def Shelf.status (x : Shelf) : Bytes :=
  let st := match x.st with
    | .empty => 0 | .loaded => 1 | .active => 2 | .draining => 3
  let (corner, ports) := match x.plan with
    | some p => (p.corner, p.ports)
    | none => (0, 0)
  le 1 (st + 64 * b2n x.writing.isSome + 128 * b2n (!x.pending.isEmpty)) ++ le 1 corner ++ le 1 ports ++ le 1 0 ++ le 2 x.gen ++ le 2 0

/-- PLAN.GET_SHELVES. -/
def doPlanGetShelves (d : Nat) (s : State) : State :=
  drawerCmd d 0x0205 s fun c => checked d c 0 [] s fun s => done d (s.shelves.flatMap Shelf.status) s

/-! ### Commits (R44 to R46, R88, R148, R151) -/

/-- C of the scheduled calibration frame: EXPOSURE_FRAME of firmware's next commit until that commit fixes it (R148). -/
def State.calTarget (s : State) (l : Nat) : Nat :=
  let c := (at! s.sensors l).cal
  if c.state = 1 ∧ c.fixed = false then s.exposureFrame l else c.frame

/-- A host commit would send a packet with EXPOSURE_FRAME C (R151). -/
def hitsCal (l : Nat) (changed : Bool) (s : State) : Bool :=
  changed && (at! s.sensors l).cal.state != 0 && s.exposureFrame l == s.calTarget l

/-- The values of PIPE.COMMIT_PAGE written into a page (R45). -/
def pageWrite (m : Nat) (v : Nat → Nat) (p : Page) : Page :=
  let pick := fun (i old : Nat) => if bit m i then v i else old
  { p with
    exposure := pick 0 p.exposure, sensorGain := pick 1 p.sensorGain
    wb := (List.range 3).map fun i => pick (2 + i) (p.wb.getD i 0)
    rawDelta := pick 5 p.rawDelta
    qpDelta := (List.range 16).map fun k => if bit m (6 + k) then toInt 32 (v (6 + k)) else p.qpDelta.getD k 0 }

/-- Policies that own a field of the commit mask and run (R45, Table 2-8). -/
def ownedField (holds : List Bool) (m : Nat) : Bool :=
  (!holds.getD 0 false && m % 4 != 0) || (!holds.getD 1 false && m / 4 % 8 != 0) || (!holds.getD 2 false && m / 32 != 0)

/-- An exposure setting outside the profile's limits (R45). -/
def outOfLimits (pp : PortProfile) (exp gain : Option Nat) : Bool :=
  (match exp with
    | some e => decide (e < pp.expMin) || decide (pp.expMax < e)
    | none => false) ||
  (match gain with
    | some g => decide (g < pp.gainMin) || decide (pp.gainMax < g)
    | none => false)

/-- PIPE.COMMIT_PAGE (R45, R46, R151). -/
def doPipeCommitPage (d : Nat) (s : State) : State :=
  drawerCmd d 0x0401 s fun c =>
    let l := c.w 0
    let m := c.w 4
    let v := fun i => c.w (8 + 4 * i)
    let x := at! s.sensors l
    let pp := s.portPlan l
    let qpBad := fun (k : Nat) => bit m (6 + k) && decide (12 < (toInt 32 (v (6 + k))).natAbs)
    let bad : List (Bool × Nat) := [(decide (3 < l) || (s.portPlan? l).isNone, 0), (decide (2 ^ 22 ≤ m), 4)] ++
      (List.range 22).map (fun i => (!bit m i && v i != 0, 8 + 4 * i)) ++
      [(bit m 0 && outOfLimits pp.profile (some (v 0)) none, 8), (bit m 1 && (decide (65535 < v 1) || outOfLimits pp.profile none (some (v 1))), 12)] ++
      (List.range 3).map (fun i => (bit m (2 + i) && decide (2 ^ 18 ≤ v (2 + i)), 16 + 4 * i)) ++ [(bit m 5 && decide (255 < v 5), 28)] ++
      (List.range 16).map (fun k => (qpBad k, 32 + 4 * k))
    checked d c 96 bad s fun s =>
      let changed := (bit m 0 && v 0 != x.page.exposure) || (bit m 1 && v 1 != x.page.sensorGain)
      if ownedField x.holds m then fail d Status.notPermitted s
      else if hitsCal l changed s then fail d Status.busy s
      else
        let s1 := commitPage l false (pageWrite m v) s
        done d (commitResult l changed s1) s1

/-- SENSOR.SET_EXPOSURE (R45, R46, R88, R151). -/
def doSensorSetExposure (d : Nat) (s : State) : State :=
  drawerCmd d 0x0303 s fun c =>
    let l := c.w 0
    let x := at! s.sensors l
    let pp := s.portPlan l
    let bad := [(decide (3 < l) || (s.portPlan? l).isNone, 0), (outOfLimits pp.profile (some (c.w 4)) none, 4),
      (decide (65535 < c.w 8) || outOfLimits pp.profile none (some (c.w 8)), 8)]
    checked d c 12 bad s fun s =>
      let changed := c.w 4 != x.page.exposure || c.w 8 != x.page.sensorGain
      if !x.holds.getD 0 false then fail d Status.notPermitted s
      else if hitsCal l true s then fail d Status.busy s
      else
        let s1 := commitPage l true (fun p => { p with exposure := c.w 4, sensorGain := c.w 8 }) s
        done d (commitResult l changed s1) s1

/-- A page with firmware's policy outputs: a held policy keeps its last outputs (R58); the policy limits of the plan bind (R32), then
the exposure and gain limits of the profile (R45) and the range of each field (Table 2-5). -/
def firmwarePage (holds : List Bool) (lim : PolicyLimits) (pp : PortProfile) (o : PolicyOut) (p : Page) : Page :=
  let held := fun i => holds.getD i false
  { p with
    exposure := if held 0 then p.exposure else max pp.expMin (min pp.expMax (lim.exposure.nat p.exposure o.exposure))
    sensorGain := if held 0 then p.sensorGain else max pp.gainMin (min pp.gainMax (lim.gain.nat p.sensorGain o.sensorGain))
    wb := if held 1 then p.wb else (List.range 3).map fun i => min (2 ^ 18 - 1) (lim.wb.nat (p.wb.getD i 0) (o.wb.getD i 0))
    rawDelta := if held 2 then p.rawDelta else min 255 (lim.rawDelta.nat p.rawDelta o.rawDelta)
    qpDelta := if held 2 then p.qpDelta else
      (List.range 16).map fun k => clampInt (lim.qpDelta.apply (p.qpDelta.getD k 0) (o.qpDelta.getD k 0)) (-12) 12
    stage := padTo 768 o.stage }

/-- Length in ticks of the interruption of a calibration frame (R148). -/
def interrupt (pp : PortProfile) : Nat := pp.framePeriod + 2000000

/-- FIRMWARE_PAGE_COMMIT (R44, R58): firmware's commit of one frame on a running port. The commit of a scheduled calibration
frame fixes C and sends its setting, and the next commit restores the exposure (R148). -/
def doFirmwarePageCommit (l : Nat) (o : PolicyOut) (s : State) : State :=
  let x := at! s.sensors l
  if x.started = false ∨ s.sys.stage ≠ 2 ∨ (s.portPlan? l).isNone = true then s
  else
    let pp := (s.portPlan l).profile
    let f := firmwarePage x.holds ((s.planOf? l).getD default).limits pp o
    if x.cal.state = 1 ∧ x.cal.fixed = false then
      let cf := s.exposureFrame l
      let s1 := s.setSensor l fun y => { y with cal := { y.cal with
        frame := cf, fixed := true, pageGen := nextPageGen x.page.pageGen, restore := some x.page.exposure, drawer := none } }
      let s2 := raise 83 l [l, cf, b2n x.cal.ratio, interrupt pp] none s1
      let s3 := commitPage l true (fun p => { f p with exposure := x.cal.exposure, sensorGain := x.page.sensorGain }) s2
      match x.cal.drawer with
      | some d => done d (le 4 cf ++ le 4 (interrupt pp)) s3
      | none => s3
    else match x.cal.restore with
      | some e => commitPage l false (fun p => { f p with exposure := e })
          (s.setSensor l fun y => { y with cal := { y.cal with restore := none } })
      | none => commitPage l false f s

/-! ### Policies (R58, R59, R146, R151) -/

/-- Hold of policy 4: the stale time stops, and a calibration frame is cancelled, or its estimates are discarded (R146, R151). -/
def holdCalibration (s : State) : State :=
  let s0 := { s with
    calHeldAt := s.now
    table := s.table.map fun e => e.map fun e => { e with calDiscard := e.ticket.calframe }
    sensors := s.sensors.map fun x => { x with calWaiting := x.calWaiting.map fun w => { w with discard := w.ticket.calframe } } }
  (List.range 4).foldl (fun s l =>
    let c := (at! s.sensors l).cal
    if c.state = 1 then cancelCal l s
    else if c.state = 2 then s.setSensor l fun x => { x with cal := { x.cal with discard := true } } else s) s0

/-- Release of policy 4: the stale time goes on from where it stopped, and that of a bit set during the hold begins (R146). -/
def releaseCalibration (s : State) : State :=
  { s with sensors := s.sensors.map fun x => { x with
      paused := (List.range 3).map fun j => x.paused.getD j 0 + (s.now - max s.calHeldAt (x.sinceAt.getD j 0)) } }

/-- PIPE.HOLD_POLICY and PIPE.RELEASE_POLICY (R59). -/
def setHold (op : Nat) (on : Bool) (d : Nat) (s : State) : State :=
  drawerCmd d op s fun c =>
    let id := c.w 0
    let m := c.w 4
    checked d c 8 [(decide (6 < id), 0), (decide ((if id ≤ 3 then 15 else 0) < m), 4)] s fun s =>
      if id ≤ 3 then
        let s1 := (maskBits 4 m).foldl (fun s p => s.setSensor p fun x => { x with holdNext := x.holdNext.set id on }) s
        done d [] s1
      else
        let was := s.holds.getD (id - 4) false
        let s1 := { s with holds := s.holds.set (id - 4) on }
        let s2 := if id = 4 ∧ on = true ∧ was = false then holdCalibration s1 else if id = 4 ∧ on = false ∧ was = true then releaseCalibration s1 else s1
        done d [] s2

/-- PIPE.GET_UNITS (Table 15-10): masks of the units in service. -/
def doPipeGetUnits (d : Nat) (s : State) : State :=
  drawerCmd d 0x0405 s fun c => checked d c 0 [] s fun s =>
    done d ((List.range 5).flatMap fun k =>
      le 4 (sumNat ((s.units.units.filter fun u => u.kind == k && u.st != .retired).map fun u => 2 ^ u.number))) s

/-! ### Tickets of decoded pictures and review-ring frames (R49, R23) -/

/-- The Shelf and plan whose graph a source feeds. -/
def sourceShelf (s : State) (mine : GraphSlot → Bool) : Option (Nat × Plan) :=
  (s.shelves.zipIdx.find? fun (x, _) => x.st == .active && (match x.plan with
    | some p => p.graph.any fun g => g.enable && mine g
    | none => false)).bind fun (x, k) => x.plan.map fun p => (k, p)

/-- The renditions shed on a plan's ports (R60): the largest count over its ports. -/
def State.planShed (s : State) (p : Plan) : Nat :=
  let worst := (p.portPlans.map PortPlan.lead).foldl (fun m l => max m (at! s.sensors l).shedNow) 0
  if s.therm.level = 3 then slotMask p.enabled
  else slotMask (p.shedOrder.take worst ++ p.enabled.filter fun k => (at! s.rend k).lost)

/-- A ticket for a picture that is complete in the Cellar (R49, R54, R55); the picture is taken by its caller. -/
def issueSource (src : SourceId) (mine : GraphSlot → Bool) (pic : SourcePicture) (s : State) : State :=
  match sourceShelf s mine with
  | none => s
  | some (k, p) =>
    let (s1, lost) := substituteAll s
    match s1.skipCause [] with
    | some cause => lost.foldl (fun s k => raise 113 k [] none s) <| raise 64 0 [0, pic.frame, cause] none (codeInputs p mine { frame := pic.frame, time := s1.reading } false (fun _ => 0) s1)
    | none =>
      let i := (s1.table.findIdx? (·.isNone)).getD 0
      let shed := s1.planShed p
      let (s2, switched) := bankSwitches p mine s1
      let take := if s2.therm.level == 3 then 0 else takeMask p mine pic.frame shed
      let t : Ticket := {
        frame := pic.frame, planGen := (s2.shelf k).gen, time := s2.reading, shelf := k, entry := i
        concealed := pic.concealed, shedMask := shed, takeMask := take }
      let e : Entry := {
        ticket := t, src := src, page := { bank := s2.rend.map (·.bank) }, closed := true, picture := some pic, clip := s2.liveClip
        pendingDest := (List.range 16).filter (bit take) }
      shedEvents p mine i shed <| lost.foldl (fun s k => raiseFor 113 k [] i s) <| switched.foldl (fun s k => raiseFor 106 k [] i s) (codeInputs p mine t false (fun _ => 0) { s2 with table := s2.table.set i (some e) })

/-- SOURCE_TICKET_ISSUE (R49); the safe loop issues none (R521). -/
def doSourceTicketIssue (src : SourceId) (s : State) : State :=
  if s.sys.stage ≠ 2 then s
  else match src with
  | .sensor _ => s
  | .decode e c =>
    let i := 32 * e + c
    match (at! s.ctxs i).shown with
    | [] => s
    | pic :: rest =>
      issueSource src (fun g => g.srcKind == 1 && g.srcId == i) pic { s with ctxs := upd s.ctxs i fun x => { x with shown := rest } }
  | .review r =>
    let v := at! s.reviews r
    match v.frames.find? fun f => decide (v.next ≤ f.frame) with
    | none => s
    | some pic =>
      issueSource src (fun g => g.srcKind == 2 && g.srcId == r) pic { s with reviews := upd s.reviews r fun x => { x with next := pic.frame + 1 } }

/-! ### The commands -/

def execPlanLoad (d : Nat) (image : PlanImage) (s : State) : Out := whenLive s (doPlanLoad d image)
def execPlanValidation (d : Nat) (s : State) : Out := whenLive s (doPlanValidation d)
def execPlanEdit (d : Nat) (image : PlanImage) (s : State) : Out := whenLive s (doPlanEdit d image)
def execPlanActivate (d : Nat) (s : State) : Out := whenLive s (doPlanActivate d)
def execPlanRelease (d : Nat) (s : State) : Out := whenLive s (doPlanRelease d)
def execPlanGetShelves (d : Nat) (s : State) : Out := whenLive s (doPlanGetShelves d)
def execPipeCommitPage (d : Nat) (s : State) : Out := whenLive s (doPipeCommitPage d)
def execSensorSetExposure (d : Nat) (s : State) : Out := whenLive s (doSensorSetExposure d)
def execFirmwarePageCommit (p : Nat) (out : PolicyOut) (s : State) : Out := whenLive s (doFirmwarePageCommit p out)
def execPipeHoldPolicy (d : Nat) (s : State) : Out := whenLive s (setHold 0x0402 true d)
def execPipeReleasePolicy (d : Nat) (s : State) : Out := whenLive s (setHold 0x0403 false d)
def execPipeGetUnits (d : Nat) (s : State) : Out := whenLive s (doPipeGetUnits d)
def execSourceTicketIssue (src : SourceId) (s : State) : Out := whenLive s (doSourceTicketIssue src)

end Sys2Proof.Machine
end

