-- ==== Sys2Proof/Machine/Transfer.lean ====
section
/-! DEFINITION. The transfer functions of the output encoder (07_colour_and_renditions.md R208), each computed as ST 2084, BT.2100 and
BT.709 define it, in fixed point of 80 fraction bits; the formulas are those of the standards that R208 names (PRESUMED, log 43). -/

namespace Sys2Proof.Machine

open Sys2Proof

/-- 1.0 in fixed point. -/
def fixOne : Nat := 2 ^ 80

/-- A product in fixed point. -/
def fixMul (a b : Nat) : Nat := a * b / fixOne

/-- The largest number below 2^w whose k-th power is at most n. -/
def rootBelow (k n : Nat) : Nat → Nat → Nat
  | 0, r => r
  | w + 1, r => rootBelow k n w (if (r + 2 ^ w) ^ k ≤ n then r + 2 ^ w else r)

/-- A square root in fixed point. -/
def fixSqrt (a : Nat) : Nat := rootBelow 2 (a * fixOne) 85 0

/-- The 2^n-th root in fixed point. -/
def fixRoot : Nat → Nat → Nat
  | 0, a => a
  | n + 1, a => fixRoot n (fixSqrt a)

/-- The power `e` in fixed point, by the binary digits of `e`, at most `w` of them. -/
def fixPow (a e : Nat) : Nat → Nat
  | 0 => fixOne
  | w + 1 =>
    let h := fixPow a (e / 2) w
    if e % 2 = 1 then fixMul (fixMul h h) a else fixMul h h

/-- The natural logarithm in fixed point, by ln x = 2^20 · ln(x^(2^-20)) and ln y ≈ 2(y − 1)/(y + 1) near 1. -/
def fixLn (a : Nat) : Int :=
  let y : Int := fixRoot 20 a
  2 ^ 21 * ((y - fixOne) * fixOne) / (y + fixOne)

/-- The inverse EOTF of ST 2084 on a linear value, 1.0 at 10,000 cd/m²: ((c1 + c2 L^m1) / (1 + c3 L^m1))^m2 with m1 = 1305/8192,
m2 = 2523/32, c1 = 107/128, c2 = 2413/128 and c3 = 2392/128. -/
def pqCurve (l : Nat) : Nat :=
  let p := fixPow (fixRoot 13 l) 1305 11
  let n := (107 * fixOne + 2413 * p) / 128
  let d := (128 * fixOne + 2392 * p) / 128
  fixPow (fixRoot 5 (n * fixOne / d)) 2523 12

/-- The HLG OETF of BT.2100: √(3L) up to 1/12, then a ln(12L − b) + c. -/
def hlgCurve (l : Nat) : Nat :=
  if 12 * l ≤ fixOne then fixSqrt (3 * l)
  else
    let v := fixLn (12 * l - 28466892 * fixOne / 100000000)
    (17883277 * v / 100000000 + (55991073 * fixOne / 100000000 : Nat)).toNat

/-- The OETF of BT.709: 4.5 L below 0.018, then 1.099 L^0.45 − 0.099. -/
def bt709Curve (l : Nat) : Nat :=
  if 1000 * l < 18 * fixOne then 9 * l / 2
  else
    -- L^(9/20) over a denominator of 2^90
    let r := rootBelow 20 (l ^ 9 * 2 ^ 1080) 91 0
    (1099 * (r / 1024) - 99 * fixOne) / 1000

/-- A transfer function (1 PQ, 2 HLG, 3 BT.709) of LUT-output code `v`, exact, in units of 2⁻¹⁸, rounded down. -/
def exactTransfer (tf v : Nat) : Nat :=
  let l := v * 2 ^ 62
  (match tf with
  | 1 => pqCurve l
  | 2 => hlgCurve l
  | _ => bt709Curve l) / 2 ^ 62

/-- What the device's table of 4,097 points gives: within 2 codes of the exact function at 16 bits, which is within 9 units of 2⁻¹⁸
of its floor or 10 above it, and free inside that (R208, log 43). -/
def transfer (tf v : Nat) : Nat :=
  if tf = 0 then v
  else
    let e := exactTransfer tf v
    min 262144 (max (e - 9) (min (Config.transfer tf v) (e + 10)))

end Sys2Proof.Machine
end

