-- ==== Sys2Proof/Machine/Colour.lean ====
section
/-! DEFINITION. The colour path and the rendition units: router, debayer, working space, scaler, curves, 3D LUT, encoder, and the
RENDITION commands (07_colour_and_renditions.md). -/

namespace Sys2Proof.Machine

open Sys2Proof

/-! ### The colour router (R188, R189) -/

/-- Rows of a frame that have left the front end, counted from row 0. -/
def Entry.emitted (e : Entry) : Nat := (e.groups.filter (·.st == .left)).foldl (fun m g => max m (g.firstRow + g.rows)) 0

/-- Row groups of a frame that hold image rows. -/
def colourGroups (p : PortProfile) (e : Entry) : List RowGroup := e.groups.filter fun g => decide (p.obRows < g.firstRow + g.rows)

/-- The next group of a frame for the colour path: it and the 4 rows after it have left the front end, or it has and the frame has
closed (R189, log 61). -/
def nextColour (p : PortProfile) (e : Entry) : Option RowGroup :=
  match (colourGroups p e)[e.colour.groups.length]? with
  | some g => if g.st = .left ∧ (e.closed = true ∨ min (g.firstRow + g.rows + 4) e.rowCount ≤ e.emitted) then some g else none
  | none => none

/-- The ready colour group with the nearest deadline (R189). -/
def pickColour (s : State) : Option (Nat × Entry × RowGroup) :=
  let l := s.live'.filterMap fun (i, e) =>
    if e.isSensor && e.ticket.takeMask != 0 then (nextColour (s.entryPort e).profile e).map fun g => (i, e, g) else none
  leastBy (fun (_, e, g) => [nearness (e.deadline (s.entryPort e).deadlines 2 g.index) s.reading, e.lead, g.firstRow]) l

/-- COLOUR_GROUP_DEAL (R189). -/
def doColourGroupDeal (pos : Nat) (s : State) : State :=
  match s.dealUnit 1 pos, s.csPos.getD pos (some default), pickColour s with
  | some u, none, some (i, e, g) =>
    let late := late48 (e.deadline (s.entryPort e).deadlines 2 g.index) s.reading
    let k : RowGroup := { index := g.index, firstRow := g.firstRow, rows := g.rows, last := g.last, trunc := g.trunc, st := .dealt, pos := pos, gen := s.units.gen 1 pos, late := late }
    let s1 := s.setEntry i fun x => { x with colour := { x.colour with
      groups := x.colour.groups ++ [k], late := if late then x.colour.late + 1 else x.colour.late } }
    { s1 with csPos := s1.csPos.set pos (some { entry := i, group := g.index, unit := u.number }) }
  | _, _, _ => s

/-! ### Debayer (R190 to R193) -/

/-- What a colour slice works on: the port's section, the rows that have left the front end, and the image area's bottom. -/
structure ColourIn where
  pp : PortPlan := default
  rows : List (Nat × List Tok) := []
  bottom : Nat := 0
  wb : List Nat := []
  deriving Inhabited

/-- The shaded sample of sensor row r, column c; none when it is poisoned or absent. -/
def ColourIn.s (f : ColourIn) (r c : Nat) : Option Nat :=
  match f.rows.find? (·.1 == r) with
  | some (_, l) => l[c]?.bind fun t => if t.poison then none else some t.v
  | none => none

/-- Coordinate x + d, when it lies in [lo, hi). -/
def shift? (x : Nat) (d : Int) (lo hi : Nat) : Option Nat :=
  let y := (x : Int) + d
  if (lo : Int) ≤ y ∧ y < hi then some y.toNat else none

/-- What stands at an offset from (r, c): outside the image area the mirrored position, and for a poisoned value the position
on the other side; none when that is poisoned or absent too (R190). -/
def ColourIn.near {α : Type} (f : ColourIn) (get : Nat → Nat → Option α) (r c : Nat) (dr dc : Int) : Option α :=
  let lo := f.pp.profile.obRows
  let w := f.pp.profile.width
  let y := shift? r dr lo f.bottom
  let x := shift? c dc 0 w
  match y.or (shift? r (-dr) lo f.bottom), x.or (shift? c (-dc) 0 w) with
  | some y', some x' => match get y' x' with
    | some v => some v
    | none => if y.isSome && x.isSome then (do get (← shift? r (-dr) lo f.bottom) (← shift? c (-dc) 0 w)) else none
  | _, _ => none

/-- A neighbouring sample as an integer. -/
def ColourIn.n (f : ColourIn) (r c : Nat) (dr dc : Int) : Option Int := (f.near f.s r c dr dc).map fun v => (v : Int)

/-- Colour of a site: 0 red, 1 green, 2 blue, 3 unfiltered. -/
def ColourIn.site (f : ColourIn) (r c : Nat) : Nat := bits f.pp.profile.cfaMap (2 * planeOf f.pp.profile r c) 2

/-- clamp18 of R192. -/
def clamp18 (v : Int) : Nat := (clampInt v 0 262143).toNat

/-- Green at a site and dir (R192). -/
def ColourIn.green (f : ColourIn) (r c : Nat) : Option (Nat × Nat) := do
  let x0 ← f.s r c
  if f.site r c = 1 then return (x0, 3)
  let x : Int := x0
  let l ← f.n r c 0 (-1)
  let rt ← f.n r c 0 1
  let u ← f.n r c (-1) 0
  let d ← f.n r c 1 0
  if f.pp.colour.debayer = 0 then return (clamp18 ((l + rt + u + d + 2) / 4), 3)
  let l2 ← f.n r c 0 (-2)
  let r2 ← f.n r c 0 2
  let u2 ← f.n r c (-2) 0
  let d2 ← f.n r c 2 0
  let gh : Int := (l - rt).natAbs + (2 * x - l2 - r2).natAbs
  let gv : Int := (u - d).natAbs + (2 * x - u2 - d2).natAbs
  let eh := (2 * (l + rt) + 2 * x - l2 - r2 + 2) / 4
  let ev := (2 * (u + d) + 2 * x - u2 - d2 + 2) / 4
  let t : Int := f.pp.colour.edT
  return (if gh + t < gv then (clamp18 eh, 1)
    else if gv + t < gh then (clamp18 ev, 2)
    else if f.pp.colour.debayer = 2 ∧ 0 < gh + gv then (clamp18 ((eh * gv + ev * gh + (gh + gv) / 2) / (gh + gv)), 0)
    else (clamp18 ((eh + ev + 1) / 2), 0))

/-- The colour difference D at a red or blue site (R192). -/
def ColourIn.diff (f : ColourIn) (r c : Nat) : Option Int := do
  let x ← f.s r c
  let g ← f.green r c
  return (x : Int) - g.1

/-- A neighbouring colour difference. -/
def ColourIn.dn (f : ColourIn) (r c : Nat) (dr dc : Int) : Option Int := f.near f.diff r c dr dc

/-- Red and blue at a site whose green is `g`, for DEBAYER 1 and 2. -/
def ColourIn.redBlue (f : ColourIn) (r c g : Nat) : Option (Nat × Nat) := do
  let x ← f.s r c
  if f.site r c = 1 then
    let h := clamp18 ((g : Int) + ((← f.dn r c 0 (-1)) + (← f.dn r c 0 1) + 1) / 2)
    let v := clamp18 ((g : Int) + ((← f.dn r c (-1) 0) + (← f.dn r c 1 0) + 1) / 2)
    let redRow := f.site r (c + 1) == 0 || (decide (0 < c) && f.site r (c - 1) == 0)
    return if redRow then (h, v) else (v, h)
  let o := clamp18 ((g : Int) + ((← f.dn r c (-1) (-1)) + (← f.dn r c (-1) 1) + (← f.dn r c 1 (-1)) + (← f.dn r c 1 1) + 2) / 4)
  return if f.site r c = 0 then (x, o) else (o, x)

/-- Red and blue at a site for DEBAYER 0. -/
def ColourIn.redBlue0 (f : ColourIn) (r c : Nat) : Option (Nat × Nat) := do
  let x ← f.s r c
  if f.site r c = 1 then
    let h := clamp18 (((← f.n r c 0 (-1)) + (← f.n r c 0 1) + 1) / 2)
    let v := clamp18 (((← f.n r c (-1) 0) + (← f.n r c 1 0) + 1) / 2)
    let redRow := f.site r (c + 1) == 0 || (decide (0 < c) && f.site r (c - 1) == 0)
    return if redRow then (h, v) else (v, h)
  let o := clamp18 (((← f.n r c (-1) (-1)) + (← f.n r c (-1) 1) + (← f.n r c 1 (-1)) + (← f.n r c 1 1) + 2) / 4)
  return if f.site r c = 0 then (x, o) else (o, x)

/-- The camera-native pixel with its auxiliary value (R192, R193). -/
def ColourIn.rgb (f : ColourIn) (r c : Nat) : Option (Nat × Nat × Nat × Nat) := do
  let x ← f.s r c
  let clip := if f.pp.colour.auxClip ≤ x then 4 else 0
  if f.pp.colour.debayer = 3 then return (x, x, x, 3 + clip)
  let (g, dir) ← f.green r c
  let (rd, bl) ← if f.pp.colour.debayer = 0 then f.redBlue0 r c else f.redBlue r c g
  return (rd, g, bl, (if f.site r c = 1 then 3 else dir) + clip)

/-! ### White balance and working space (R194, R195) -/

/-- Row `i` of a matrix of signed 3.14 coefficients with offsets: clamp(((acc + 2^(13+n)) >> (14+n)) + off) (R194). -/
def matrixRow (m off : List Int) (norm i : Nat) (c : List Int) : Int :=
  let acc := m.getD (3 * i) 0 * c.getD 0 0 + m.getD (3 * i + 1) 0 * c.getD 1 0 + m.getD (3 * i + 2) 0 * c.getD 2 0
  clampInt ((acc + 2 ^ (13 + norm)) / 2 ^ (14 + norm) + off.getD i 0) (-131072) 131071

/-- One white-balanced component (R194). -/
def balanced (v wb : Nat) : Int := min ((v * wb + 8192) / 16384) 4194303

/-- The working-space pixel (R190, R194). -/
def ColourIn.px (f : ColourIn) (r c : Nat) (bad : Bool) : Px :=
  match f.rgb r c with
  | none => { poison := true }
  | some (rd, g, b, aux) =>
    let cam := [balanced rd (f.wb.getD 0 0), balanced g (f.wb.getD 1 0), balanced b (f.wb.getD 2 0)]
    let k := f.pp.colour
    let row := fun i => matrixRow k.m k.off k.norm i cam
    { c0 := row 0, c1 := row 1, c2 := row 2, aux := aux, poison := bad }

/-- The rows that a dealt group of the colour path reads have all left the front end (R190). -/
def Entry.colourInput (e : Entry) (g : RowGroup) : Bool := decide (min (g.firstRow + g.rows + 4) e.rowCount ≤ e.emitted)

/-- COLOUR_GROUP_LEAVE (R189): the next group leaves in FIRST_ROW order, and the colour path may be done with the frame. -/
def doColourGroupLeave (i : Nat) (s : State) : State :=
  match s.entry? i with
  | none => s
  | some e =>
    match e.colour.groups.find? (fun g => g.st == .dealt && e.colourInput g) with
    | none => s
    | some g =>
      let pp := s.entryPort e
      let ob := pp.profile.obRows
      let f : ColourIn := { pp := pp, rows := (e.groups.filter (·.st == .left)).flatMap (·.out), bottom := e.rowCount, wb := e.page.wb }
      let w := pp.profile.width
      let first := max g.firstRow ob
      let rows := (List.range (g.firstRow + g.rows - first)).map fun n =>
        let r := first + n
        (r - ob, (List.range w).map fun c => f.px r c (g.bad.contains ((r - g.firstRow) * w + c)))
      let fin := decide ((colourGroups pp.profile e).length ≤ g.index + 1 - ((colourGroups pp.profile e).headD default).index)
      let s1 := s.setEntry i fun x => { x with colour := { x.colour with
        groups := x.colour.groups.map fun k => if k.index == g.index then { k with st := .left } else k
        rows := x.colour.rows ++ rows, finished := fin
        lefts := x.colour.lefts ++ [(g.firstRow + g.rows - ob, ((s.reading : Int) - e.shift).toNat)] } }
      let s2 := { s1 with csPos := s1.csPos.map fun j => if j.any (fun j => j.entry == i && j.group == g.index) then none else j }
      -- the optical-black rows of a group have no tokens here
      let skip := (first - g.firstRow) * w
      let upset : List (Nat × Nat) := g.upset.filterMap fun x =>
        if x.1 = 0 then some x else if skip < x.1 then some (x.1 - skip, x.2) else none
      let s2 := match (s.csPos.find? fun j => j.any fun j => j.entry == i && j.group == g.index).bind id with
        | some j => captureStep 2 j.unit e.ticket.frame g.index
            (groupTokens e { g with upset := upset } (rows.flatMap fun r => r.2.map fun p => (p.poison, [ofInt 18 p.c0, ofInt 18 p.c1, ofInt 18 p.c2, p.aux]))) s2
        | none => s2
      if fin then
        let s3 := if e.colour.late = 0 then s2 else raiseFor 109 e.lead [e.colour.late] i s2
        endClass i 2 s3
      else s2

/-! ### Decoded and review pictures (R196) -/

/-- Luma constants times 10,000 of a matrix code, and the chroma divisors: Kr, Kg, Kb, Cb, Cr (R208). -/
def yccConst (ycc : Nat) : Nat × Nat × Nat × Nat × Nat := if ycc = 1 then (2126, 7152, 722, 18556, 15748) else (2627, 6780, 593, 18814, 14746)

/-- One pixel of an encoded picture in working codes, with 4,096 representing 1.0 (R196). -/
def undoPixel (ycc : Nat) (full : Bool) (n d0 d1 d2 : Nat) : Px :=
  let s : Int := 2 ^ (n - 8)
  let m : Int := 2 ^ n - 1
  -- luma and chroma numerators over a common denominator
  let y := fun (d : Nat) => if full then (d : Int) * 1 else ((d : Int) - 16 * s) * 224
  let c := fun (d : Nat) => if full then (d : Int) - 2 ^ (n - 1) else ((d : Int) - 128 * s) * 219
  let den : Nat := (if full then m else 219 * 224 * s).toNat
  if ycc = 0 then
    { c0 := Config.workingRound (4096 * y d0) den, c1 := Config.workingRound (4096 * y d1) den, c2 := Config.workingRound (4096 * y d2) den, aux := 3 }
  else
    let (kr, kg, kb, cb, cr) := yccConst ycc
    let r := 10000 * y d0 + cr * c d2
    let b := 10000 * y d0 + cb * c d1
    let g := 100000000 * y d0 - kr * r - kb * b
    { c0 := Config.workingRound (4096 * r) (10000 * den), c1 := Config.workingRound (4096 * g) (kg * 10000 * den)
      c2 := Config.workingRound (4096 * b) (10000 * den), aux := 3 }

/-- A source picture's pixels in working codes; each chroma sample serves the pixels it covers (R196). -/
def pictureRow (p : SourcePicture) (y : Nat) : List Px :=
  let cw := if p.sub = 0 then p.width else p.width / 2
  (List.range p.width).map fun x =>
    let cx := if p.sub = 0 then x else x / 2
    let cy := if p.sub = 2 then y / 2 else y
    let at' := fun (k i : Nat) => (p.planes.getD k []).getD i 0
    undoPixel p.ycc p.fullRange p.bits (at' 0 (y * p.width + x)) (at' 1 (cy * cw + cx)) (at' 2 (cy * cw + cx))

/-! ### Crop and scaler (R200, R201, R213) -/

/-- Source position of output index `i` of an axis: ip and phase (R201). -/
def scalePos (inn out i : Nat) : Int × Nat :=
  let step := (inn * 65536 + out / 2) / max 1 out
  let pos : Int := i * step + step / 2 - 32768
  let p6 := (pos + 512) / 1024
  (p6 / 64, (p6 % 64).toNat)

/-- One tap sum over a component, limited to `lim` (R201). -/
def tapSum (coef : List Int) (ph : Nat) (v : Nat → Int) (lim : Int) : Int :=
  clampInt (((List.range 8).foldl (fun a t => a + coef.getD (8 * ph + t) 0 * v t) 0 + 2048) / 4096) (-lim) (lim - 1)

/-- One output pixel of an axis from a reader of source pixels at crop positions 0 to `last`, repeated at the edges (R201). -/
def scalePx (coef : List Int) (inn out last i : Nat) (lim : Int) (p : Nat → Px) : Px :=
  let (ip, ph) := scalePos inn out i
  let pos := fun (k : Int) => (clampInt k 0 last).toNat
  let tap := fun (t : Nat) => p (pos (ip - 3 + t))
  let a := p (pos (if ph < 32 then ip else ip + 1))
  { c0 := tapSum coef ph (fun t => (tap t).c0) lim, c1 := tapSum coef ph (fun t => (tap t).c1) lim, c2 := tapSum coef ph (fun t => (tap t).c2) lim
    aux := a.aux, poison := (List.range 8).any fun t => coef.getD (8 * ph + t) 0 != 0 && (tap t).poison }

/-- The scaled picture: one list of pixels per output line, `none` for a line that R213 fills. `row` reads a source row of the
crop, `last` is the last crop row that exists. -/
def scaleFrame (g : GraphSlot) (c : RenditionSec) (last : Option Nat) (row : Nat → List Px) : List (Option (List Px)) :=
  match last with
  | none => List.replicate g.outH none
  | some last =>
    let h := (List.range (last + 1)).map fun y =>
      let src := (row y).drop g.cropX
      (List.range g.outW).map fun i => scalePx c.hcoef g.cropW g.outW (g.cropW - 1) i 524288 fun x => at! src x
    (List.range g.outH).map fun j =>
      if (last : Int) < (scalePos g.cropH g.outH j).1 then none
      else some ((List.range g.outW).map fun i => scalePx c.vcoef g.cropH g.outH last j 131072 fun y => at! (at! h y) i)

/-! ### Rendition matrix, curves and LUT (R204 to R207, R212) -/

/-- Entry `i` of an identity curve (R212): twice the working code at which it stands. -/
def identityCurve (i : Nat) : Nat :=
  if i < 256 then 16 * i
  else
    let e := 11 + (i - 256) / 640
    let t := (i - 256) % 640
    let n := 2 * (2 ^ e * 640 + t * 2 ^ e)
    min 262143 (if n % 640 = 0 then n / 640 else n / 640 + b2n (Config.identityUp i))

/-- Entry `i` of component `k`'s curve of a bank. -/
def RendBank.curve (b : RendBank) (k i : Nat) : Nat := match b.curves with
  | some l => l.getD (4096 * k + i) 0
  | none => identityCurve i

/-- A tone curve on a working code (R205). -/
def toneCurve (e : Nat → Nat) (x : Int) : Nat :=
  let v := x.toNat
  let (i, f) := if v < 2048 then (v / 8, v % 8 * 512)
    else
      let k := v.log2
      let t := (v - 2 ^ k) * 640
      (256 + 640 * (k - 11) + t / 2 ^ k, t % 2 ^ k * 4096 / 2 ^ k)
  let a : Int := e i
  let b : Int := e (min (i + 1) 4095)
  (a + ((b - a) * f + 2048) / 4096).toNat

/-- A node of a bank's LUT: the three outputs (R206, R212). -/
def RendBank.node (b : RendBank) (r g bl : Nat) : Nat × Nat × Nat := match b.lut with
  | some l =>
    let w := l.getD (r + 65 * g + 4225 * bl) 0
    (bits w 0 18, bits w 18 18, bits w 36 18)
  | none => (let n := fun i => (i * 262143 + 32) / 64; (n r, n g, n bl))

/-- The tetrahedron of fractions: f1, f2, f3, and the corners V1 and V2 (Table 7-5). -/
def tetrahedron (fr fg fb : Nat) : (Nat × Nat × Nat) × (Nat × Nat × Nat) × (Nat × Nat × Nat) :=
  if fg ≤ fr ∧ fb ≤ fg then ((fr, fg, fb), (1, 0, 0), (1, 1, 0))
  else if fb ≤ fr ∧ fg < fb then ((fr, fb, fg), (1, 0, 0), (1, 0, 1))
  else if fr < fb ∧ fg ≤ fr then ((fb, fr, fg), (0, 0, 1), (1, 0, 1))
  else if fr < fg ∧ fb ≤ fr then ((fg, fr, fb), (0, 1, 0), (1, 1, 0))
  else if fb ≤ fg ∧ fr < fb then ((fg, fb, fr), (0, 1, 0), (0, 1, 1))
  else ((fb, fg, fr), (0, 0, 1), (0, 1, 1))

/-- The 3D LUT on three curve outputs (R207). -/
def RendBank.look (b : RendBank) (yr yg yb : Nat) : Nat × Nat × Nat :=
  let ix := fun v => v * 64 / 262144
  let fr := fun v => v * 64 % 262144 / 64
  let ((f1, f2, f3), v1, v2) := tetrahedron (fr yr) (fr yg) (fr yb)
  let n := fun (o : Nat × Nat × Nat) => b.node (ix yr + o.1) (ix yg + o.2.1) (ix yb + o.2.2)
  let c0 := n (0, 0, 0)
  let a := n v1
  let c := n v2
  let c3 := n (1, 1, 1)
  let mix := fun (p q r s : Nat) => ((4096 - f1) * p + (f1 - f2) * q + (f2 - f3) * r + f3 * s + 2048) / 4096
  (mix c0.1 a.1 c.1 c3.1, mix c0.2.1 a.2.1 c.2.1 c3.2.1, mix c0.2.2 a.2.2 c.2.2 c3.2.2)

/-- One scaled pixel through matrix, curves and LUT, or the fill values (R204 to R208). -/
def gradePx (g : GraphSlot) (c : RenditionSec) (b : RendBank) (p : Option Px) : Nat × Nat × Nat :=
  match p with
  | none => (g.fill.getD 0 0, g.fill.getD 1 0, g.fill.getD 2 0)
  | some p =>
    if p.poison then (g.fill.getD 0 0, g.fill.getD 1 0, g.fill.getD 2 0)
    else
      let v := [p.c0, p.c1, p.c2]
      let y := fun k => toneCurve (b.curve k) (matrixRow c.m c.off 0 k v)
      b.look (y 0) (y 1) (y 2)

/-! ### Output encoding (R208) -/

/-- round(num / den), halves away from zero. -/
def roundAway (num : Int) (den : Nat) : Int :=
  if 0 ≤ num then (2 * num + den) / (2 * (max 1 den : Nat)) else -((-(2 * num) + den) / (2 * (max 1 den : Nat)))

/-- Bits per component of a slot (Table 7-2). -/
def slotBits (b : Nat) : Nat := if b = 0 then 10 else if b = 1 then 12 else 16

/-- Quantisation to n bits of the value num / den (R208 step 5). -/
def quantCode (n : Nat) (full chroma : Bool) (num : Int) (den : Nat) : Nat :=
  let s : Int := 2 ^ (n - 8)
  let d := if full then (if chroma then roundAway ((2 ^ n - 1) * num + 2 ^ (n - 1) * den) den else roundAway ((2 ^ n - 1) * num) den)
    else if chroma then roundAway ((224 * num + 128 * den) * s) den else roundAway ((219 * num + 16 * den) * s) den
  let lo : Int := if full then 0 else if n = 10 then 4 else if n = 12 then 16 else 256
  let hi : Int := if full then 2 ^ n - 1 else if n = 10 then 1019 else if n = 12 then 4079 else 65279
  (clampInt d lo hi).toNat

/-- Y′, Cb and Cr of a pixel in units of 2⁻¹⁸ (R208 step 3), from components in the same units; matrix coefficients are multiples
of 2⁻¹⁶. -/
def toYcc (ycc : Nat) (r g b : Nat) : Int × Int × Int :=
  let (kr, kg, kb, cb, cr) := yccConst ycc
  let k := fun (num : Int) (den : Nat) => roundAway (num * 65536) den
  let sum := fun (x y z : Int) => Config.keep18 (x * r + y * g + z * b)
  (sum (k kr 10000) (k kg 10000) (k kb 10000),
   sum (k (-(kr : Int)) cb) (k (-(kg : Int)) cb) (k (10000 - kb) cb),
   sum (k (10000 - kr) cr) (k (-(kg : Int)) cr) (k (-(kb : Int)) cr))

/-- Element `i` of a row of chroma values, repeated at the edges. -/
def edgeAt (l : List Int) (i : Int) : Int := l.getD (clampInt i 0 (l.length - 1)).toNat 0

/-- A chroma plane after subsampling: rows, and the denominator that its values share beyond 2⁻¹⁸ (R208 step 4). -/
def subsample (sub : Nat) (rows : List (List Int)) : List (List Int) × Nat :=
  if sub = 0 then (rows, 1)
  else
    let h : List (List Int) := rows.map fun (l : List Int) => (List.range (l.length / 2)).map fun (i : Nat) =>
      edgeAt l (2 * (i : Int) - 1) + 2 * edgeAt l (2 * (i : Int)) + edgeAt l (2 * (i : Int) + 1)
    if sub = 1 then (h, 4)
    else ((List.range (h.length / 2)).map fun (j : Nat) => (at! h (2 * j)).zipWith (· + ·) (at! h (2 * j + 1)), 8)

/-- The encoded planes of a graded picture (R208). -/
def encodePlanes (g : GraphSlot) (rows : List (List (Nat × Nat × Nat))) : List (List Nat) :=
  let n := slotBits g.bits
  let tf := transfer g.tf
  if g.ycc = 0 then
    let plane := fun (f : Nat × Nat × Nat → Nat) => rows.flatMap fun l => l.map fun p => quantCode n g.fullRange false (tf (f p)) 262144
    [plane (·.1), plane (·.2.1), plane (·.2.2)]
  else
    let y := rows.map fun l => l.map fun (a, b, c) => toYcc g.ycc (tf a) (tf b) (tf c)
    let chroma := fun (f : Int × Int × Int → Int) =>
      let (p, d) := subsample g.sub (y.map fun l => l.map f)
      p.flatMap fun l => l.map fun v => quantCode n g.fullRange true v (262144 * d)
    [y.flatMap fun l => l.map fun v => quantCode n g.fullRange false v.1 262144, chroma (·.2.1), chroma (·.2.2)]

/-- The output rows of a sensor frame that pass their deadline for certain, since the source row they need last had not left the
colour path by then, and those that may, since the frame completes after it (R57, R216). The spec gives a picture of another source
no schedule: any of its rows may (log 61). -/
def lateRows (s : State) (g : GraphSlot) (e : Entry) : Nat × Nat :=
  if !e.isSensor then (0, g.outH)
  else
    let pp := s.entryPort e
    let rows := (List.range g.outH).map fun j =>
      let r := g.cropY + (clampInt ((scalePos g.cropH g.outH j).1 + 4) 0 (g.cropH - 1)).toNat
      let dl := fun (x : Entry) => x.deadline pp.deadlines 3 ((pp.profile.obRows + r) / max 1 pp.profile.groupRows)
      (e.colour.lefts.any fun t => decide (r < t.1) && late48 (dl { e with shift := 0 }) t.2 &&
          e.colour.lefts.all fun u => !decide (r < u.1) || decide (t.1 ≤ u.1), late48 (dl e) s.reading)
    ((rows.filter fun x => x.1 && x.2).length, (rows.filter (·.2)).length)

/-- The bank content that a frame renders with (R209): a KEEP copy since its ticket has not changed it (R211). -/
def bankOf (s : State) (slot e : Nat) (x : Entry) : RendBank :=
  let r := at! s.rend slot
  match r.kept.find? (·.1 == e) with
  | some k => k.2
  | none => at! r.banks (x.page.bank.getD slot 0)

/-- What a slot renders from the frame of entry `i`: the encoded frame, filled lines and poisoned output pixels (R208, R213). -/
def renderSlot (s : State) (slot i : Nat) (e : Entry) : RendFrame × Nat × Nat :=
  let pl := s.entryPlan e
  let g := pl.graph.getD slot default
  let c := pl.units.getD slot default
  let bank := bankOf s slot i e
  let pp := (s.entryPort e).profile
  let (last, row) : Option Nat × (Nat → List Px) := match e.picture with
    | some p => (some (g.cropH - 1), fun y => pictureRow p (g.cropY + y))
    | none =>
      let n := e.rowCount - pp.obRows
      (if n ≤ g.cropY then none else some (min (g.cropH - 1) (n - 1 - g.cropY)),
        fun y => ((e.colour.rows.find? (·.1 == g.cropY + y)).map (·.2)).getD [])
  let lines := scaleFrame g c last row
  let filled := (lines.filter (·.isNone)).length
  let bad := sumNat (lines.map fun l => ((l.getD []).filter (·.poison)).length)
  let graded := lines.map fun l => match l with
    | some l => l.map fun p => gradePx g c bank (some p)
    | none => List.replicate g.outW (gradePx g c bank none)
  ({ slot := slot, ticket := e.ticket, width := g.outW, height := g.outH, sub := g.sub, bits := slotBits g.bits, ycc := g.ycc
     fullRange := g.fullRange, tf := g.tf, planes := encodePlanes g graded, filled := filled != 0, poisoned := bad != 0, doneTime := s.reading },
   filled, bad)

/-! ### RENDITION commands (R209 to R211) -/

/-- Change slot `k`. -/
def State.setRend (s : State) (k : Nat) (f : RendSlot → RendSlot) : State := { s with rend := upd s.rend k f }

/-- A ticket in the table still selects bank `b` for slot `k` (R210). -/
def bankSelected (s : State) (k b : Nat) : Bool := s.live'.any fun (_, e) => e.page.bank.getD k 0 == b

/-- RENDITION.SET_LUT and SET_CURVES (R210): `need` bytes, a check of the data, what it stores, and the event. -/
def loadBank (op need ev : Nat) (ok : Bytes → Bool) (bad : RendBank → RendBank) (put : Bytes → RendBank → RendBank) (d : Nat) (s : State) : State :=
  drawerCmd d op s fun c =>
    let k := c.w 0
    checked d c 24 [(decide (15 < k), 0), (decide (c.q 16 < need), 16)] s fun s =>
      let r := at! s.rend k
      let b := 1 - r.bank
      if !s.covered (c.q 8) (c.q 16) false then fail d Status.notPermitted s
      else if r.switchAt.isSome || bankSelected s k b then fail d Status.busy s
      else
        let data := s.hostRead (c.q 8) need
        if ok data then raise ev k [] none (done d [] (s.setRend k fun r => { r with banks := upd r.banks b (put data) }))
        else postResult d Status.invalidField noDetail [] (s.setRend k fun r => { r with banks := upd r.banks b bad })

/-- The 72-bit words of a LUT. -/
def lutWords (b : Bytes) : List Nat := (List.range 274625).map fun i => fieldLe b (9 * i) 9

/-- The 32-bit entries of three curves. -/
def curveWords (b : Bytes) : List Nat := (List.range 12288).map fun i => fieldLe b (4 * i) 4

/-- RENDITION.SET_LUT. -/
def doRenditionSetLut : Nat → State → State :=
  loadBank 0x0501 2471625 104 (fun b => (lutWords b).all fun w => decide (w < 2 ^ 54)) (fun k => { k with lutLoaded := false })
    (fun b k => { k with lut := some (lutWords b), lutLoaded := true })

/-- RENDITION.SET_CURVES. -/
def doRenditionSetCurves : Nat → State → State :=
  loadBank 0x0502 49152 105 (fun b => (curveWords b).all fun w => decide (w < 2 ^ 18)) (fun k => { k with curvesLoaded := false })
    (fun b k => { k with curves := some (curveWords b), curvesLoaded := true })

/-- Number of the next frame of the source that feeds slot `k` (R211). -/
def State.nextSourceFrame (s : State) (k : Nat) : Nat :=
  match s.activePlans.find? fun p => (p.graph.getD k default).enable with
  | none => 0
  | some p =>
    let g := p.graph.getD k default
    if g.srcKind = 0 then (at! s.sensors g.srcId).nextFrame
    else if g.srcKind = 1 then (let c := at! s.ctxs g.srcId; c.outCount - c.shown.length)
    else (at! s.reviews g.srcId).next

/-- RENDITION.SWITCH_BANK (R211). Where a KEEP flag copies into a bank that a ticket still selects, that ticket's frame keeps the content
it selected (R209). -/
def doRenditionSwitchBank (d : Nat) (s : State) : State :=
  drawerCmd d 0x0503 s fun c =>
    let k := c.w 0
    let keepL := c.w 4
    let keepC := c.w 8
    checked d c 12 [(decide (15 < k), 0), (decide (1 < keepL), 4), (decide (1 < keepC), 8)] s fun s =>
      let r := at! s.rend k
      let b := 1 - r.bank
      let other := at! r.banks b
      let act := at! r.banks r.bank
      if r.switchAt.isSome then fail d Status.busy s
      else if (keepL = 0 ∧ other.lutLoaded = false) ∨ (keepC = 0 ∧ other.curvesLoaded = false) then fail d Status.notPermitted s
      else
        let n := s.nextSourceFrame k
        let s1 := s.setRend k fun r => { r with
          switchAt := some n
          kept := if keepL = 1 ∨ keepC = 1 then
              r.kept ++ ((s.live'.filter fun (i, e) => e.page.bank.getD k 0 == b && !(r.kept.any (·.1 == i))).map fun (i, _) => (i, other))
            else r.kept
          banks := upd r.banks b fun x => { x with
            lut := if keepL = 1 then act.lut else x.lut, curves := if keepC = 1 then act.curves else x.curves } }
        done d (le 4 n) s1

/-! ### The commands -/

def execColourGroupDeal (pos : Nat) (s : State) : Out := whenLive s (doColourGroupDeal pos)
def execColourGroupLeave (e : Nat) (s : State) : Out := whenLive s (doColourGroupLeave e)
def execRenditionSetLut (d : Nat) (s : State) : Out := whenLive s (doRenditionSetLut d)
def execRenditionSetCurves (d : Nat) (s : State) : Out := whenLive s (doRenditionSetCurves d)
def execRenditionSwitchBank (d : Nat) (s : State) : Out := whenLive s (doRenditionSwitchBank d)

end Sys2Proof.Machine
end

