-- ==== Sys2Proof/Machine/Hevc.lean ====
section
/-! DEFINITION. The HEVC engines' arithmetic: NAL units and access units, mini-GOPs, the shot-change score, rate control, SEI, and
concealment (08_video_coding.md R231 to R250). -/

namespace Sys2Proof.Machine

open Sys2Proof

/-! ### Annex B byte streams (R244, R245) -/

/-- Offsets just after each start code; `i` counts bytes and `z` the zero bytes just before. -/
def nalStarts : Bytes → Nat → Nat → List Nat
  | [], _, _ => []
  | b :: r, i, z =>
    if 2 ≤ z ∧ b = 1 then (i + 1) :: nalStarts r (i + 1) 0 else nalStarts r (i + 1) (if b = 0 then z + 1 else 0)

/-- nal_unit_type and nuh_layer_id of the NAL unit at `o`. -/
def nalType (bs : Bytes) (o : Nat) : Nat := bits (bs.getD o 0).toNat 1 6
def nalLayer (bs : Bytes) (o : Nat) : Nat := bits (bs.getD o 0).toNat 0 1 * 32 + bits (bs.getD (o + 1) 0).toNat 3 5

/-- Where the start code of the NAL unit at `o` begins. -/
def codeStart (bs : Bytes) (o : Nat) : Nat := if 4 ≤ o ∧ bs.getD (o - 4) 1 = 0 then o - 4 else o - 3

/-- A NAL unit of the base layer begins an access unit once a slice has been seen (H.265 7.4.2.4.4; PRESUMED, log 45). -/
def beginsUnit (bs : Bytes) (o : Nat) : Bool :=
  let t := nalType bs o
  if t < 32 then (bs.getD (o + 2) 0).getLsbD 7
  else (within t 32 35 || t == 39 || within t 41 44 || within t 48 55)

/-- End of the first access unit that lies wholly in the bytes (R230). -/
def unitEnd (bs : Bytes) : List Nat → Bool → Option Nat
  | [], _ => none
  | o :: r, seen =>
    let t := nalType bs o
    if bs.length < o + 3 ∧ ¬(t = 36 ∨ t = 37) then none
    else if nalLayer bs o ≠ 0 then unitEnd bs r seen
    else if seen ∧ beginsUnit bs o = true then some (codeStart bs o)
    else if seen ∧ (t = 36 ∨ t = 37) ∧ o + 2 ≤ bs.length then some (o + 2)
    else unitEnd bs r (seen || decide (t < 32))

/-- The NAL units of an access unit that pass a test, with their start codes. -/
def nalsWhere (bs : Bytes) (keep : Nat → Bool) : Bytes :=
  let st := nalStarts bs 0 0
  st.zipIdx.flatMap fun (o, i) =>
    let stop := match st[i + 1]? with
      | some n => codeStart bs n
      | none => bs.length
    if keep o then (bs.drop (codeStart bs o)).take (stop - codeStart bs o) else []

/-- The base-layer NAL units of an access unit (R245). -/
def baseLayer (bs : Bytes) : Bytes := nalsWhere bs fun o => nalLayer bs o == 0

/-- Its parameter sets. -/
def paramSets (bs : Bytes) : Bytes := nalsWhere bs fun o => within (nalType bs o) 32 34

/-- It ends a sequence. -/
def endsSequence (bs : Bytes) : Bool := (nalStarts bs 0 0).any fun o => nalType bs o == 36 || nalType bs o == 37

/-- Emulation prevention: a byte of at most 3 after two zero bytes is preceded by 3 (H.265 7.4.2; PRESUMED, log 45). -/
def emulation : Bytes → Nat → Bytes
  | [], _ => []
  | b :: r, z =>
    if 2 ≤ z ∧ b.toNat ≤ 3 then 3 :: b :: emulation r (if b = 0 then 1 else 0) else b :: emulation r (if b = 0 then z + 1 else 0)

/-- UUID of the ticket SEI message (R232). -/
def ticketUuid : Bytes := (le 16 0x436165726E654D393632344845564331).reverse

/-- The prefix SEI NAL unit that carries a frame ticket, after its header (R232). -/
def ticketSei (ticket : Bytes) : Bytes := emulation ([5, 48] ++ ticketUuid ++ ticket ++ [0x80]) 0

/-! ### What an encode context writes (R218, R219, R226, R231, R236, R239, R241) -/

/-- HRD parameters (R241); none in constant-QP mode (R243). -/
def hrdOf (h : HevcEntry) : Option HrdParams :=
  if h.rcMode = 2 then none
  else some { bitRate := if h.rcMode = 1 then h.maxBitrate else h.bitrate, cpbBits := 16 * h.wB, cbr := h.rcMode == 0 }

/-- Initial CPB removal delay in ticks of 90 kHz: WIN pictures (R241). -/
def removalDelay (h : HevcEntry) : Nat := 90000 * h.win * h.fpsDen / max 1 h.fpsNum

/-- What the parameter sets of a context state (Tables 8-1 and 8-2). -/
def streamParams (h : HevcEntry) : StreamParams :=
  { profile := [1, 2, 4, 4, 4].getD h.profile 0, highTier := h.highTier, level := h.level, chroma := 3 - h.sub, depth := [8, 10, 12].getD h.bits 8
    width := h.width, height := h.height, ctu := 64, minCu := 8, minTu := 4, maxTu := 32
    tools := [.amp, .temporalMv, .deblocking, .sao, .signHiding, .transformSkip4, .defaultScalingLists] ++
      (if h.tileCols + h.tileRows = 0 then [] else [.uniformTiles]) ++ (if h.wpp then [.wavefront] else []) ++
      (if h.ltrMax = 0 then [] else [.longTermRefs])
    tileCols := h.tileCols + 1, tileRows := h.tileRows + 1, slices := h.slices, layers := h.mgop.log2 + 1, mvX := 2048, mvY := 512, hrd := hrdOf h }

/-- The merge index of a skip CTU in floor form (R239): the zero-motion candidate of reference index 0, or index 0 where the list holds
none. A candidate is one if each list that it uses has reference index 0 and no motion. -/
def floorMerge (l : List (Option (Nat × Int × Int) × Option (Nat × Int × Int))) : Nat :=
  let still := fun (x : Option (Nat × Int × Int)) => x == none || x == some (0, 0, 0)
  (l.findIdx? fun c => still c.1 && still c.2 && (c.1.isSome || c.2.isSome)).getD 0

/-- CTU `c` of the picture of free choice `n` in floor form (R239); intra mode 1 is DC. -/
def floorCtu (n type c : Nat) : FloorCtu :=
  if type = 0 then .intra 1 51 ((Config.dcCoefficients n c).map fun v => clampInt v (-1) 1)
  else .skip (floorMerge (Config.mergeCandidates n c)) false

/-- nal_unit_type of a slice (H.265 Table 7-1; PRESUMED, log 45): IDR_W_RADL, CRA_NUT, or one of the types of a trailing picture. -/
def sliceNal (n : Nat) (irap idr : Bool) : Nat := if irap then (if idr then 19 else 21) else Config.freeBits 3 n % 6

/-- nal_unit_type of a NAL unit (H.265 Table 7-1; PRESUMED, log 45). -/
def nalTypeOf : CodedNal → Nat
  | .vps _ => 32
  | .sps _ => 33
  | .pps _ => 34
  | .hashSei _ => 40
  | .slice x => x.nal
  | .endOfSequence => 36
  | _ => 39

/-- One NAL unit in the byte stream format: start code, header and payload (R231, H.265 Annex B; PRESUMED, log 45). -/
def annexB (first : Bool) (type layer : Nat) (payload : Bytes) : Bytes :=
  (if first || within type 32 34 then [0, 0, 0, 1] else [0, 0, 1]) ++ le 1 (2 * type) ++ le 1 (layer + 1) ++ payload

/-- The end-of-sequence NAL unit (R226). -/
def eosNal : Bytes := annexB true 36 0 []

/-- The NAL units of an access unit before and after its slices (R219, R231, R232, R241). -/
def headNals (h : HevcEntry) (irap : Bool) (ticket : Bytes) : List CodedNal :=
  let p := streamParams h
  (if irap then [.vps p, .sps p, .pps p, .activeParams] else []) ++
  (if p.hrd.isSome then (if irap then [.bufferingPeriod (removalDelay h)] else []) ++ [.picTiming] else []) ++
  (if h.ticketSei then [.ticketSei ticket] else [])

/-- Payload bytes of a NAL unit: `cap` bounds those whose coding is not fixed, so that a picture's headers keep to F_HDR (R239). -/
def payloadOf (n cap : Nat) : CodedNal → Bytes
  | .ticketSei t => ticketSei t
  | .endOfSequence => []
  | x => (Config.nalPayload n x).take cap

/-- The bytes of an access unit (R231): its NAL units in order, `used` bytes of slice data shared freely among the slices. -/
def unitBytes (n used cap : Nat) (first : Bool) : List CodedNal → Nat → Bytes
  | [], _ => []
  | x :: r, done =>
    let layer := match x with
      | .slice y => y.layer
      | _ => 0
    let share := match x with
      | .slice _ => if r.any (fun y => nalTypeOf y < 32) then min (used - done) (Config.freeBits 32 (n + r.length)) else used - done
      | _ => 0
    annexB first (nalTypeOf x) layer (payloadOf n cap x ++ padTo share ((Config.sliceData n).drop done)) ++ unitBytes n used cap false r (done + share)

/-! ### Shot changes (R237) -/

/-- The score S of two lists of green zone means. -/
def shotScore (mn mp : List Nat) : Nat :=
  let num := sumNat (mn.zipWith (fun a b => max a b - min a b) mp)
  let den := sumNat (mn.zipWith max mp)
  if den = 0 then 0 else min (num * 65536 / den) 65535

/-- A frame is a shot change after the previous taken frame. -/
def isShot (e : HevcEntry) (prev : List Nat) (i : CodeInput) : Bool :=
  e.shotPin && !i.missing && !i.zones.isEmpty && !prev.isEmpty && decide (e.shotT ≤ shotScore i.zones prev)

/-- A held long-term reference matches the frame. -/
def ltrMatches (e : HevcEntry) (pins : List LtrPin) (i : CodeInput) : Bool :=
  pins.any fun p => p.held && !p.sig.isEmpty && decide (2 * shotScore i.zones p.sig < e.shotT)

/-! ### Mini-GOPs and decoding order (R231, R233, R235, R237) -/

/-- The interior of a mini-GOP in coding order: positions strictly between `lo` and `hi` with their sub-layers. -/
def dyadic : Nat → Nat → Nat → Nat → List (Nat × Nat)
  | 0, _, _, _ => []
  | n + 1, lo, hi, layer =>
    if hi ≤ lo + 1 then []
    else
      let m := (lo + hi) / 2
      (m, layer) :: (dyadic n lo m (layer + 1) ++ dyadic n m hi (layer + 1))

/-- An input that a mini-GOP in progress must end before: an IRAP slot, a forced IDR or a shot change. -/
def HevcCtx.bounds (c : HevcCtx) (k : Nat) (prev : List Nat) (i : CodeInput) : Bool :=
  c.irapDue || i.idr || (c.entry.gopLen != 0 && decide (c.entry.gopLen ≤ c.sinceIrap + k)) || isShot c.entry prev i

/-- Inputs that form the next mini-GOP, and whether it is closed: `k` inputs are in it already. `last`: no input follows for now, since
the context drains or a Power State entry waits for its tickets (R226, R524, log 64). -/
def HevcCtx.run (c : HevcCtx) (last : Bool) : List CodeInput → Nat → List Nat → List CodeInput × Bool
  | [], _, _ => ([], last)
  | i :: r, k, prev =>
    if !i.known then ([], false)
    else if k ≠ 0 ∧ c.bounds k prev i = true then ([], true)
    else
      let prev' := if i.missing then prev else i.zones
      if k + 1 = c.entry.mgop then ([i], true)
      else
        let (l, done) := c.run last r (k + 1) prev'
        (i :: l, done)

/-- The zone means of the last taken frame of a run. -/
def lastZones (prev : List Nat) (l : List CodeInput) : List Nat := l.foldl (fun p i => if i.missing then p else i.zones) prev

/-- Bytes of the coded-output buffer that access units hold (R251). -/
def HevcCtx.outUsed (c : HevcCtx) : Nat := sumNat (c.output.map fun u => u.data.length)

/-- Form the next mini-GOP of an encode context, if its inputs decide it (R231 to R237). `room`: the coded-output buffer has
room again for the access unit that was lost: the first picture then is an IRAP, also where others have formed (R251). -/
def HevcCtx.form (c : HevcCtx) (room last : Bool) : HevcCtx :=
  let c := if c.losing && room && !(c.jobs.any (·.irap)) then c.takeBack else c
  let c := if c.jobs.isEmpty then { c with gopStart := {
    poc := c.poc, sinceIrap := c.sinceIrap, prevZones := c.prevZones, irapDue := c.irapDue, idrDue := c.idrDue, fresh := c.fresh } } else c
  if !c.jobs.isEmpty then c
  else match c.inputs with
  | [] => c
  | i :: rest =>
    if !i.known then c
    else
      let lossIrap := c.losing && room
      let shot := isShot c.entry c.prevZones i
      let irap := c.bounds 0 c.prevZones { i with zones := [] } || lossIrap
      if irap then
        if i.missing then
          if c.pic = 0 then { c with inputs := rest, irapDue := true, idrDue := c.idrDue || i.idr }
          else { c with
            inputs := rest, irapDue := true, idrDue := c.idrDue || i.idr, poc := c.poc + 1, sinceIrap := c.sinceIrap + 1
            jobs := [{ input := i, type := 1, poc := c.poc }] }
        else
          let idr := c.idrDue || i.idr || !c.entry.cra
          let poc := if idr then 0 else c.poc
          { c with
            inputs := rest, irapDue := false, idrDue := false, fresh := false, poc := poc + 1, sinceIrap := 1, prevZones := i.zones
            jobs := [{ input := i, type := 0, irap := true, idr := idr, poc := poc, shot := shot, newWindow := c.fresh || lossIrap, fresh := c.fresh }] }
      else if shot then
        let known := ltrMatches c.entry c.pins i
        { c with
          inputs := rest, poc := c.poc + 1, sinceIrap := c.sinceIrap + 1, prevZones := i.zones
          jobs := [{ input := i, type := if known then 1 else 0, poc := c.poc, shot := true, policyPin := !known }] }
      else
        let (l, closed) := c.run (last || c.st == .draining) c.inputs 0 c.prevZones
        if !closed || l.isEmpty then c
        else
          let n := l.length
          let at' := fun (k : Nat) => l.getD (k - 1) default
          let anchor : CodeJob := { input := at' n, type := 1, poc := c.poc + n - 1 }
          { c with
            inputs := c.inputs.drop n, poc := c.poc + n, sinceIrap := c.sinceIrap + n, prevZones := lastZones c.prevZones l
            jobs := anchor :: (dyadic 4 0 n 1).map fun (k, layer) => { input := at' k, type := 2, layer := layer, poc := c.poc + k - 1 } }

/-! ### Rate control (R239 to R243) -/

/-- The CTU loop of R240: `left` CTUs from `c`; bytes used and the first CTU in floor form. -/
def rcLoop (allow : Int) (n fctu : Nat) (normal floor : Nat → Nat) : Nat → Nat → Nat → Option Nat → Nat × Option Nat
  | 0, _, used, from_ => (used, from_)
  | left + 1, c, used, from_ =>
    match from_ with
    | some k => rcLoop allow n fctu normal floor left (c + 1) (used + floor c) (some k)
    | none =>
      if allow < ((used + normal c + (n - 1 - c) * fctu + fHdr : Nat) : Int) then
        rcLoop allow n fctu normal floor left (c + 1) (used + floor c) (some c)
      else rcLoop allow n fctu normal floor left (c + 1) (used + normal c) none

/-- The window budget in force, with the bytes carried into it (R240). -/
def HevcCtx.budget (c : HevcCtx) : Nat := c.entry.wB + c.carry

/-- A window begins: values of a plan switch take effect (R227, R242). -/
def HevcCtx.openWindow (c : HevcCtx) : HevcCtx :=
  match c.nextEntry with
  | some e => { c with entry := e, nextEntry := none, qpBase := if e.qpInit = c.entry.qpInit then c.qpBase else e.qpInit }
  | none => c

/-- The window is abandoned and a new one begins (R228, R251). -/
def HevcCtx.restartWindow (c : HevcCtx) : HevcCtx :=
  ({ c with window := if c.j = 0 then c.window else c.window + 1, j := 0, spent := 0, carry := 0 }).openWindow

/-- The window moves on after a picture of `size` bytes (R240, R243). -/
def HevcCtx.nextSlot (c : HevcCtx) (size carried : Nat) : HevcCtx :=
  if c.entry.win ≤ c.j + 1 then ({ c with window := c.window + 1, j := 0, spent := 0, carry := carried }).openWindow
  else { c with j := c.j + 1, spent := c.spent + size }

/-- QP of a picture and the base it leaves (R242, R243). -/
def HevcCtx.qp (c : HevcCtx) (layer : Nat) (delta : Int) : Nat × Nat :=
  let e := c.entry
  if e.rcMode = 2 then ((clampInt (e.qpInit + delta) 0 51).toNat, c.qpBase)
  else
    let target := e.tB * c.j / max 1 e.win
    let base := if target + e.tB / 32 < c.spent then min (c.qpBase + 1) e.qpMax
      else if c.spent + e.tB / 16 < target then max (c.qpBase - 1) e.qpMin else c.qpBase
    ((clampInt (base + layer + delta) e.qpMin e.qpMax).toNat, base)

/-! ### Decoded pictures (R245, R246, R249, R250) -/

/-- CTUs of a slice segment before its first syntax loop whose count is out of range (R246). -/
def wholeCtus (x : SliceSegment) : Nat := min x.ctus (((x.loops.find? fun l => l.2.2 < l.2.1).map (·.1)).getD x.ctus)

/-- Raster addresses of the CTUs that the slice segments of a picture of `total` CTUs decode: from each segment's address on, in coding
order; a segment whose address lies beyond the picture decodes none (R246). -/
def decodedCtus (x : AuInfo) (total : Nat) : List Nat :=
  x.segments.flatMap fun g => if total ≤ g.addr then [] else ((x.scan.dropWhile (· != g.addr)).take (wholeCtus g)).filter (· < total)

/-- Bit depth of a BITS code. -/
def depthOf (b : Nat) : Nat := [8, 10, 12].getD b 8

/-- The SPS fits the context (R245). -/
def ctxAccepts (h : HevcEntry) (x : SpsInfo) : Bool :=
  x.profile.isSome && !x.separatePlanes && decide (x.level ≤ h.level) && (!x.highTier || h.highTier) && x.sub == h.sub && x.depth == depthOf h.bits &&
  x.width == h.width && x.height == h.height

/-- Width and height of component `k` of a picture with SUB code `sub`. -/
def planeSize (w h sub k : Nat) : Nat × Nat := if k = 0 then (w, h) else (if sub = 0 then w else w / 2, if sub = 2 then h / 2 else h)

/-- Mid-grey planes (R249). -/
def greyPlanes (w h sub depth : Nat) : List (List Nat) :=
  (List.range 3).map fun k => let (a, b) := planeSize w h sub k; List.replicate (a * b) (2 ^ (depth - 1))

/-- A decoded plane with the samples of undecoded CTUs taken from another picture (R249). -/
def concealPlane (w h sub ctb k : Nat) (bad : List Nat) (plane other : List Nat) : List Nat :=
  let (a, b) := planeSize w h sub k
  let (sx, sy) := (w / max 1 a, h / max 1 b)
  let cols := ceilDiv w (max 1 ctb)
  (List.range (a * b)).map fun i =>
    let x := i % max 1 a * sx / max 1 ctb
    let y := i / max 1 a * sy / max 1 ctb
    if bad.contains (y * cols + x) then other.getD i 0 else plane.getD i 0

/-- The waiting picture of lowest POC (R250). -/
def nextOut (l : List DpbPic) : Option DpbPic := leastBy (fun p => [(p.poc + 2 ^ 32).toNat]) (l.filter (·.waits))

/-- One picture leaves the decoded picture buffer: it becomes a source, numbered by the output count (R250). -/
def HevcCtx.bumpOne (time : Nat) (c : HevcCtx) : HevcCtx :=
  match nextOut c.dpb with
  | none => c
  | some p =>
    let pic := { p.pic with frame := c.outCount, time := time }
    { c with
      dpb := c.dpb.map fun q => if q.poc = p.poc then { q with waits := false } else q
      shown := c.shown ++ [pic], lastShown := some pic, outCount := wrap 32 (c.outCount + 1) }

/-- Pictures leave while the limits of the SPS ask for it (H.265 C.5.2; PRESUMED, log 45): before a picture (`full`) the size
of the buffer counts too, and pictures that are neither waiting nor references leave it. `fuel` bounds them. -/
def HevcCtx.bump (time : Nat) (x : SpsInfo) (refs : List Int) (full : Bool) : Nat → HevcCtx → HevcCtx
  | 0, c => c
  | n + 1, c =>
    let w := c.dpb.filter (·.waits)
    let late := match x.maxLatency with
      | some m => w.any fun p => decide (m ≤ p.latency)
      | none => false
    if w.isEmpty then c
    else if decide (x.maxReorder < w.length) || late || (full && decide (x.maxDec ≤ c.dpb.length)) then
      let c1 := c.bumpOne time
      HevcCtx.bump time x refs full n (if full then { c1 with dpb := c1.dpb.filter fun p => p.waits || refs.contains p.poc } else c1)
    else c

/-- Every waiting picture leaves. -/
def HevcCtx.flush (time : Nat) (c : HevcCtx) : HevcCtx := c.dpb.foldl (fun c _ => c.bumpOne time) c

end Sys2Proof.Machine
end

