-- ==== Sys2Proof/Machine/Larder.lean ====
section
/-! DEFINITION. What the pipeline hands to the recorder: the Larder, the room of the Store buffer, and the records that wait to be
accepted (11_media_layout.md R320, R326 to R329, 10_store_queues.md R295). -/

namespace Sys2Proof.Machine

open Sys2Proof

/-- Payload bytes of one part of a stream record (R287, R327). -/
def partSize : Nat := 16777216

/-- Bytes that a record occupies (R320). -/
def recBytes (payload : Nat) : Nat := 4096 * ceilDiv (256 + payload) 4096 + 4096

/-- The parts of a frame or access unit: of 16,777,216 bytes each, the last taking the rest (R327). -/
def splitParts (bs : Bytes) : List Bytes :=
  (List.range (max 1 (ceilDiv bs.length partSize))).map fun i => (bs.drop (i * partSize)).take partSize

/-- Bytes of the Store buffer that records not yet on the medium and pipeline records on their way hold (R295). -/
def State.bufferUsed (s : State) : Nat :=
  sumNat (s.store.recs.map fun r => if r.st == .accepted then recBytes r.payload.length else 0) +
  sumNat (s.store.incoming.map fun i => if i.from_.isNone then recBytes i.plain.length else 0)

/-- Bytes of the Store buffer (Table 1-6): plan-set; before the first activation of a plan sets it, twice HOST_SHARE, the least that R303
allows it (DESIGN CHOICE, log 49). -/
def State.bufferSize (s : State) : Nat := match s.mem.plan with
  | some m => m.storePages * 4096
  | none => 2 * s.store.hostShare

/-- The records of one frame or access unit of stream `st` join the pipeline records that wait (R327). -/
def offerParts (clip st : Nat) (t : Ticket) (sensor larder : Bool) (data : Bytes) (from_ : Option (Nat × Nat)) (entry : Option Nat) (s : State) : State :=
  let ps := splitParts data
  let mk := fun (b : Bytes) (i : Nat) => ({
    record := {
      kind := 1, clip := clip, stream := st, part := i, parts := ps.length, frame := t.frame, time := t.time
      ticket := if sensor then some t else none, enc := true, larder := larder }
    plain := b, from_ := from_, entry := entry } : Incoming)
  { s with store := { s.store with incoming := s.store.incoming ++ ps.zipIdx.map fun (b, i) => mk b i } }

/-- Cellar pages of the Larder's items (R329). -/
def larderUsed (l : List LarderItem) : Nat := sumNat (l.map fun i => ceilDiv i.data.length 4096)

/-- The Larder's oldest items that the newer ones displace (R329); `fuel` bounds the items. -/
def evictOver (cap fuel : Nat) (l : List LarderItem) : List LarderItem × List LarderItem :=
  match fuel, l with
  | n + 1, i :: r => if cap < larderUsed (i :: r) then (let (k, e) := evictOver cap n r; (k, i :: e)) else (i :: r, [])
  | _, _ => (l, [])

/-- An evicted frame that was queued for the clip and not written becomes a GAP (R328, R329). -/
def evicted (s : State) (i : LarderItem) : State :=
  if s.store.incoming.any fun q => q.from_ == some (i.lead, i.frame) && q.record.stream == i.stream then
    let s1 := { s with store := { s.store with incoming := s.store.incoming.filter fun q => !(q.from_ == some (i.lead, i.frame) && q.record.stream == i.stream) } }
    let s2 := raise 198 0 [] none s1
    if i.stream = 8 then gapFrames i.lead i.frame 1 2 s2 else s2
  else s

/-- An item enters the Larder, which evicts its oldest whole frames (R329). -/
def larderPut (i : LarderItem) (s : State) : State :=
  let (keep, out) := evictOver s.memSec.larderPages (s.store.larder.length + 1) (s.store.larder ++ [i])
  out.foldl evicted { s with store := { s.store with larder := keep } }

/-- A coded raw frame is complete (R183, R327 to R329): it goes to the Larder, and through it to the clip that its ticket was
issued in; without a Larder it goes to the Store buffer, or becomes a GAP when the buffer has no room. -/
def keepRaw (e : Nat) (s : State) : State :=
  match s.entry? e with
  | none => s
  | some x =>
    let recording := x.clip.isSome && x.clip == s.store.clip.map (·.num)
    let clip := x.clip.getD 0
    if 0 < s.memSec.larderPages then
      let s1 := larderPut { lead := x.lead, stream := 8, frame := x.ticket.frame, time := x.ticket.time, ticket := x.ticket, data := x.raw.bytes } s
      let kept := s1.store.larder.any fun i => i.lead == x.lead && i.frame == x.ticket.frame && i.stream == 8
      let s2 := if recording then
          (if kept then offerParts clip 8 x.ticket true false x.raw.bytes (some (x.lead, x.ticket.frame)) none s1 else gapFrames x.lead x.ticket.frame 1 2 s1)
        else s1
      endClass e 5 s2
    else if recording then
      let need := sumNat ((splitParts x.raw.bytes).map fun p => recBytes p.length)
      if s.bufferSize < s.bufferUsed + need then endClass e 5 (gapFrames x.lead x.ticket.frame 1 3 s)
      else offerParts clip 8 x.ticket true false x.raw.bytes none (some e) s
    else endClass e 5 s

/-- A coded rendition stream that the plan marks enters the Larder too (R329). -/
def larderStream (st lead : Nat) (t : Ticket) (irap : Bool) (data : Bytes) (s : State) : State :=
  if 0 < s.memSec.larderPages ∧ bit s.memSec.larderStreams st = true then
    larderPut { lead := lead, stream := st, frame := t.frame, time := t.time, ticket := t, irap := irap, data := data } s
  else s

/-- A frame's rendition, or an access unit, for a stream 0 to 7 that the recording clip's mask holds (R327). -/
def keepStream (st clip : Nat) (t : Ticket) (sensor : Bool) (data : Bytes) (entry : Option Nat) (s : State) : State :=
  match s.store.clip with
  | some c => if c.num = clip ∧ bit c.mask st = true then offerParts clip st t sensor false data none entry s else s
  | none => s

end Sys2Proof.Machine
end

