-- ==== Sys2Proof/Machine/Coding.lean ====
section
/-! DEFINITION. The HEVC engines: picture boundaries, delivery, contexts and their commands (08_video_coding.md R224 to R254,
11_media_layout.md R339, 15_mailbox_and_events.md R443, R445). -/

namespace Sys2Proof.Machine

open Sys2Proof

/-! ### Contexts and their sources -/

/-- Context `i` = 32 × engine + context. -/
def State.ctx (s : State) (i : Nat) : HevcCtx := at! s.ctxs i

/-- Change context `i`. -/
def State.setCtx (s : State) (i : Nat) (f : HevcCtx → HevcCtx) : State := { s with ctxs := upd s.ctxs i f }

/-- The Shelf and entry of context `i` in the active plans (R224). -/
def State.ctxEntry? (s : State) (i : Nat) : Option (Nat × HevcEntry) :=
  (s.shelves.zipIdx.filterMap fun (x, k) => match x.plan with
    | some p => if x.st == .active && (p.hevc.getD i default).enable then some (k, p.hevc.getD i default) else none
    | none => none).head?

/-- The plan and slot that feed context `i`. -/
def State.feeder? (s : State) (i : Nat) : Option (Plan × Nat) :=
  (s.plan? (s.ctx i).shelf).bind fun p =>
    (p.enabled.find? fun k => let g := p.graph.getD k default; g.destKind == 2 && g.destId == i).map fun k => (p, k)

/-- The slot that feeds context `i` takes frames from a sensor. -/
def State.fedBySensor (s : State) (i : Nat) : Bool := (s.feeder? i).any fun (p, k) => (p.graph.getD k default).srcKind == 0

/-- Coding deadline of a picture (R57, R229): the coding offset and the source ticket, as its table entry has it while the entry lives. -/
def codeDeadline (s : State) (i : Nat) (t : Ticket) : Nat :=
  match (s.entry? t.entry).filter fun e => e.ticket.frame == t.frame && e.ticket.time == t.time with
  | some e => e.deadline (s.entryPort e).deadlines 4 0
  | none =>
    let a := match s.feeder? i with
      | some (p, k) =>
        let g := p.graph.getD k default
        if g.srcKind = 0 then ((p.portPlan? g.srcId).getD default).deadlines.offsets.getD 4 0 else 0
      | none => 0
    (t.time + a) % 2 ^ 48

/-- Picture period of a context in ticks. -/
def ctxPeriod (h : HevcEntry) : Nat := 1000000000 * h.fpsDen / max 1 h.fpsNum

/-! ### Ends of frames (R52) -/

/-- A context still has to code the frame of entry `e`. -/
def codesEntry (s : State) (x : Entry) : Bool :=
  let same := fun (t : Ticket) => t.entry == x.ticket.entry && t.frame == x.ticket.frame
  s.ctxs.any (fun c => c.inputs.any (fun i => !i.missing && same i.ticket) || c.jobs.any (fun j => !j.input.missing && same j.input.ticket)) ||
  s.engines.any fun e => e.cur.any fun p => !p.job.input.missing && same p.job.input.ticket

/-- Class 4 ends for the frames that no context has still to code (R52). -/
def sweepCoding (s : State) : State :=
  s.live'.foldl (fun s (i, x) =>
    if x.ended.getD 4 false || !(x.items.any (·.2.2 == 4)) || codesEntry s x then s else endClass i 4 s) s

/-- The picture that a context takes from a rendition frame: a Main context rounds its 10-bit samples to 8 bits (R223). -/
def mainSource (h : HevcEntry) (f : RendFrame) : RendFrame :=
  if h.profile = 0 then { f with bits := 8, planes := f.planes.map fun l => l.map fun v => min ((v + 2) / 4) 255 } else f

/-- A rendition frame is received whole by context `i` (R230). -/
def codePicture (i : Nat) (f : RendFrame) (s : State) : State :=
  let f := mainSource (s.ctx i).entry f
  let mark := fun (x : CodeInput) => if !x.missing && x.ticket.entry == f.ticket.entry && x.ticket.frame == f.ticket.frame then { x with pic := some f } else x
  s.setCtx i fun c => { c with
    inputs := c.inputs.map mark, jobs := c.jobs.map fun j => { j with input := mark j.input } }

/-! ### Statistics records (R253) -/

/-- The 64 bytes of Table 8-7. -/
def picRecord (frame pic : Nat) (poc : Int) (type : Nat) (irap floor concealed rep late shot : Bool) (pin : Nat) (hashBad : Bool)
    (layer qp ctx : Nat) (decode : Bool) (bytes floorCtu conceal window spent start stop : Nat) : Bytes :=
  le 4 frame ++ le 4 pic ++ le 4 (ofInt 32 poc) ++
  le 1 (type + 4 * b2n irap + 8 * b2n floor + 16 * b2n concealed + 32 * b2n rep + 64 * b2n late + 128 * b2n shot) ++
  le 1 (pin + 4 * b2n hashBad + 8 * layer) ++ le 1 qp ++ le 1 (ctx + 32 * b2n decode) ++
  le 4 bytes ++ le 4 floorCtu ++ le 4 conceal ++ le 4 window ++ le 4 spent ++ le 4 0 ++ le 8 start ++ le 8 stop ++ le 8 0

/-- A record is written to the engine's ring, or EVT.CODE.STATS_LOST is raised (R253). -/
def postPicture (e i : Nat) (args : List Nat) (bs : Bytes) (s : State) : State :=
  match (at! s.engines e).ring with
  | none => s
  | some r => match s.ringPut r bs with
    | none => raise 138 i args none s
    | some (r', s1) => { s1 with engines := upd s1.engines e fun x => { x with ring := some r' } }

/-! ### Review rings (R339) -/

/-- A picture complete in review ring `r`: the writer takes the oldest slot that no ticket names. -/
def reviewPut (r : Nat) (pic : SourcePicture) (s : State) : State :=
  let v := at! s.reviews r
  let slots := if v.slots ≠ 0 then v.slots else ((s.activePlans.flatMap (·.reviewRings)).find? fun x => x.ring == r).elim 0 (·.slots)
  let named := fun (p : SourcePicture) => s.live'.any fun (_, e) => e.src == .review r && e.ticket.frame == p.frame
  let pic := { pic with frame := v.written, time := s.reading }
  let frames := if v.frames.length < slots then v.frames ++ [pic]
    else match v.frames.find? fun p => !named p with
      | some old => v.frames.filter (fun p => p.frame != old.frame) ++ [pic]
      | none => v.frames
  { s with reviews := upd s.reviews r fun x => { x with slots := slots, frames := frames, written := wrap 32 (v.written + 1) } }

/-! ### Committing an encode picture (R231 to R243, R251) -/

/-- Pins that take hold with the picture of a frame, and what the picture's IRAP releases (R236, R238). -/
def takePins (c : HevcCtx) (j : CodeJob) : HevcCtx × List LtrPin × List LtrPin :=
  let released := if j.irap then c.pins.filter (·.held) else []
  let kept := if j.irap then c.pins.filter (!·.held) else c.pins
  let mine := fun (p : LtrPin) => !p.held && p.target == some j.input.ticket.frame && !j.input.missing
  let now := kept.filter mine
  let kept := kept.map fun p => if mine p then { p with held := true, poc := j.poc } else p
  if j.policyPin && c.entry.ltrMax != 0 then
    let kept := if kept.length < c.entry.ltrMax then kept
      else (match kept.find? (!·.host) with
        | some old => kept.erase old
        | none => kept)
    if kept.length < c.entry.ltrMax then
      let p : LtrPin := { frame := j.input.ticket.frame, host := false, target := some j.input.ticket.frame, held := true, poc := j.poc, sig := j.input.zones }
      ({ c with pins := kept ++ [p] }, released, now ++ [p])
    else ({ c with pins := kept }, released, now)
  else ({ c with pins := kept }, released, now)

/-- Bytes that wait for the sink of context `i`: its coded-output buffer, and records of its stream not yet accepted (R251). -/
def State.codedUsed (s : State) (i : Nat) : Nat :=
  let c := s.ctx i
  c.outUsed + (if c.entry.outKind = 4 then sumNat (s.store.incoming.map fun q =>
    if q.entry.isNone && q.record.stream == c.entry.outId then q.plain.length else 0) else 0)

/-- The buffer has room for `n` more bytes (R251). -/
def State.codedRoom (s : State) (i n : Nat) : Bool := decide (s.codedUsed i + n ≤ (s.ctx i).entry.outPages * 4096)

/-- Clip that a stream's access unit belongs to: the clip now recording, if its first frame is not after the unit's (R327). -/
def State.clipFor (s : State) (frame : Nat) : Option Nat :=
  s.store.clip.bind fun c => if c.live && serialLe c.firstFrame frame && (!c.closing || serialLe frame c.lastFrame) then some c.num else none

/-- An access unit enters the coded-output buffer and goes to its sink (R231, R251). A byte ring takes it later. -/
def deliverUnit (i : Nat) (u : AccessUnit) (s : State) : State :=
  let e := (s.ctx i).entry
  if e.outKind = 3 then s.setCtx i fun c => { c with output := c.output ++ [u] }
  else if e.outKind = 4 then
    let s := larderStream e.outId (((s.feeder? i).map fun (p, k) => (p.graph.getD k default).srcId).getD 0) u.ticket u.irap u.data s
    match s.clipFor u.ticket.frame with
    | some k => keepStream e.outId k u.ticket u.sensor u.data none s
    | none => s
  else reviewPut e.outId u.picture s

/-- The access unit finds room, or is lost with every later one up to an IRAP picture (R251). -/
def bufferUnit (i : Nat) (u : AccessUnit) (s : State) : State :=
  let c := s.ctx i
  let n := u.data.length
  let args := [u.frame, u.pic]
  if c.losing && (!u.irap || !s.codedRoom i n) then s.setCtx i fun c => { c with lost := c.lost + 1 }
  else if !s.codedRoom i n then s.setCtx i fun c => { c with losing := true, lost := 1, lostSize := n }
  else
    let s1 := if c.losing then raise 150 i (args ++ [c.lost]) none (s.setCtx i fun c => { c with losing := false, lost := 0, lostSize := 0 }) else s
    deliverUnit i u s1

/-- EVT.CODE.LTR_RELEASED (R238): an entry names its picture and at most two of the pins (log 64). -/
def raiseReleased (i : Nat) (args : List Nat) : List LtrPin → State → State
  | a :: b :: r, s => raiseReleased i args r (raise 142 i (args ++ [a.frame, b.frame]) none s)
  | [a], s => raise 142 i (args ++ [a.frame]) none s
  | [], s => s

/-- The engine commits an encode picture (R229 to R243). A picture that a descriptor outside its regions has ended has its CTUs from a
free one on in floor form: DESIGN CHOICE (log 64). -/
def commitEncode (e : Nat) (p : EnginePic) (s : State) : State :=
  let i := 32 * e + p.ctx
  let j := p.job
  let t := j.input.ticket
  let (n, s) := s.takeFree
  let c0 := s.ctx i
  let c := if j.newWindow then c0.restartWindow else c0
  let c := if j.fresh then { c with qpBase := c.entry.qpInit } else c
  let h := c.entry
  let fctu := if j.type = 0 then 48 else 8
  let floor := fun k => min fctu (Config.ctuFloor n k)
  let allow : Int := c.budget - c.spent - (h.win - 1 - c.j : Nat) * h.floorI
  let (used, from_) := if j.input.missing then (sumNat ((List.range h.ctus).map floor), none)
    else
      let (a, k) := rcLoop allow h.ctus fctu (Config.ctuNormal n) floor h.ctus 0 0 none
      let stop := min (k.getD h.ctus) (Config.freeBits 32 n % max 1 h.ctus)
      if p.ended then
        (sumNat ((List.range stop).map (fun k => min (Config.ctuNormal n k) fctu)) + sumNat ((List.range (h.ctus - stop)).map fun k => floor (stop + k)), some stop)
      else (a, k)
  let (qp, base) := c.qp j.layer j.input.qpDelta
  let planes := Config.codedPicture n
  let floors := match (if j.input.missing then some 0 else from_) with
    | some k => (List.range (h.ctus - k)).map fun m => (k + m, floorCtu n j.type (k + m))
    | none => []
  let longRefs := if j.irap then [] else (c.pins.filter (·.held)).map (·.poc)
  let nals := headNals h j.irap t.bytes ++
    (List.range h.slices).map (fun k => .slice { nal := sliceNal n j.irap j.idr, layer := j.layer, number := k, type := j.type, poc := j.poc, longRefs := longRefs, qp := qp, floor := floors }) ++
    (if h.hashSei then [.hashSei (Config.pictureHash 1 planes)] else [])
  let data := unitBytes n used (928 / nals.length - 6) true nals 0
  let size := data.length
  let rest := c.budget - (c.spent + size)
  let ends := decide (h.win ≤ c.j + 1)
  let fill := if h.rcMode = 0 ∧ ends = true ∧ 4 ≤ rest then padTo rest (Config.fillerNal rest) else []
  let carried := if h.rcMode = 0 ∧ ends = true ∧ rest < 4 then rest else 0
  let late := late48 p.deadline s.reading
  let (c1, released, held) := takePins { c with qpBase := base } j
  let args := [t.frame, c.pic]
  let pin := if held.any (·.host) then 1 else if held.isEmpty then 0 else 2
  let unit : AccessUnit := {
    data := data ++ fill, nals := nals, frame := t.frame, pic := c.pic, irap := j.irap, time := t.time, ticket := t, sensor := s.fedBySensor i
    picture := { width := h.width, height := h.height, sub := h.sub, bits := depthOf h.bits, ycc := (j.input.pic.map (·.ycc)).getD 0
                 fullRange := (j.input.pic.map (·.fullRange)).getD false, planes := planes } }
  let rec' := picRecord t.frame c.pic j.poc j.type j.irap from_.isSome false j.input.missing late j.shot pin false j.layer qp p.ctx false
    (size + fill.length) (from_.getD 0xFFFFFFFF) 0 c.window (c.spent + size + fill.length) p.start s.reading
  let s1 := s.setCtx i fun _ => ({ c1 with pic := wrap 32 (c.pic + 1), lastTicket := t }).nextSlot size carried
  let s2 := raiseReleased i args released s1
  let s3 := held.foldl (fun s k => raise 141 i (args ++ [if k.host then 1 else 2]) none s) s2
  let s4 := if j.shot then raise 143 i args none s3 else s3
  let s5 := if j.input.missing then raiseLimited (ms 1000) 140 i (fun _ => args) s4 else s4
  let s6 := if from_.isSome then raise 139 i args none s5 else s5
  let s7 := if late then raiseLimited (ms 1000) 149 i (fun _ => args) s6 else s6
  bufferUnit i unit (postPicture e i args rec' s7)

/-! ### Committing a decode picture (R245 to R250) -/

/-- The engine commits a decode picture; a unit that is skipped produces none (R245). -/
def commitDecode (e : Nat) (p : EnginePic) (s : State) : State :=
  let i := 32 * e + p.ctx
  let c := s.ctx i
  let h := c.entry
  let au := baseLayer p.au.data
  let psets := c.psets ++ paramSets au
  let x := Config.auInfo psets c.prevPoc au
  let begins := x.irap && (x.breaks || c.skipping || c.eos)
  let args := [c.outCount, c.pic]
  let c := { c with psets := psets, eos := endsSequence au }
  if x.irap && !ctxAccepts h x.sps then raise 147 i args none (s.setCtx i fun _ => { c with skipping := true })
  else if (c.skipping && !x.irap) || (x.rasl && c.noRasl) then s.setCtx i fun _ => c
  else
    let (n, s) := s.takeFree
    let c := { c with skipping := false, noRasl := if x.irap then begins else c.noRasl, lastShown := if x.irap then none else c.lastShown }
    let depth := depthOf h.bits
    let grey := greyPlanes h.width h.height h.sub depth
    -- pictures before this one leave (C.5.2.2)
    let c := if begins then (let c := if x.noPrior || !x.breaks then c else c.flush s.reading; { c with dpb := [] })
      else HevcCtx.bump s.reading x.sps x.refs true (c.dpb.length + 1) { c with dpb := c.dpb.filter fun q => q.waits || x.refs.contains q.poc }
    let refs := if begins then [] else x.refs.map fun r => (r, ((c.dpb.find? (·.poc == r)).map (·.pic.planes)).getD grey)
    let absent := !begins && x.refs.any fun r => !(c.dpb.any (·.poc == r))
    -- a descriptor outside the state region is suppressed whole and ends the picture (R248)
    let bytes := (sumNat (grey.map List.length)) * (if depth = 8 then 1 else 2)
    let outside := decide (h.statePages * 4096 < (c.dpb.length + 1) * bytes)
    let total := ceilDiv h.width (max 1 x.sps.ctb) * ceilDiv h.height (max 1 x.sps.ctb)
    let stop := if outside then 0 else if p.ended then Config.freeBits 32 n % max 1 total else total
    let spoilt := p.spoiled.map fun n => Config.freeBits 32 n % max 1 total
    let bad := (List.range total).filter fun k => !(decodedCtus x total).contains k || decide (stop ≤ k) || spoilt.contains k
    let raw := Config.reconstruct psets au refs
    let planes := if bad.isEmpty then raw
      else (List.range 3).map fun k => concealPlane h.width h.height h.sub x.sps.ctb k bad (at! raw k) (at! ((c.lastShown.map (·.planes)).getD grey) k)
    let concealed := absent || !bad.isEmpty
    let hashBad := x.hash.any fun (k, v) => Config.pictureHash k planes != v
    let pic : SourcePicture := {
      width := h.width, height := h.height, sub := h.sub, ycc := x.sps.ycc, fullRange := x.sps.fullRange, bits := depth
      planes := planes, concealed := concealed }
    let c1 := { c with
      pic := wrap 32 (c.pic + 1), prevPoc := x.poc
      dpb := c.dpb.map (fun q => if x.shows && q.waits && decide (x.poc < q.poc) then { q with latency := q.latency + 1 } else q) ++ [{ poc := x.poc, pic := pic, waits := x.shows }] }
    let c2 := HevcCtx.bump s.reading x.sps x.refs false (c1.dpb.length + 1) c1
    let late := late48 p.deadline s.reading
    let rec' := picRecord (args.getD 0 0) (args.getD 1 0) x.poc x.type x.irap false concealed false late false 0 hashBad x.layer x.qp p.ctx true
      p.au.data.length 0xFFFFFFFF bad.length 0 0 p.start s.reading
    let s1 := s.setCtx i fun _ => c2
    let s2 := if outside then raise 146 i args none s1 else s1
    let s3 := if concealed then raiseLimited (ms 1000) 144 i (fun _ => args) s2 else s2
    let s4 := if hashBad then raise 148 i args none s3 else s3
    let s5 := if late then raiseLimited (ms 1000) 149 i (fun _ => args) s4 else s4
    postPicture e i args rec' s5

/-! ### The picture boundary (R226, R229, R230) -/

/-- The context has nothing left to work on and its sink has everything: it is Closed (Table 8-5). -/
def closeCtx (i : Nat) (s : State) : State :=
  raise 137 i [] none (s.setCtx i fun c => { ring := c.ring, consumed := c.consumed, discarded := c.discarded, shown := c.shown, outCount := c.outCount })

/-- A Draining context ends its stream, and closes once it is delivered (R226). -/
def drainCtx (i : Nat) (s : State) : State :=
  let c := s.ctx i
  let busy := (at! s.engines (i / 32)).cur.any fun p => p.ctx == i % 32
  if c.st ≠ .draining ∨ busy = true then s
  else if c.entry.decode then
    if c.units.isEmpty then closeCtx i (s.setCtx i fun c => c.flush s.reading) else s
  else if !c.inputs.isEmpty || !c.jobs.isEmpty then s
  else
    let s1 := if c.eos || c.pic == 0 || c.entry.outKind == 5 then s
      else deliverUnit i { data := eosNal, nals := [.endOfSequence], pic := c.pic - 1, frame := c.lastTicket.frame, ticket := c.lastTicket, sensor := s.fedBySensor i } (s.setCtx i fun c => { c with eos := true })
    if (s1.ctx i).output.isEmpty then closeCtx i s1 else s1

/-- The picture that a context has ready, with its deadline (R229, R230). -/
def readyPicture (s : State) (i : Nat) : Option EnginePic :=
  let c := s.ctx i
  let base : EnginePic := { ctx := i % 32, start := s.reading, startCount := s.now }
  if c.st == .closed then none
  else if c.entry.decode then
    match c.units with
    | u :: _ => some { base with deadline := (u.readyAt + 4 * ctxPeriod c.entry) % 2 ^ 48, au := u }
    | [] => none
  else match c.jobs with
    | j :: _ => if j.input.missing || j.input.pic.isSome then some { base with deadline := codeDeadline s i j.input.ticket, job := j } else none
    | [] => none

/-- At a picture boundary releases of pins take effect (R236), a context that the 112 °C stop has stopped starts anew when coding
resumes (R228), and mini-GOPs form. -/
def boundaryCtx (s : State) (i : Nat) (c : HevcCtx) : HevcCtx :=
  let c := { c with pins := c.pins.filter fun p => !p.release }
  let c := if c.stopped && s.therm.level != 3 then { c.restart with stopped := false, resume := true } else c
  c.form (s.codedRoom i c.lostSize) s.store.powerEntry.isSome

/-- The engine selects the ready picture with the nearest coding deadline, then the lower context (R229). During the 112 °C stop
the engines code nothing (R228); in P2 and P3 they do not run. -/
def startPicture (e : Nat) (s : State) : State :=
  let s := (List.range 32).foldl (fun s k => s.setCtx (32 * e + k) (boundaryCtx s (32 * e + k))) s
  if s.therm.level == 3 || decide (2 ≤ s.sys.pstate) then s
  else
    match leastBy (fun (p : EnginePic) => [nearness p.deadline s.reading, p.ctx]) ((List.range 32).filterMap fun k => readyPicture s (32 * e + k)) with
    | none => s
    | some p =>
      let i := 32 * e + p.ctx
      let resumed := (s.ctx i).resume && p.job.fresh
      let s1 := s.setCtx i fun c => { c with
        jobs := if c.entry.decode then c.jobs else c.jobs.drop 1, units := if c.entry.decode then c.units.drop 1 else c.units
        resume := c.resume && !resumed }
      let s2 := { s1 with engines := upd s1.engines e fun x => { x with cur := some p } }
      if resumed then raise 151 i [p.job.input.ticket.frame, (s.ctx i).pic] none s2 else s2

/-- PICTURE_BOUNDARY (R229). -/
def doPictureBoundary (e : Nat) (s : State) : State :=
  let x := at! s.engines e
  if 1 < e then s
  else
    let s1 := match x.cur with
      | none => s
      | some p =>
        let s := { s with engines := upd s.engines e fun x => { x with cur := none } }
        if (s.ctx (32 * e + p.ctx)).entry.decode then commitDecode e p s else commitEncode e p s
    let s2 := { s1 with engines := upd s1.engines e fun x => { x with ring := if x.nextRing.isSome then x.nextRing else x.ring, nextRing := none } }
    let s3 := (List.range 32).foldl (fun s k => drainCtx (32 * e + k) s) s2
    sweepCoding (startPicture e s3)

/-- DECODE_WATCHDOG (R247). -/
def doDecodeWatchdog (e c : Nat) (s : State) : State :=
  match (at! s.engines e).cur with
  | none => s
  | some p =>
    let i := 32 * e + c
    let x := s.ctx i
    if p.ctx ≠ c ∨ x.entry.decode = false ∨ p.ended = true ∨ s.now < p.startCount + x.entry.wdTicks then s
    else raise 145 i [x.outCount, x.pic] none { s with engines := upd s.engines e fun y => { y with cur := some { p with ended := true } } }

/-! ### Streams in and out (R244, R445) -/

/-- Whole access units are taken from a stream; `fuel` bounds them. -/
def splitUnits : Nat → Bytes → List Bytes × Bytes
  | 0, bs => ([], bs)
  | n + 1, bs => match unitEnd bs (nalStarts bs 0 0) false with
    | none => ([], bs)
    | some k => let (l, r) := splitUnits n (bs.drop k); (bs.take k :: l, r)

/-- Bytes join a context's bitstream buffer (R230, R244). -/
def feedStream (i : Nat) (bs : Bytes) (s : State) : State :=
  s.setCtx i fun c =>
    let (l, r) := splitUnits (bs.length + 1) (c.stream ++ bs)
    { c with stream := r, units := c.units ++ l.map fun b => { data := b, readyAt := s.reading } }

/-- Room in a context's bitstream buffer. -/
def HevcCtx.streamRoom (c : HevcCtx) : Nat := c.entry.outPages * 4096 - (c.stream.length + sumNat (c.units.map fun u => u.data.length))

/-- Bytes k to k + n of a byte ring. -/
def State.byteRing (s : State) (r : HostRing) (k n : Nat) : Bytes :=
  (List.range n).map fun j => s.hostMem.read (r.addr + 4096 + (k + j) % max 1 r.entries)

/-- The state with bytes written to a byte ring from byte k on. -/
def byteRingWrite (r : HostRing) (k : Nat) : Bytes → State → State
  | [], s => s
  | b :: bs, s => byteRingWrite r (k + 1) bs { s with hostMem := s.hostMem.write (r.addr + 4096 + k % max 1 r.entries) b }

/-- BITSTREAM_COPY (R244): as many bytes as the host has produced and the buffer has room for. -/
def doBitstreamCopy (e c : Nat) (s : State) : State :=
  let i := 32 * e + c
  let x := s.ctx i
  if x.st ≠ .openSt ∨ x.entry.decode = false ∨ x.entry.inClip = true then s
  else match x.ring with
  | none => s
  | some r =>
    let ahead := (ofLe (s.hostRead r.addr 8) + 2 ^ 64 - x.consumed) % 2 ^ 64
    let n := min (min ahead r.entries) x.streamRoom
    let bs := s.byteRing r x.consumed n
    let k := wrap 64 (x.consumed + n)
    (feedStream i bs (s.setCtx i fun c => { c with consumed := k })).hostWrite (r.addr + 0x20) (le 8 k)

/-- The 64-byte header of an access unit in a byte ring (R445). -/
def unitHeader (i : Nat) (u : AccessUnit) : Bytes :=
  padTo 64 (le 4 0x55414543 ++ le 4 u.data.length ++ le 4 u.frame ++ le 4 u.pic ++ le 8 (i % 64 + 64 * b2n u.irap) ++ le 8 u.time)

/-- The unit at the head of a context's output is discarded as R251 discards, with every later one up to an IRAP picture. -/
def dropUnit (i : Nat) (s : State) : State :=
  let c := s.ctx i
  let gone := (c.output.drop 1).takeWhile (!·.irap)
  let rest := (c.output.drop 1).dropWhile (!·.irap)
  let n := gone.length + 1
  match rest.head? with
  | some u => raise 150 i [u.frame, u.pic, n] none (s.setCtx i fun c => { c with output := rest })
  | none => s.setCtx i fun c => { c with output := [], losing := true, lost := n, lostSize := ((c.output.head?.map (·.data.length))).getD 0 }

/-- BYTE_RING_WRITE (R443, R445). -/
def doByteRingWrite (ring : Nat) (s : State) : State :=
  match (List.range 64).find? fun i => let c := s.ctx i; c.st != .closed && !c.entry.decode && c.entry.outKind == 3 && c.entry.outId == ring && !c.output.isEmpty with
  | none => s
  | some i =>
    let k := at! s.hostRings ring
    match (s.ctx i).output.head?, (if k.nextRing.isSome then k.nextRing else k.ring) with
    | some u, some r =>
      if r.kind ≠ 1 then s
      else
        let s := { s with hostRings := upd s.hostRings ring fun _ => { ring := some { r with inUse := true }, nextRing := none } }
        if r.entries < u.data.length + 64 then drainCtx i (dropUnit i s)
        else
          let bs := unitHeader i u ++ padTo (64 * ceilDiv u.data.length 64) u.data
          let used := (r.produced + 2 ^ 64 - s.ringConsumed r 8) % 2 ^ 64
          if r.entries < used + bs.length then s
          else
            let p := wrap 64 (r.produced + bs.length)
            let s1 := (byteRingWrite r r.produced bs s).hostWrite r.addr (le 8 p)
            let s2 := { s1 with hostRings := upd s1.hostRings ring fun _ => { ring := some { r with produced := p, inUse := true }, nextRing := none } }
            drainCtx i (s2.setCtx i fun c => { c with output := c.output.drop 1 })
    | _, _ => s

/-! ### CODE commands (Table 8-6) -/

/-- A CODE command that names a context of an active plan (R252). -/
def ctxCmd (op d fin : Nat) (bad : DrawerCmd → List (Bool × Nat)) (s : State) (f : DrawerCmd → Nat → HevcEntry → State → State) : State :=
  drawerCmd d op s fun c =>
    let i := 32 * c.w 0 + c.w 4
    checked d c fin ([(decide (1 < c.w 0), 0), (decide (31 < c.w 4) || (s.ctxEntry? i).isNone, 4)] ++ bad c) s fun s =>
      match s.ctxEntry? i with
      | some (_, h) => f c i h s
      | none => s

/-- CODE.OPEN (R225). -/
def doCodeOpen (d : Nat) (s : State) : State :=
  ctxCmd 0x0601 d 8 (fun _ => []) s fun _ i h s =>
    if (s.ctx i).st ≠ .closed then fail d Status.busy s
    else
      let k := ((s.ctxEntry? i).map (·.1)).getD 0
      raise 136 i [] none (done d [] (s.setCtx i fun c => {
        st := .openSt, entry := h, shelf := k, qpBase := h.qpInit, irapDue := true, idrDue := true, skipping := true
        stopped := s.therm.level == 3 && !h.decode
        ring := c.ring, consumed := c.consumed }))

/-- CODE.CLOSE (R226). What follows the last unit whose end the buffer shows is a unit too where it holds a slice (log 64); the rest of
the input is discarded. -/
def doCodeClose (d : Nat) (s : State) : State :=
  ctxCmd 0x0602 d 8 (fun _ => []) s fun _ i _ s =>
    if (s.ctx i).st = .closed then fail d Status.notPermitted s
    else
      let last := fun (c : HevcCtx) => if (nalStarts c.stream 0 0).any fun o => nalLayer c.stream o == 0 && decide (nalType c.stream o < 32) then
          [({ data := c.stream, readyAt := s.reading } : AccessUnit)] else []
      done d [] (s.setCtx i fun c => { c with st := .draining, stream := [], units := c.units ++ last c })

/-- The first frame that the context's slot takes at or after `f` (R198). -/
def nextTaken (g : GraphSlot) (f : Nat) : Nat :=
  wrap 32 (((List.range (g.takeN + 1)).find? fun k => wrap 32 (f + k) % (g.takeN + 1) == g.takePhase).getD 0 + f)

/-- CODE.FORCE_IDR (R235). -/
def doCodeForceIdr (d : Nat) (s : State) : State :=
  ctxCmd 0x0603 d 8 (fun _ => []) s fun _ i h s =>
    if h.decode || (s.ctx i).st != .openSt then fail d Status.notPermitted s
    else match s.feeder? i with
      | none => fail d Status.notPermitted s
      | some (p, k) =>
        let f := nextTaken (p.graph.getD k default) (s.nextSourceFrame k)
        done d (le 4 f) (s.setCtx i fun c => { c with forceIdr := some f })

/-- CODE.PIN_LTR (R236). -/
def doCodePinLtr (d : Nat) (s : State) : State :=
  ctxCmd 0x0604 d 12 (fun _ => []) s fun c i h s =>
    let x := s.ctx i
    let next := ((s.feeder? i).map fun (_, k) => s.nextSourceFrame k).getD 0
    if h.decode || h.ltrMax == 0 || x.st != .openSt then fail d Status.notPermitted s
    else if !serialLe next (c.w 8) then invalid d 8 s
    else
      let p : LtrPin := { frame := c.w 8 }
      if x.pins.length < h.ltrMax then done d [] (s.setCtx i fun c => { c with pins := c.pins ++ [p] })
      else match x.pins.find? (!·.host) with
        | some old => done d [] (s.setCtx i fun c => { c with pins := c.pins.erase old ++ [p] })
        | none => fail d Status.busy s

/-- CODE.UNPIN_LTR (R236). -/
def doCodeUnpinLtr (d : Nat) (s : State) : State :=
  ctxCmd 0x0605 d 12 (fun _ => []) s fun c i _ s =>
    let mine := fun (p : LtrPin) => p.host && p.frame == c.w 8
    if (s.ctx i).pins.any mine then done d [] (s.setCtx i fun c' => { c' with pins := c'.pins.map fun p => if mine p then { p with release := true } else p })
    else invalid d 8 s

/-- CODE.SET_BITSTREAM_RING (R244). -/
def doCodeSetBitstreamRing (d : Nat) (s : State) : State :=
  ctxCmd 0x0606 d 28 (fun c => [(decide (c.q 16 < 4096 + c.w 24), 16), (!(isPow2 (c.w 24) && within (c.w 24) 65536 (2 ^ 30)), 24)]) s fun c i h s =>
    if !h.decode || h.inClip || !s.covered (c.q 8) (c.q 16) true then fail d Status.notPermitted s
    else done d [] (s.setCtx i fun x => { x with ring := some { addr := c.q 8, len := c.q 16, entries := c.w 24 }, consumed := 0 })

/-- CODE.SET_STATS_RING (R253). -/
def doCodeSetStatsRing (d : Nat) (s : State) : State :=
  drawerCmd d 0x0607 s fun c =>
    let n := c.w 24
    checked d c 28 [(decide (1 < c.w 0), 0), (decide (c.q 16 < 4096 + 64 * n), 16), (!(isPow2 n && within n 16 4096), 24)] s fun s =>
      if !s.covered (c.q 8) (c.q 16) true then fail d Status.notPermitted s
      else done d [] { s with engines := upd s.engines (c.w 0) fun x => { x with nextRing := some { addr := c.q 8, len := c.q 16, entries := n, slot := 64 } } }

/-- CODE.GET_CONTEXT (Table 8-6): its values in listed order, the pins as a count and then FRAME and kind of each. -/
def doCodeGetContext (d : Nat) (s : State) : State :=
  ctxCmd 0x0608 d 8 (fun _ => []) s fun _ i _ s =>
    let c := s.ctx i
    let st := match c.st with
      | .closed => 0
      | .openSt => 1
      | .draining => 2
    done d (le 4 st ++ le 4 c.pic ++ le 8 c.window ++ le 8 c.spent ++ le 4 c.qpBase ++ le 4 c.pins.length ++
      c.pins.flatMap fun p => le 4 p.frame ++ le 4 (if p.host then 1 else 2)) s

/-! ### The commands -/

def execPictureBoundary (engine : Nat) (s : State) : Out := whenLive s (doPictureBoundary engine)
def execDecodeWatchdog (engine c : Nat) (s : State) : Out := whenLive s (doDecodeWatchdog engine c)
def execBitstreamCopy (engine c : Nat) (s : State) : Out := whenLive s (doBitstreamCopy engine c)
def execByteRingWrite (ring : Nat) (s : State) : Out := whenLive s (doByteRingWrite ring)
def execCodeOpen (d : Nat) (s : State) : Out := whenLive s (doCodeOpen d)
def execCodeClose (d : Nat) (s : State) : Out := whenLive s (doCodeClose d)
def execCodeForceIdr (d : Nat) (s : State) : Out := whenLive s (doCodeForceIdr d)
def execCodePinLtr (d : Nat) (s : State) : Out := whenLive s (doCodePinLtr d)
def execCodeUnpinLtr (d : Nat) (s : State) : Out := whenLive s (doCodeUnpinLtr d)
def execCodeSetBitstreamRing (d : Nat) (s : State) : Out := whenLive s (doCodeSetBitstreamRing d)
def execCodeSetStatsRing (d : Nat) (s : State) : Out := whenLive s (doCodeSetStatsRing d)
def execCodeGetContext (d : Nat) (s : State) : Out := whenLive s (doCodeGetContext d)

end Sys2Proof.Machine
end

