-- ==== Sys2Proof/Machine/Compression.lean ====
section
/-! DEFINITION. The compression engine: Zstandard frames, jobs, handles (12_compression_engine.md R343 to R357), and the acquisition of
dynamic memory (13_attic_and_cellar.md R392). -/

namespace Sys2Proof.Machine

open Sys2Proof

/-! ### Dynamic space (R392) -/

/-- Free pages of DYN_ATTIC and of DYN_CELLAR. -/
def State.dynFree (s : State) : Nat × Nat :=
  (s.memSec.dynAttic - sumNat (s.mem.acqs.map fun a => if a.gotAttic then a.attic else 0),
   s.memSec.dynCellar - sumNat (s.mem.acqs.map fun a => if a.gotCellar then a.cellar else 0))

/-- The acquisition has everything. -/
def Acquisition.complete (a : Acquisition) : Bool := a.gotAttic && a.gotCellar

/-- The state with an acquisition changed. -/
def State.setAcq (s : State) (id : Nat) (f : Acquisition → Acquisition) : State :=
  { s with mem := { s.mem with acqs := s.mem.acqs.map fun a => if a.id = id then f a else a } }

/-- An acquisition takes what is free: its Attic part first, then its Cellar part (R392). -/
def tryAcquire (id : Nat) (s : State) : State :=
  match s.mem.acqs.find? (·.id == id) with
  | none => s
  | some a =>
    if a.waiting then s
    else
      let s := if !a.gotAttic && decide (a.attic ≤ s.dynFree.1) then s.setAcq id fun a => { a with gotAttic := true } else s
      let got := (s.mem.acqs.find? (·.id == id)).any (·.gotAttic)
      if got && decide (a.cellar ≤ s.dynFree.2) then s.setAcq id fun a => { a with gotCellar := true } else s

/-- An acquisition begins (R392); its number. -/
def acquire (cls attic cellar : Nat) (s : State) : Nat × State :=
  let id := s.mem.acqCtr
  (id, tryAcquire id { s with mem := { s.mem with
    acqCtr := id + 1, acqs := s.mem.acqs ++ [{ id := id, cls := cls, attic := attic, cellar := cellar, since := s.now }] } })

/-- An operation releases its space. -/
def releaseAcq (id : Nat) (s : State) : State := { s with mem := { s.mem with acqs := s.mem.acqs.filter (·.id != id) } }

/-- The operation holds all its space. -/
def State.acquired (s : State) (id : Nat) : Bool := (s.mem.acqs.find? (·.id == id)).any Acquisition.complete

/-! ### XXH64 (RFC 8878, R346) -/

def xxP1 : Nat := 0x9E3779B185EBCA87
def xxP2 : Nat := 0xC2B2AE3D27D4EB4F
def xxP3 : Nat := 0x165667B19E3779F9
def xxP4 : Nat := 0x85EBCA77C2B2AE63
def xxP5 : Nat := 0x27D4EB2F165667C5

/-- Rotate left in 64 bits. -/
def rol64 (x n : Nat) : Nat := (x * 2 ^ n + x / 2 ^ (64 - n)) % 2 ^ 64

/-- One accumulator round. -/
def xxRound (acc lane : Nat) : Nat := rol64 ((acc + lane * xxP2) % 2 ^ 64) 31 * xxP1 % 2 ^ 64

/-- One accumulator merged into the digest. -/
def xxMerge (acc v : Nat) : Nat := ((acc ^^^ xxRound 0 v) * xxP1 + xxP4) % 2 ^ 64

/-- The stripes of 32 bytes, over four accumulators. -/
def xxStripes : Nat → Bytes → Nat × Nat × Nat × Nat → Nat × Nat × Nat × Nat
  | 0, _, a => a
  | n + 1, bs, (a, b, c, d) =>
    xxStripes n (bs.drop 32) (xxRound a (fieldLe bs 0 8), xxRound b (fieldLe bs 8 8), xxRound c (fieldLe bs 16 8), xxRound d (fieldLe bs 24 8))

/-- The last bytes, 8, 4 and 1 at a time. -/
def xxTail : Nat → Bytes → Nat → Nat
  | 0, _, h => h
  | n + 1, bs, h =>
    if 8 ≤ bs.length then xxTail n (bs.drop 8) ((rol64 (h ^^^ xxRound 0 (fieldLe bs 0 8)) 27 * xxP1 + xxP4) % 2 ^ 64)
    else if 4 ≤ bs.length then xxTail n (bs.drop 4) ((rol64 (h ^^^ (fieldLe bs 0 4 * xxP1 % 2 ^ 64)) 23 * xxP2 + xxP3) % 2 ^ 64)
    else match bs with
      | [] => h
      | b :: r => xxTail n r (rol64 (h ^^^ (b.toNat * xxP5 % 2 ^ 64)) 11 * xxP1 % 2 ^ 64)

/-- XXH64 with seed 0. -/
def xxh64 (bs : Bytes) : Nat :=
  let n := bs.length / 32
  let h := if n = 0 then xxP5
    else
      let (a, b, c, d) := xxStripes n bs ((xxP1 + xxP2) % 2 ^ 64, xxP2, 0, 2 ^ 64 - xxP1)
      xxMerge (xxMerge (xxMerge (xxMerge ((rol64 a 1 + rol64 b 7 + rol64 c 12 + rol64 d 18) % 2 ^ 64) a) b) c) d
  let h := xxTail 32 (bs.drop (32 * n)) ((h + bs.length) % 2 ^ 64)
  let h := (h ^^^ (h / 2 ^ 33)) * xxP2 % 2 ^ 64
  let h := (h ^^^ (h / 2 ^ 29)) * xxP3 % 2 ^ 64
  h ^^^ (h / 2 ^ 32)

/-! ### Frames (R346, R349, R350) -/

/-- A frame's Frame_Content_Size field and the flag that gives its width, of RFC 8878. -/
def contentSize (n : Nat) : Nat × Bytes := if n < 256 then (0, le 1 n) else if n < 65792 then (1, le 2 (n - 256)) else (2, le 4 n)

/-- One data block of at most 128 KiB: as the encoder codes it, or Raw when that would grow (R346). -/
def dataBlock (effort : Nat) (b : Bytes) (i : Nat) (last : Bool) : Bytes :=
  let chunk := (b.drop (131072 * i)).take 131072
  let (t, c) := Config.zstdBlock effort b i
  if t % 4 = 1 then le 3 (b2n last + 2 + 8 * chunk.length) ++ padTo 1 chunk
  else if t % 4 = 2 ∧ c.length < chunk.length then le 3 (b2n last + 4 + 8 * c.length) ++ c
  else le 3 (b2n last + 8 * chunk.length) ++ chunk

/-- The Zstandard frame of one block (R346): single segment, content checksum, no dictionary. An RLE block is written only for a run
of one byte. -/
def zstdFrame (effort : Nat) (b : Bytes) : Bytes :=
  let (flag, fcs) := contentSize b.length
  let n := max 1 (ceilDiv b.length 131072)
  let rle := fun (i : Nat) => (let chunk := (b.drop (131072 * i)).take 131072; chunk.all (· == chunk.headD 0))
  le 4 0xFD2FB528 ++ le 1 (64 * flag + 32 + 4) ++ fcs ++
  (List.range n).flatMap (fun i =>
    let last := decide (i + 1 = n)
    let d := dataBlock effort b i last
    let chunk := (b.drop (131072 * i)).take 131072
    if bits (ofLe (d.take 1)) 1 2 = 1 ∧ rle i = false then le 3 (b2n last + 8 * chunk.length) ++ chunk else d) ++
  le 4 (xxh64 b % 2 ^ 32)

/-- What stands at the head of a compressed input: nothing whole, a skippable frame of some length, a frame that breaks a limit, one
whose checksum fails, or a frame with its length and content (R349, R350). -/
inductive ZFrame where
  | skip (len : Nat)
  | broken
  | badSum
  | good (len : Nat) (content : Bytes)
  deriving DecidableEq, Repr

/-- Bytes of a frame's data blocks, from their headers; `fuel` bounds the blocks. -/
def blocksLength : Nat → Bytes → Nat → Option Nat
  | 0, _, _ => none
  | n + 1, bs, acc =>
    if bs.length < 3 then none
    else
      let h := fieldLe bs 0 3
      let size := if bits h 1 2 = 1 then 1 else h / 8
      if bits h 1 2 = 3 ∨ bs.length < 3 + size then none
      else if bit h 0 then some (acc + 3 + size)
      else blocksLength n (bs.drop (3 + size)) (acc + 3 + size)

/-- The frame at the head of the input (R349, R350). -/
def readFrame (bs : Bytes) : ZFrame :=
  if bs.length < 8 then .broken
  else if 0x184D2A50 ≤ fieldLe bs 0 4 ∧ fieldLe bs 0 4 ≤ 0x184D2A5F then
    (if bs.length < 8 + fieldLe bs 4 4 then .broken else .skip (8 + fieldLe bs 4 4))
  else if fieldLe bs 0 4 ≠ 0xFD2FB528 then .broken
  else
    let fhd := fieldLe bs 4 1
    let single := bit fhd 5
    let flag := fhd / 64
    let dict := fhd % 4
    let fcsLen := match flag with | 0 => if single then 1 else 0 | 1 => 2 | 2 => 4 | _ => 8
    let dictLen := match dict with | 0 => 0 | 1 => 1 | 2 => 2 | _ => 4
    let o := 5 + (if single then 0 else 1) + dictLen
    let size := fieldLe bs o fcsLen + (if flag = 1 then 256 else 0)
    if fcsLen = 0 ∨ 4194304 < size ∨ bit fhd 2 = false ∨ fieldLe bs (5 + (if single then 0 else 1)) dictLen ≠ 0 ∨ bit fhd 3 = true then .broken
    else match blocksLength (bs.length + 1) (bs.drop (o + fcsLen)) 0 with
      | none => .broken
      | some n =>
        let len := o + fcsLen + n + 4
        if bs.length < len then .broken
        else match Config.zstdDecode (bs.take len) with
          | none => .broken
          | some c =>
            if c.length ≠ size then .broken
            else if xxh64 c % 2 ^ 32 ≠ fieldLe bs (len - 4) 4 then .badSum
            else .good len c

/-! ### Jobs (R343 to R355) -/

/-- The 64 bytes of Table 12-3. -/
def Job.result (j : Job) (handle failOffset hash : Nat) : Bytes :=
  le 8 j.inNow ++ le 8 j.outNow ++ le 8 (j.inBefore + j.inNow) ++ le 8 (j.outBefore + j.outNow) ++ le 8 handle ++ le 4 j.frames ++ le 4 0 ++
  le 8 failOffset ++ le 8 hash

/-- FAIL_OFFSET that names nothing. -/
def noOffset : Nat := 2 ^ 64 - 1

/-- The job's call is over: its space is free, its result is posted, and cancels that wait for it complete (R354). -/
def endJob (j : Job) (status handle failOffset hash : Nat) (s : State) : State :=
  let s := releaseAcq j.acq { s with store := { s.store with jobs := s.store.jobs.filter (·.drawer != j.drawer) } }
  let s := postResult j.drawer status noDetail (j.result handle failOffset hash) s
  j.cancel.foldl (fun s d => postResult d (if status = Status.aborted then Status.abortedOk else Status.alreadyDone) noDetail [] s) s

/-- A handle is released (R353). -/
def releaseHandle (n : Nat) (s : State) : State := { s with store := { s.store with handles := s.store.handles.filter (·.num != n) } }

/-- The job stops and may be resumed: its handle, a new one, or 0 when all eight are held (R351, R353). -/
def stopJob (j : Job) (status : Nat) (s : State) : State :=
  let held := j.handle != 0 && s.store.handles.any (·.num == j.handle)
  if !held && decide (8 ≤ s.store.handles.length) then endJob j status 0 noOffset 0 s
  else
    let h := if held then j.handle else s.store.handleCtr + 1
    let s := releaseHandle h s
    let s := { s with store := { s.store with
      handleCtr := if held then s.store.handleCtr else h, handles := s.store.handles ++ [{ num := h, job := j, issued := s.now }] } }
    endJob j status h noOffset 0 s

/-- The job is over, and the handle that its call named is released (R353). -/
def finishJob (j : Job) (status failOffset hash : Nat) (s : State) : State := endJob j status 0 failOffset hash (releaseHandle j.handle s)

/-- Spans overlap (R344). -/
def overlap (a n b m : Nat) : Bool := decide (a < b + m) && decide (b < a + n)

/-- The descriptor of Table 12-1. -/
def DrawerCmd.job (c : DrawerCmd) (d : Nat) (decompress : Bool) : Job :=
  let ctl := c.w 0x2C
  { drawer := d, decompress := decompress, src := c.q 0, srcLen := c.q 8, dst := c.q 0x10, dstLen := c.q 0x18, idx := c.q 0x20
    idxLen := c.w 0x28, blockLog2 := ctl % 8, effort := bits ctl 3 2, verify := bit ctl 5, jobLen := c.q 8 }

/-- MEM.COMPRESS and MEM.DECOMPRESS (R343, R344, R351, R353): the job starts, or resumes under its handle. -/
def startJob (d op : Nat) (decompress : Bool) (s : State) : State :=
  drawerCmd d op s fun c =>
    let j := c.job d decompress
    let big := fun (n : Nat) => decide (2 ^ 40 ≤ n)
    let v := j.verify
    let bad := [(j.srcLen == 0 || big j.srcLen, 8), (v && decompress && j.dst != 0, 0x10),
      (big j.dstLen || (if v && decompress then j.dstLen != 0 else j.dstLen == 0), 0x18), (decompress && j.idx != 0, 0x20),
      (decide (j.idxLen % 8 ≠ 0) || (j.idx == 0 && j.idxLen != 0), 0x28),
      (decide (64 ≤ c.w 0x2C) || (if decompress then j.blockLog2 != 0 || j.effort != 0 else v || decide (6 < j.blockLog2)), 0x2C),
      (overlap j.src j.srcLen j.dst j.dstLen, 0x10), (j.idx != 0 && (overlap j.src j.srcLen j.idx j.idxLen || overlap j.dst j.dstLen j.idx j.idxLen), 0x20)]
    let refuse := fun (status detail : Nat) (s : State) => postResult d status detail (({} : Job).result 0 noOffset 0) s
    match firstBad c 0x38 bad with
    | some o => refuse Status.invalidField (0x10 + o) s
    | none =>
      let resume := c.q 0x30
      let old := s.store.handles.find? (·.num == resume)
      if 2 ≤ s.sys.pstate then refuse Status.notPermitted noDetail s
      else if !s.covered j.src j.srcLen false || !s.covered j.dst j.dstLen true || (j.idx != 0 && !s.covered j.idx j.idxLen true) then
        refuse Status.notPermitted noDetail s
      else if 4 ≤ s.store.jobs.length ∨ (resume ≠ 0 ∧ (s.store.jobs.any (·.handle == resume)) = true) then refuse Status.busy noDetail s
      else
        let b := if decompress then 4194304 else 2 ^ (16 + j.blockLog2)
        let run := fun (j : Job) => (let (a, s) := acquire 6 (2 * b / 4096) 0 s
          ({ s with store := { s.store with jobs := s.store.jobs ++ [{ j with acq := a }] } }).begin d)
        if resume = 0 then run j
        else match old with
          | none => refuse Status.invalidField (0x10 + 0x30) s
          | some h =>
            let k := h.job
            let inTotal := k.inBefore + k.inNow
            if k.decompress != decompress || j.srcLen != k.jobLen - inTotal then refuse Status.invalidField (0x10 + 8) s
            else if j.blockLog2 != k.blockLog2 || j.effort != k.effort then refuse Status.invalidField (0x10 + 0x2C) s
            else run { j with
              jobLen := k.jobLen, inBefore := inTotal, outBefore := k.outBefore + k.outNow, framesBefore := k.framesBefore + k.frames
              seen := k.seen, handle := resume }

def doMemCompress (d : Nat) (s : State) : State := startJob d 0x0E0A false s
def doMemDecompress (d : Nat) (s : State) : State := startJob d 0x0E0B true s

/-- The job with one more frame of `n` input bytes and `m` output bytes. -/
def Job.frame (j : Job) (n m : Nat) : Job := { j with inNow := j.inNow + n, outNow := j.outNow + m, frames := j.frames + 1 }

/-- The job goes to the end of the turn (R343). -/
def keepJob (j : Job) (s : State) : State :=
  { s with store := { s.store with jobs := s.store.jobs.filter (·.drawer != j.drawer) ++ [j] } }

/-- One frame of a compress job (R346, R348, R351, R352). -/
def compressFrame (j : Job) (s : State) : State :=
  let n := min (2 ^ (16 + j.blockLog2)) (j.srcLen - j.inNow)
  let block := s.hostRead (j.src + j.inNow) n
  let f := zstdFrame j.effort block
  let total := j.outBefore + j.outNow
  if j.jobLen ≤ total + f.length then finishJob j Status.notShrunk noOffset 0 s
  else if j.dstLen < j.outNow + f.length ∨ (j.idx ≠ 0 ∧ j.idxLen < 8 * (j.frames + 1)) then stopJob j Status.noSpace s
  else
    let s := s.hostWrite (j.dst + j.outNow) f
    let s := if j.idx = 0 then s else s.hostWrite (j.idx + 8 * j.frames) (le 8 total)
    let k : Job := { j.frame n f.length with seen := j.seen ++ block }
    if k.inNow = k.srcLen then finishJob k Status.ok noOffset (xxh64 k.seen) s else keepJob k s

/-- One frame of a decompress job (R349 to R351). -/
def decompressFrame (j : Job) (s : State) : State :=
  let next := fun (k : Job) (s : State) => if k.inNow = k.srcLen then finishJob k Status.ok noOffset 0 s else keepJob k s
  match readFrame (s.hostRead (j.src + j.inNow) (j.srcLen - j.inNow)) with
  | .skip n => next { j with inNow := j.inNow + n } s
  | .broken => finishJob j Status.invalidField j.inNow 0 s
  | .badSum =>
    -- DST from OUT_PRODUCED onward holds undefined content (R350)
    let n := j.dstLen - j.outNow
    let (k, s) := s.takeFree
    finishJob j Status.integrity j.inNow 0 (if j.verify then s else s.hostWrite (j.dst + j.outNow) (le n (Config.freeBits (8 * n) k)))
  | .good n c =>
    if j.verify then next (j.frame n 0) s
    else if j.dstLen < j.outNow + c.length then stopJob j Status.noSpace s
    else next (j.frame n c.length) (s.hostWrite (j.dst + j.outNow) c)

/-- COMPRESSION_FRAME (R343): the job whose turn it is takes its next frame, once it holds its staging buffers; at the frame boundary
it stops for a cancel or a power-state entry (R354, R355). -/
def doCompressionFrame (s : State) : State :=
  let s := s.store.jobs.foldl (fun s j => tryAcquire j.acq s) s
  match s.store.jobs.find? fun j => !j.cancel.isEmpty || j.power.isSome || s.acquired j.acq with
  | none => s
  | some j =>
    if !j.cancel.isEmpty then finishJob j Status.aborted noOffset 0 s
    else match j.power with
      | some 2 => stopJob j Status.aborted s
      | some _ => finishJob j Status.aborted noOffset 0 s
      | none => if j.decompress then decompressFrame j s else compressFrame j s

/-- The handover of an activation: running jobs complete with ABORTED and HANDLE 0, and handles are released (R353, R436). -/
def endJobs (s : State) : State :=
  let s := s.store.jobs.foldl (fun s j => finishJob j Status.aborted noOffset 0 s) s
  { s with store := { s.store with handles := [] } }

/-- An error in staging or in a transfer of the job's Drawer ends it with MEDIA_ERROR and HANDLE 0 (R356, R442). -/
def failJob (d : Nat) (s : State) : State :=
  match s.store.jobs.find? (·.drawer == d) with
  | some j => finishJob j Status.mediaError noOffset 0 s
  | none => s

/-- MEM.JOB_CANCEL (R354): DRAWER at payload byte 0, HANDLE at 8; a HANDLE that is not 0 is what it names. -/
def doMemJobCancel (d : Nat) (s : State) : State :=
  drawerCmd d 0x0E0C s fun c =>
    let h := c.q 8
    checked d c 16 [(decide (19 < c.w 0) || (h != 0 && c.w 0 != 0), 0)] s fun s =>
      if h ≠ 0 then
        if s.store.jobs.any (·.handle == h) then fail d Status.busy s
        else if s.store.handles.any (·.num == h) then fail d Status.abortedOk (releaseHandle h s)
        else fail d Status.alreadyDone s
      else
        let mine := fun (j : Job) => (s.drawer j.drawer).num == c.w 0 && !(s.drawer j.drawer).orphan
        if s.store.jobs.any mine then
          ({ s with store := { s.store with jobs := s.store.jobs.map fun j => if mine j then { j with cancel := j.cancel ++ [d] } else j } }).begin d
        else fail d Status.alreadyDone s

/-- HANDLE_EXPIRY (R353). -/
def doHandleExpiry (h : Nat) (s : State) : State :=
  if s.store.handles.any (fun x => x.num == h && decide (x.issued + 60000000000 ≤ s.now)) && !s.store.jobs.any (·.handle == h) then releaseHandle h s
  else s

/-! ### The commands -/

def execMemCompress (d : Nat) (s : State) : Out := whenLive s (doMemCompress d)
def execMemDecompress (d : Nat) (s : State) : Out := whenLive s (doMemDecompress d)
def execMemJobCancel (d : Nat) (s : State) : Out := whenLive s (doMemJobCancel d)
def execCompressionFrame (s : State) : Out := whenLive s doCompressionFrame
def execHandleExpiry (h : Nat) (s : State) : Out := whenLive s (doHandleExpiry h)

end Sys2Proof.Machine
end

