-- ==== Sys2Proof/Machine/Security.lean ====
section
/-! DEFINITION. Sessions, the Chest, attestation and the random source (16_security.md, R457 to R484). -/

namespace Sys2Proof.Machine

open Sys2Proof

/-- A number that the random source draws; each request advances its count (R477). -/
def State.draw (s : State) : Nat × State := (s.sys.drbg, { s with sys := { s.sys with drbg := s.sys.drbg + 1 } })

/-! ### The running image's header (Table 16-2) -/

/-- The running image's bytes; none before the boot. -/
def State.imageBytes (s : State) : Bytes :=
  match s.sys.image with
  | some i => i.bytes
  | none => []

/-- The public key that issues role certificates: the maker's, or Caerne's when no maker is bound (Table 16-3, log 21). -/
def State.issuerKey (s : State) : Bytes :=
  if allZero Config.makerKeyHash then slice s.imageBytes 0x080 96 else slice s.imageBytes 0x140 96

/-- ISSUER_HASH that a role certificate carries (Table 16-3). -/
def issuerHash : Bytes := if allZero Config.makerKeyHash then Config.caerneKeyHash else Config.makerKeyHash

/-- A role certificate verifies under R463. -/
def State.certVerifies (s : State) (cert : Bytes) : Bool :=
  fieldLe cert 0 4 == 0x54524543 && fieldLe cert 6 2 == 0 && allZero (slice cert 0x28 0x18) &&
  slice cert 0xA0 48 == issuerHash && Config.sha384 s.issuerKey == issuerHash &&
  Config.ecdsaVerify s.issuerKey (slice cert 0 0xD0) (slice cert 0xD0 96)

/-- Validity times hold, where the time base lets them be checked (R467). -/
def State.inValidity (s : State) (notBefore notAfter : Nat) : Bool :=
  !s.time.synced || (decide (notBefore ≤ s.reading) && (notAfter == 0 || decide (s.reading ≤ notAfter)))

/-! ### Sessions (R466 to R471) -/

/-- A session ends: its keys are erased, but for accepted commands that still post under them (R471). -/
def dropSession (id : Nat) (s : State) : State :=
  let used := s.drawers.any fun x => x.st == .busy && x.cmd.enc && x.cmd.session == id
  let gone := s.sec.sessions.filter (·.id == id)
  { s with sec := { s.sec with
    sessions := s.sec.sessions.filter (·.id != id)
    ended := if used then s.sec.ended ++ gone else s.sec.ended } }

/-- A session ends with EVT.SEC.SESSION_CLOSED and its cause (R471); the cause's number is the implementation's (log 14). -/
def endSession (id cause : Nat) (s : State) : State :=
  raise 258 0 [id, Config.code "SESSION_CLOSED" cause] none (dropSession id s)

/-- Every session ends (R471). -/
def endAllSessions (cause : Nat) (s : State) : State := s.sec.sessions.foldl (fun s k => endSession k.id cause s) s

/-- CHEST.SESSION_OPEN (R466, R468, R477, R482). -/
def doChestSessionOpen (d : Nat) (s : State) : State :=
  drawerCmd d 0x0C01 s fun c =>
    let role := c.w 0
    checked d c 104 [(decide (role < 1 ∨ 3 < role), 0)] s fun s =>
      if s.sec.debugOpen && role == 2 then fail d Status.notPermitted s
      else if s.sec.entropyBad || decide (8 ≤ s.sec.sessions.length) then fail d Status.busy s
      else
        let (k1, s1) := s.draw
        let (k2, s2) := s1.draw
        let id := ofLe (Config.randomBytes k1 4) % (2 ^ 32 - 1) + 1
        let pair := Config.ephemeral k2
        let k : Session := { id := id, role := role, opened := s.now, hostKey := slice c.payload 8 96, devKey := pair.2, devPriv := pair.1 }
        done d (le 4 id ++ le 4 0 ++ padTo 96 pair.2) { s2 with sec := { s2.sec with sessions := s2.sec.sessions ++ [k] } }

/-- The transcript hash of R466. -/
def Session.transcript (k : Session) : Bytes :=
  Config.sha384 (le 4 k.role ++ le 4 k.id ++ k.hostKey ++ k.devKey ++ k.cert)

/-- Every condition of R467 on PART 4 holds. -/
def State.finishOk (s : State) (k : Session) (sig : Bytes) : Bool :=
  s.certVerifies k.cert && fieldLe k.cert 4 1 == 2 && fieldLe k.cert 5 1 == k.role &&
  (fieldLe k.cert 8 8 == 0 || fieldLe k.cert 8 8 == Config.deviceUid) &&
  Config.ecdsaVerify (slice k.cert 0x40 96) (ascii "caerne-host" ++ k.transcript) sig &&
  s.inValidity (fieldLe k.cert 0x10 8) (fieldLe k.cert 0x18 8)

/-- The session with its keys, and its ephemeral private key erased (R466). -/
def Session.complete (k : Session) : Session :=
  let prk := Config.hkdfExtract k.transcript (Config.ecdh k.devPriv k.hostKey)
  { k with
    half := false, devPriv := []
    kCmd := Config.hkdfExpand prk (ascii "caerne cmd") 32
    kRes := Config.hkdfExpand prk (ascii "caerne res") 32
    kWrap := Config.hkdfExpand prk (ascii "caerne wrap") 32 }

/-- The state with session `id` changed. -/
def State.setSession (s : State) (id : Nat) (f : Session → Session) : State :=
  { s with sec := { s.sec with sessions := s.sec.sessions.map fun k => if k.id = id then f k else k } }

/-- CHEST.SESSION_FINISH (R466 to R468). -/
def doChestSessionFinish (d : Nat) (s : State) : State :=
  drawerCmd d 0x0C02 s fun c =>
    let id := c.w 0
    let part := c.w 4
    checked d c (if part = 3 then 24 else 104) [(decide (4 < part), 4)] s fun s =>
      match s.sec.sessions.find? fun k => k.id == id && k.half with
      | none => invalid d 0 s
      | some k =>
        if k.part ≠ part then invalid d 4 s
        else if part < 4 then
          done d [] (s.setSession id fun k => { k with part := part + 1, cert := k.cert ++ slice c.payload 8 (if part = 3 then 16 else 96) })
        else if s.finishOk k (slice c.payload 8 96) then
          let flags := b2n (!s.time.synced)
          let sig := s.identitySign (ascii "caerne-device" ++ k.transcript)
          raise 256 0 [id, k.role] none (done d (padTo 96 sig ++ le 4 flags) (s.setSession id Session.complete))
        else raise 257 0 [] none (fail d Status.notPermitted (dropSession id s))

/-- CHEST.SESSION_CLOSE (R471): ends the session it is sent under. -/
def doChestSessionClose (d : Nat) (s : State) : State :=
  drawerCmd d 0x0C03 s fun c => checked d c 0 [] s fun s => done d [] (endSession c.session 0 s)

/-- SESSION_HANDSHAKE_TIMEOUT (R468). -/
def doSessionHandshakeTimeout (id : Nat) (s : State) : State :=
  if s.sec.sessions.any fun k => k.id == id && k.half && decide (k.opened + 10000000000 ≤ s.now) then endSession id 1 s else s

/-- A Drawer entry that R449 frees: its running command goes on under a new table entry's Drawer number, with its result
discarded. -/
def freeRemote (id : Nat) (s : State) (i : Nat) : State :=
  let d := s.net.map.getD i (16 + i)
  let dr := s.drawer d
  if dr.cmd.session ≠ id ∨ dr.cmd.enc = false then s
  else if dr.st = .done then s.setDrawer d fun x => { x with st := .free, cmd := {}, res := {} }
  else if dr.st = .busy then
    let s1 := s.setDrawer d fun x => { x with orphan := true }
    { s1 with drawers := s1.drawers ++ [{}], net := { s1.net with map := s1.net.map.set i s1.drawers.length } }
  else s

/-- REMOTE_SESSION_IDLE (R449). -/
def doRemoteSessionIdle (id : Nat) (s : State) : State :=
  let idle := fun (k : Session) => k.id == id && (match k.lastRemote with | some t => decide (t + 60000000000 ≤ s.now) | none => false)
  if s.sec.sessions.any idle then
    raise 307 0 [id] none ((List.range 4).foldl (freeRemote id) (dropSession id s))
  else s

/-! ### The Chest (R472 to R476) -/

/-- The 24-byte entry of CHEST.LIST_KEYS for a slot; an empty slot has USAGE 0 and ID 0 (Table 16-7). -/
def chestEntry (n : Nat) (x : Option ChestSlot) : Bytes :=
  match x with
  | some k => le 4 n ++ le 4 k.usage ++ padTo 16 k.id
  | none => le 4 n ++ le 4 0 ++ padTo 16 []

/-- The sealed region of the boot flash is rewritten when the device booted from QSPI (R476). -/
def sealChest (s : State) : State :=
  if s.sys.bootSel then s
  else { s with sys := { s.sys with flash := { s.sys.flash with chest := s.sec.slots, chestIntact := true } } }

/-- The slot whose key has an ID (R473). -/
def State.slotOfId (s : State) (id : Bytes) : Option Nat :=
  (List.range 64).find? fun n => match at! s.sec.slots n with | some k => k.id == id | none => false

/-- CHEST.IMPORT_KEY (R474). -/
def doChestImportKey (d : Nat) (s : State) : State :=
  drawerCmd d 0x0C06 s fun c =>
    let slot := c.w 0
    let usage := c.w 4
    let ws := c.w 8
    let id := slice c.payload 16 16
    checked d c 72 [(decide (63 < slot), 0), (decide (7 < usage), 4), (decide (63 < ws ∧ ws ≠ 0xFF), 8)] s fun s =>
      let kek : Option (Option Bytes) :=
        if ws = 0xFF then some ((s.sec.keysOf c.session).map (·.kWrap))
        else match at! s.sec.slots ws with
          | some k => some (if bit k.usage 1 then some k.key else none)
          | none => none
      match kek with
      | none => invalid d 8 s
      | some none => fail d Status.notPermitted s
      | some (some kek) =>
        if (at! s.sec.slots slot).isSome then fail d Status.busy s
        else if usage = 0 then invalid d 4 s
        else if (s.slotOfId id).isSome then invalid d 16 s
        else match Config.keyUnwrap kek (slice c.payload 32 40) with
          | none => fail d Status.integrity s
          | some key =>
            let s1 := { s with sec := { s.sec with slots := s.sec.slots.set slot (some { key := key, id := id, usage := usage }) } }
            raise 260 0 [slot, fieldLe id 0 4, fieldLe id 4 4, fieldLe id 8 4] none (done d [] (sealChest s1))

/-- CHEST.LIST_KEYS (Table 16-7): as many whole entries from FIRST as the result holds, at most 4 (log 19). -/
def doChestListKeys (d : Nat) (s : State) : State :=
  drawerCmd d 0x0C07 s fun c => checked d c 4 [(decide (63 < c.w 0), 0)] s fun s =>
    let n := min (if c.enc then 3 else 4) (64 - c.w 0)
    done d (le 4 n ++ le 4 0 ++ (List.range n).flatMap fun i => chestEntry (c.w 0 + i) (at! s.sec.slots (c.w 0 + i))) s

/-- CHEST.DELETE_KEY (R475). -/
def doChestDeleteKey (d : Nat) (s : State) : State :=
  drawerCmd d 0x0C08 s fun c => checked d c 4 [(decide (63 < c.w 0), 0)] s fun s =>
    let slot := c.w 0
    if (at! s.sec.slots slot).isNone then invalid d 0 s
    else if s.sec.working.any (·.slot == some slot) then fail d Status.busy s
    else raise 261 0 [slot] none (done d [] (sealChest { s with sec := { s.sec with slots := s.sec.slots.set slot none } }))

/-! ### Identity and attestation (R462 to R465) -/

/-- CHEST.GET_CERT (Table 16-7). -/
def doChestGetCert (d : Nat) (s : State) : State :=
  drawerCmd d 0x0C05 s fun c => checked d c 4 [(decide (3 < c.w 0), 0)] s fun s =>
    done d (slice identityCert (96 * c.w 0) (if c.w 0 = 3 then 16 else 96)) s

/-- PLAN_DIGEST of Table 16-4. -/
def State.planDigest (s : State) : Bytes :=
  Config.sha384 (s.shelves.flatMap fun x => if x.st = .active then le 48 x.digest else List.replicate 48 0)

/-- CHEST_DIGEST of Table 16-4. -/
def State.chestDigest (s : State) : Bytes :=
  Config.sha384 ((List.range 64).flatMap fun n => chestEntry n (at! s.sec.slots n))

/-- Bytes 0x000 to 0x0FF of the attestation report (Table 16-4). -/
def State.attestBody (s : State) (nonce : Bytes) : Bytes :=
  let i := s.sys.image.getD {}
  le 4 0x53545441 ++ le 2 1 ++
  le 2 (i.slot + 2 * b2n s.sec.debugOpen + 4 * b2n s.sys.service + 8 * b2n i.fallback) ++
  le 8 Config.deviceUid ++ le 8 s.reading ++ le 1 s.sys.rollback ++ slice i.bytes 7 1 ++ slice i.bytes 8 2 ++ slice i.bytes 6 1 ++
  le 1 (match s.time.st with | .unsync => 0 | .acquiring => 1 | .locked => 2 | .holdover => 3) ++ le 2 0 ++
  padTo 32 nonce ++ padTo 48 (Config.sha384 (slice i.bytes 0 0x80)) ++ padTo 48 Config.makerKeyHash ++ padTo 48 s.planDigest ++
  padTo 48 s.chestDigest

/-- CHEST.ATTEST (R465). -/
def doChestAttest (d : Nat) (s : State) : State :=
  drawerCmd d 0x0C04 s fun c => checked d c 48 [] s fun s =>
    if 16 ≤ (s.drawer d).num then fail d Status.notPermitted s
    else withDest d (c.buf 32) 0x160 s fun s =>
      let body := s.attestBody (slice c.payload 0 32)
      let sig := padTo 96 (s.identitySign body)
      raise 267 0 [] none (done d (le 4 0x160) (s.hostWrite (c.q 32) (body ++ sig)))

/-! ### The random source (R477) -/

/-- ENTROPY_FAIL (R477). -/
def doEntropyFail (s : State) : State :=
  if s.sec.entropyBad then s else raise 269 0 [] none { s with sec := { s.sec with entropyBad := true } }

/-- ENTROPY_PASS (R477). -/
def doEntropyPass (s : State) : State := { s with sec := { s.sec with entropyBad := false } }

/-! ### The commands -/

def execChestSessionOpen (d : Nat) (s : State) : Out := whenLive s (doChestSessionOpen d)
def execChestSessionFinish (d : Nat) (s : State) : Out := whenLive s (doChestSessionFinish d)
def execChestSessionClose (d : Nat) (s : State) : Out := whenLive s (doChestSessionClose d)
def execSessionHandshakeTimeout (session : Nat) (s : State) : Out := whenLive s (doSessionHandshakeTimeout session)
def execRemoteSessionIdle (session : Nat) (s : State) : Out := whenLive s (doRemoteSessionIdle session)
def execChestImportKey (d : Nat) (s : State) : Out := whenLive s (doChestImportKey d)
def execChestListKeys (d : Nat) (s : State) : Out := whenLive s (doChestListKeys d)
def execChestDeleteKey (d : Nat) (s : State) : Out := whenLive s (doChestDeleteKey d)
def execChestGetCert (d : Nat) (s : State) : Out := whenLive s (doChestGetCert d)
def execChestAttest (d : Nat) (s : State) : Out := whenLive s (doChestAttest d)
def execEntropyFail (s : State) : Out := whenLive s doEntropyFail
def execEntropyPass (s : State) : Out := whenLive s doEntropyPass

end Sys2Proof.Machine
end

