-- ==== Sys2Proof/Machine/Journal.lean ====
section
/-! DEFINITION. The recording journal: records and their bytes, extents and checkpoints, the Writes and Flushes that bring records
to the medium, superblocks, and the provenance chain (11_media_layout.md R313 to R335). -/

namespace Sys2Proof.Machine

open Sys2Proof

/-- The state with the Store Room changed. -/
def State.onStore (f : StoreState → StoreState) (s : State) : State := { s with store := f s.store }

/-- The state with the mounted set changed. -/
def State.onSet (f : Mounted → Mounted) (s : State) : State := s.onStore fun x => { x with mounted := x.mounted.map f }

/-- The state with the clip now recording changed. -/
def State.onClip (f : Clip → Clip) (s : State) : State := s.onStore fun x => { x with clip := x.clip.map f }

/-- The set that accepts records (R336). -/
def State.set? (s : State) : Option Mounted := s.store.mounted.bind fun m => if m.phase == .mounted then some m else none

/-! ### Working keys (R472) -/

/-- A working key is held; it displaces one of the same use. -/
def holdKey (kind id : Nat) (key : Bytes) (slot : Option Nat) (s : State) : State :=
  { s with sec := { s.sec with working :=
    (s.sec.working.filter fun k => !(k.kind == kind && k.id == id)) ++ [{ kind := kind, id := id, key := key, slot := slot }] } }

/-- A working key is erased. -/
def dropKey (kind id : Nat) (s : State) : State :=
  { s with sec := { s.sec with working := s.sec.working.filter fun k => !(k.kind == kind && k.id == id) } }

/-- A working key. -/
def State.workKey? (s : State) (kind id : Nat) : Option Bytes := (s.sec.working.find? fun k => k.kind == kind && k.id == id).map (·.key)

/-! ### Addresses (R316, R323) -/

/-- Bytes of an extent (R323), of a stripe row with parity (R316), and OPEN_SPAN (R325). -/
def extentSize : Nat := 2 ^ 30
def rowSize : Nat := 393216
def openSpan : Nat := 2 ^ 29

/-- The NEXT_EXTENT of a set that has no free extent (the model's mark, log 52). -/
def noExtent : Nat := 0xFFFFFFFF

/-- Data members of a set (R316). -/
def Super.dataMembers (x : Super) : Nat := if x.parity then 3 else x.ports.length

/-- EXTENTS: whole extents of the address space (R323). -/
def Super.extents (x : Super) : Nat := x.dataMembers * x.nrows * 131072 / extentSize

/-- Media-set address of a place along the extent chain. -/
def Mounted.addr (m : Mounted) (c : Nat) : Nat := m.chain.getD (c / extentSize) 0 * extentSize + c % extentSize

/-- The end of the current extent along the chain. -/
def Mounted.chainEnd (m : Mounted) : Nat := m.chain.length * extentSize

/-- CUR_EXTENT. -/
def Mounted.cur (m : Mounted) : Nat := m.chain.getLastD 0

/-- The place at which the stripe row that holds the byte before `c` ends, within its extent; `c` itself without parity (R317). -/
def Mounted.rowEnd (m : Mounted) (c : Nat) : Nat :=
  if m.super.parity && c != 0 then
    let a := m.addr (c - 1) + 1
    min (c + (ceilDiv a rowSize * rowSize - a)) (((c - 1) / extentSize + 1) * extentSize)
  else c

/-- Bytes free for records (Table 10-7). -/
def Mounted.freeBytes (m : Mounted) : Nat :=
  ((List.range m.super.extents).filter fun e => !m.used.contains e).length * extentSize + (m.chainEnd - m.cpos) +
  (if m.next = noExtent then 0 else extentSize)

/-- The lowest-numbered free extent (R323). -/
def Mounted.lowestFree (m : Mounted) : Nat := ((List.range m.super.extents).find? fun e => !m.used.contains e).getD noExtent

/-- Position in the set of the member that holds an address, and its byte there; with parity the third result is the parity
member of the row (R316). -/
def Super.locate (x : Super) (a : Nat) : Nat × Nat × Option Nat :=
  let u := a / 2 ^ 17
  let o := a % 2 ^ 17
  if x.parity then
    let row := u / 3
    let k := u % 3
    let pm := 3 - row % 4
    (if k < pm then k else k + 1, 0x100000 + row * 131072 + o, some pm)
  else (u % max 1 x.ports.length, 0x100000 + u / max 1 x.ports.length * 131072 + o, none)

/-- Media ports that hold bytes of places `c1` to `c2`: all of them with parity (R313, R317). -/
def Mounted.portsOf (m : Mounted) (c1 c2 : Nat) : List Nat :=
  let n := m.super.ports.length
  if m.super.parity ∨ n * 131072 < c2 - c1 then m.super.ports
  else ((List.range (n + 1)).filterMap fun i =>
    let c := c1 + i * 131072
    if c < c2 ∨ c / 131072 = (c2 - 1) / 131072 then some (m.super.ports.getD (m.super.locate (m.addr (min c (c2 - 1)))).1 0) else none).eraseDups

/-- A media port's member serves. -/
def State.memberReady (s : State) (p : Nat) : Bool := (at! s.store.members p).st == .ready

/-! ### NVMe commands (R311, R312) -/

/-- The I/O queue pairs on a member, by their entries: four of 1,024, or of the controller's maximum when that is lower (R311). -/
def Member.queues (m : Member) : List Nat := if m.st = .ready then List.replicate 4 (min 1024 m.ident.queueEntries) else []

/-- A command is submitted to the member at port `p`. -/
def issueNvme (p : Nat) (c : NvmeCmd) (s : State) : State :=
  s.onStore fun x => { x with members := upd x.members p fun m => { m with
    cmds := m.cmds ++ [{ c with id := m.nextId, since := s.now }], nextId := m.nextId + 1
    dirty := if c.kind == .write then true else if c.kind == .flush then false else m.dirty
    lastFlush := if c.kind == .flush then s.now else m.lastFlush } }

/-- Any member has an outstanding command that satisfies `f`. -/
def State.nvmeAny (s : State) (f : NvmeCmd → Bool) : Bool := s.store.members.any fun m => m.cmds.any f

/-! ### Bytes of records (Tables 11-2 to 11-7) -/

/-- The 256-byte header (Table 11-3). -/
def Rec.header (r : Rec) (setId len : Nat) : Bytes :=
  let t := r.ticket.getD {}
  let flags := b2n r.enc + 2 * b2n r.larder + 4 * b2n t.trunc + 8 * b2n t.poison
  le 4 0x44435248 ++ le 1 1 ++ le 1 r.kind ++ le 1 flags ++ le 1 0 ++ le 4 setId ++ le 4 r.clip ++ le 8 r.seq ++
  le 1 r.stream ++ le 1 r.part ++ le 1 r.parts ++ le 1 0 ++ le 4 r.index ++ le 4 len ++ le 4 r.frame ++ le 8 r.time ++ padTo 16 [] ++
  (if r.ticket.isSome then t.bytes else padTo 32 []) ++ padTo 160 []

/-- The 4 KiB commit block (Table 11-5). -/
def Rec.commit (r : Rec) (setId : Nat) : Bytes :=
  padTo 4096 (le 4 0x54494D43 ++ le 4 setId ++ le 8 r.seq ++ le 4 r.payload.length ++ padTo 12 [] ++ padTo 48 r.hash ++ padTo 16 r.tag)

/-- A record in its stored form (R320). -/
def Rec.stored (r : Rec) (setId : Nat) : Bytes :=
  let n := recBytes r.payload.length
  padTo (n - 4096) (r.header setId r.payload.length ++ r.payload) ++ r.commit setId

/-- The commit hash matches the stored bytes (R321). -/
def Rec.counts (r : Rec) (setId : Nat) : Bool := Config.sha384 (r.header setId r.payload.length ++ r.payload) == r.hash

/-- The IV of a record (R331). -/
def recordIv (setId seq : Nat) : Bytes := le 4 setId ++ le 8 seq

/-- A record's plaintext under a key, if its tag verifies (R331). -/
def Rec.open (r : Rec) (setId : Nat) (key : Bytes) : Option Bytes :=
  Config.gcmOpen key (recordIv setId r.seq) (r.header setId r.payload.length) r.payload r.tag

/-- CHECKPOINT payload (Table 11-6). -/
def Ckpt.bytes (c : Ckpt) (extents : Nat) : Bytes :=
  let free := (List.range (ceilDiv extents 8)).flatMap fun i => le 1 (sumNat ((List.range 8).map fun j => if c.used.contains (8 * i + j) then 2 ^ j else 0))
  padTo 64 (le 8 c.nextSeq ++ le 8 c.nextPos ++ le 4 c.cur ++ le 4 c.next ++ le 4 extents ++ le 4 c.clips.length ++ le 4 c.nextClip) ++
  free ++ c.clips.flatMap fun (n, st, sq, ix, mf) => le 4 n ++ le 4 st ++ le 8 sq ++ le 8 ix ++ le 8 mf

/-- INDEX entries of 24 bytes (Table 11-4). -/
def indexBytes (l : List (Nat × Nat × Nat × Nat × Nat)) : Bytes :=
  l.flatMap fun (st, part, ix, sq, a) => le 1 st ++ le 1 part ++ le 2 0 ++ le 4 ix ++ le 8 sq ++ le 8 a

/-- Payload bytes 0x00–0x6F of a PROV (Table 11-7). -/
def provBody (clip : Nat) (c : Chain) : Bytes :=
  le 4 clip ++ le 4 c.last ++ le 4 c.count ++ le 4 0 ++ le 8 c.prevProv ++ padTo 40 [] ++ padTo 48 c.c

/-- A payload and the identity key's signature over it (R334, R464). -/
def State.signed (s : State) (b : Bytes) : Bytes := b ++ padTo 96 (s.identitySign b)

/-- One superblock copy (Table 11-2). -/
def Super.bytes (x : Super) (copy member : Nat) : Bytes :=
  let head := le 4 0x54534D43 ++ le 2 1 ++ le 1 (copy + 4 * member + 16 * x.ports.length + 128 * b2n x.parity) ++ le 1 0 ++
    le 4 x.setId ++ le 4 0 ++ padTo 16 x.uuid ++ le 8 x.gen ++ le 8 x.ckptAddr ++ le 8 x.ckptSeq ++ le 8 x.nrows ++ le 8 x.created ++ le 8 0 ++
    (List.range 4).flatMap (fun p => padTo 20 (x.serials.getD p [])) ++ padTo 48 x.formedBy ++ padTo 16 x.hostKeyId ++ padTo 40 x.hostKey
  let body := padTo 0xFD0 head
  body ++ padTo 48 (Config.sha384 (body ++ padTo 48 []))

/-! ### What the members hold (R316 to R318) -/

/-- The byte at a media-set address: of the newest record that covers it; zero where none does, as in the rest of a row completed with zero
blocks (R317, R320). -/
def State.setByte (s : State) (setId a : Nat) : Byte :=
  match s.store.recs.reverse.find? fun r => r.st != .lost && decide (r.pos ≤ a) && decide (a < r.pos + recBytes r.payload.length) with
  | some r => (r.stored setId).getD (a - r.pos) 0
  | none => 0

/-- The byte `o` of a row's parity unit: XOR of its three data units (R316). -/
def State.parityByte (s : State) (setId row o : Nat) : Byte :=
  (List.range 3).foldl (fun (x : Byte) k => x ^^^ s.setByte setId ((3 * row + k) * 131072 + o)) 0

/-- Member byte at which superblock copy `k` starts: 64 KiB, 512 KiB, L − 1 MiB (R318). -/
def Super.copyAt (x : Super) (k : Nat) : Nat := match k with
  | 0 => 65536
  | 1 => 524288
  | _ => x.nrows * 131072 + 1048576

/-- The byte of the member at position `p` of the set, where the layout gives one: a superblock copy, a data unit or a parity unit
(R316 to R318). -/
def State.memberByte (s : State) (x : Super) (p b : Nat) : Option Byte :=
  match (List.range 3).find? fun k => decide (x.copyAt k ≤ b) && decide (b < x.copyAt k + 4096) with
  | some k => (x.bytes k p)[b - x.copyAt k]?
  | none =>
    let row := (b - 1048576) / 131072
    let o := (b - 1048576) % 131072
    if b < 1048576 ∨ x.nrows ≤ row then none
    else if x.parity then
      let pm := 3 - row % 4
      some (if p = pm then s.parityByte x.setId row o else s.setByte x.setId ((3 * row + (if p < pm then p else p - 1)) * 131072 + o))
    else some (s.setByte x.setId ((row * x.ports.length + p) * 131072 + o))

/-! ### The journal (R320 to R324) -/

/-- A record takes its place in the journal at the present position, and is accepted (R295, R322, R331). -/
def putRec (r : Rec) (plain : Bytes) (key : Option Bytes) (s : State) : State :=
  match s.store.mounted with
  | none => s
  | some m =>
    let r := { r with seq := m.nextSeq, pos := m.addr m.cpos, cpos := m.cpos, st := .accepted, enc := key.isSome }
    let h := r.header m.super.setId plain.length
    let r := match key with
      | some k => (let (ct, tag) := Config.gcmSeal k (recordIv m.super.setId r.seq) h plain; { r with payload := padTo plain.length ct, tag := padTo 16 tag })
      | none => { r with payload := plain }
    let r := { r with hash := Config.sha384 (h ++ r.payload) }
    let s := s.onSet fun m => { m with nextSeq := m.nextSeq + 1, cpos := m.cpos + recBytes plain.length, dirtyCkpt := true, dirtySuper := true }
    let s := s.onStore fun x => { x with recs := x.recs ++ [r] }
    s.onStore fun x => { x with highWater := max x.highWater s.bufferUsed }

/-- The newest record of the journal. -/
def State.newest (s : State) : Rec := s.store.recs.getLastD {}

/-- The content of a checkpoint written now (Table 11-6). -/
def Mounted.ckpt (m : Mounted) : Ckpt :=
  let c : Ckpt := {
    nextSeq := m.nextSeq + 1, nextPos := 0, cur := m.cur, next := m.next, nextClip := m.nextClip
    used := m.used.filter fun e => !m.freed.contains e && !(m.freedCkpt.any (·.1 == e)), clips := m.clips }
  let n := recBytes (c.bytes m.super.extents).length
  { c with nextPos := (let e := m.rowEnd (m.cpos + n); if e % extentSize = 0 then m.cur * extentSize + extentSize else m.addr e) }

/-- A CHECKPOINT at the present position (R324). -/
def putCkpt (s : State) : State :=
  match s.store.mounted with
  | none => s
  | some m =>
    let c := m.ckpt
    let s := putRec { kind := 8, time := s.reading, ckpt := some c } (c.bytes m.super.extents) none s
    s.onSet fun x => { x with
      freed := [], freedCkpt := x.freedCkpt ++ m.freed.map fun e => (e, m.nextSeq)
      lastCkpt := s.now, dirtyCkpt := false }

/-- NEXT_EXTENT becomes the current extent, which begins with a CHECKPOINT that fixes the next one (R323). -/
def enterExtent (s : State) : State :=
  putCkpt (s.onSet fun m =>
    let m := { m with chain := m.chain ++ [m.next], cpos := m.chainEnd }
    let e := m.lowestFree
    { m with next := e, used := if e = noExtent then m.used else m.used ++ [e] })

/-- A record of the journal: in the current extent if it fits, else in the next (R323). With no extent left it is not written. -/
def journal (r : Rec) (plain : Bytes) (key : Option Bytes) (s : State) : State :=
  match s.store.mounted with
  | none => s
  | some m =>
    if m.cpos + recBytes plain.length ≤ m.chainEnd then putRec r plain key s
    else if m.next = noExtent then s
    else putRec r plain key (enterExtent s)

/-- A journal checkpoint (R324); entering an extent writes one by itself. -/
def checkpoint (s : State) : State :=
  match s.store.mounted with
  | none => s
  | some m =>
    if m.cpos + recBytes (m.ckpt.bytes m.super.extents).length ≤ m.chainEnd then putCkpt s
    else if m.next = noExtent then s
    else enterExtent s

/-- A checkpoint, and a superblock generation once it is on the medium (R319, R324). -/
def checkpointSuper (s : State) : State :=
  let s := checkpoint s
  s.onSet fun m => { m with superDue := some (m.nextSeq - 1) }

/-- A clip's entry of the clip table changed (Table 11-6). -/
def setClipEntry (n : Nat) (f : Nat × Nat × Nat × Nat × Nat → Nat × Nat × Nat × Nat × Nat) (s : State) : State :=
  s.onSet fun m => { m with clips := m.clips.map fun c => if c.1 = n then f c else c }

/-- The INDEX record of the DATA records since the last (R324). -/
def journalIndex (s : State) : State :=
  match s.store.clip with
  | none => s
  | some c =>
    if c.toIndex.isEmpty then s
    else
      let s := journal { kind := 7, clip := c.num, time := s.reading, entries := c.toIndex } (indexBytes c.toIndex) none s
      let a := s.newest.pos
      setClipEntry c.num (fun (n, st, sq, _, mf) => (n, st, sq, a, mf)) (s.onClip fun c => { c with toIndex := [] })

/-! ### The provenance chain (R333, R334) -/

/-- One frame joins the chain, and every 256th writes a PROV (R333, R334). -/
def chainFrame (f : Nat) (t d : Bytes) (s : State) : State :=
  match s.store.clip with
  | none => s
  | some c =>
    let k := { c.chain with c := Config.sha384 (c.chain.c ++ t ++ d), last := f, count := c.chain.count + 1 }
    let s := s.onClip fun c => { c with chain := k }
    if k.count % 256 = 0 then
      let s := journal { kind := 4, clip := c.num, time := s.reading } (s.signed (provBody c.num k)) none s
      let q := s.newest.seq
      raise 205 0 [] none (s.onClip fun c => { c with chain := { c.chain with prevProv := q } })
    else s

/-- Frames that wait join the chain as long as the next one in FRAME order is there. -/
def chainAdvance (fuel : Nat) (s : State) : State :=
  match fuel, s.store.clip with
  | n + 1, some c =>
    match c.waiting.find? fun w => w.1 == wrap 32 (c.firstFrame + c.chain.count) with
    | some (f, t, d) => chainAdvance n (chainFrame f t d (s.onClip fun c => { c with waiting := c.waiting.filter fun w => w.1 != f }))
    | none => s
  | _, _ => s

/-- A frame is ready for the chain. -/
def chainOffer (f : Nat) (t d : Bytes) (s : State) : State :=
  let s := s.onClip fun c => { c with waiting := c.waiting ++ [(f, t, d)] }
  chainAdvance ((s.store.clip.elim 0 (·.waiting.length)) + 1) s

/-- The ticket bytes of a frame in a GAP (R333). -/
def gapTicket (f : Nat) : Bytes := le 4 f ++ padTo 28 []

/-- A GAP record of the clip, and its frames' places in the chain (R328, R333). -/
def journalGap (l frame count cause : Nat) (s : State) : State :=
  match s.store.clip with
  | none => s
  | some c =>
    let s := journal { kind := 2, clip := c.num, frame := frame, time := s.reading } (le 4 frame ++ le 4 count ++ le 1 cause) none s
    if l = c.lead then (List.range count).foldl (fun s i => chainOffer (wrap 32 (frame + i)) (gapTicket (wrap 32 (frame + i))) (padTo 48 []) s) s else s

/-- Missing places before the last frame become GAPs (R328). -/
def chainComplete (fuel : Nat) (s : State) : State :=
  match fuel, s.store.clip with
  | n + 1, some c =>
    let at' := c.firstFrame + c.chain.count
    let todo := wrap 32 (c.lastFrame + 2 ^ 32 + 1 - at' % 2 ^ 32)
    if 2 ^ 31 ≤ todo ∨ todo = 0 then s
    else
      let gap := c.waiting.foldl (fun g w => min g (wrap 32 (w.1 + 2 ^ 32 - at' % 2 ^ 32))) todo
      chainComplete n (journalGap c.lead (wrap 32 at') gap 3 s)
  | _, _ => s

/-- The newest record of each name of a clip's stream, in INDEX order (R287, R335). -/
def streamRecs (l : List Rec) (clip st : Nat) : List Rec :=
  let mine := l.filter fun r => r.kind == 1 && r.clip == clip && r.stream == st && r.st != .lost
  (sortInts (mine.map fun r => (r.index : Int))).eraseDups.filterMap fun i => mine.reverse.find? fun r => (r.index : Int) == i

/-- MANIFEST payload (R335; its layout beyond the PROV fields is the model's, log 50). -/
def State.manifestBytes (s : State) (clip : Nat) (c : Chain) (recovered : Bool) : Bytes :=
  s.signed (provBody clip c ++ le 4 (b2n recovered) ++ le 4 0 ++ (List.range 32).flatMap fun st =>
    let l := streamRecs s.store.recs clip st
    le 4 l.length ++ le 4 0 ++ padTo 48 (Config.sha384 (l.flatMap fun r => padTo 48 r.hash)))

/-! ### Writes, Flushes and the medium (R313, R317, R325) -/

/-- The end of a record along the chain. -/
def Rec.cend (r : Rec) : Nat := r.cpos + recBytes r.payload.length

/-- A record must reach the medium now: a Flush, a forced write, an activation, a power-state entry, an unmount or the safe loop
waits for it, or it is a record that a rule makes wait for the medium (R294, R317, R319, R324, R330). -/
def State.mustReach (s : State) (r : Rec) : Bool :=
  [5, 6, 7, 8].contains r.kind || s.sys.stage != 2 || (s.store.powerEntry.any fun e => decide (2 ≤ e.2.1)) ||
  (s.store.activation.any fun a => a.set.contains r.seq) || (s.store.mounted.any (·.phase != .mounted)) ||
  (s.store.clip.any fun c => c.closing && c.num == r.clip) ||
  s.store.cmds.any fun c => (c.entry.opcode == 5 || c.entry.opcode == 3 || (c.entry.opcode == 1 && c.entry.forced)) && c.set.contains r.seq

/-- The first record without its Writes gets them, if its last stripe row is whole or must be written, and OPEN_SPAN allows it
(R313, R317, R325). -/
def pushStep (s : State) : Option State :=
  match s.store.mounted, s.store.recs.find? (fun r => r.st == .accepted && !r.issued) with
  | some m, some r =>
    let e := m.rowEnd r.cend
    let oldest := s.store.recs.foldl (fun o x => if x.st == .accepted then min o x.cpos else o) r.cpos
    let whole := decide (e ≤ max m.cpos ((m.chain.length - 1) * extentSize))
    if !whole && !(s.store.recs.any fun x => x.st == .accepted && !x.issued && s.mustReach x) then none
    else if openSpan < e - oldest then none
    else
      let from_ := max m.issuedTo r.cpos
      let seqs := (s.store.recs.filter fun x => x.st == .accepted && decide (x.cpos < e) && decide (from_ < x.cend)).map (·.seq)
      let ports := (m.portsOf from_ (max e (from_ + 1))).filter s.memberReady
      let s := s.onSet fun m => { m with issuedTo := max m.issuedTo e, cpos := max m.cpos e }
      let s := s.onStore fun x => { x with recs := x.recs.map fun q => if q.seq = r.seq then { q with issued := true } else q }
      some (if e ≤ from_ then s else ports.foldl (fun s p => issueNvme p { kind := .write, seqs := seqs } s) s)
  | _, _ => none

/-- Every record that may be written gets its Writes. -/
def pushAll (fuel : Nat) (s : State) : State :=
  match fuel, pushStep s with
  | n + 1, some t => pushAll n t
  | _, _ => s

/-- Records whose Writes have all completed wait for the Flush of each member with a volatile write cache (R313). -/
def settleWrites (s : State) : State :=
  match s.store.mounted with
  | none => s
  | some m =>
    let busy := fun (q : Nat) => s.nvmeAny fun c => c.kind == .write && c.seqs.contains q
    let cached := fun (p : Nat) => s.memberReady p && (at! s.store.members p).ident.writeCache
    s.onStore fun x => { x with recs := x.recs.map fun r =>
      if r.st == .accepted && r.issued && r.writing && !busy r.seq then
        { r with writing := false, toFlush := (m.portsOf r.cpos (m.rowEnd r.cend)).filter cached }
      else r }

/-- A member with records that wait for it gets a Flush, one at a time (R313). -/
def issueFlushes (s : State) : State :=
  (List.range 4).foldl (fun s p =>
    let wait := s.store.recs.filter fun r => r.st == .accepted && !r.writing && r.toFlush.contains p
    if s.memberReady p && !wait.isEmpty && !((at! s.store.members p).cmds.any fun c => c.kind == .flush) then
      issueNvme p { kind := .flush, seqs := wait.map (·.seq) } s
    else s) s

/-- Everything that the journal can send to the members is sent. -/
def pump (s : State) : State := issueFlushes (settleWrites (pushAll (s.store.recs.length + 1) s))

/-- A record's Writes and Flushes have completed (R313). -/
def Rec.durable (r : Rec) : Bool := r.st == .accepted && r.issued && !r.writing && r.toFlush.isEmpty

/-! ### Superblocks (R319) -/

/-- The set is unmounted, or its formation or replay is over, once its superblock generation is written (R315, R319, R336, R337). -/
def superDone (s : State) : State :=
  match s.store.mounted with
  | none => s
  | some m =>
    let answer := fun (b : Bytes) (s : State) => match m.drawer with | some d => done d b s | none => s
    match m.phase with
    | .forming => answer (le 4 m.super.setId) (s.onStore fun x => { x with mounted := none })
    | .mounting =>
      answer (m.report.flatMap (le 4)) (raise 192 0 [] none (raise 194 0 m.report none (s.onSet fun m => { m with phase := .mounted, drawer := none })))
    | .unmounting => answer [] (raise 193 0 [] none (dropKey 1 0 (s.onStore fun x => { x with mounted := none })))
    | .mounted => s

/-- Members' ports that serve. -/
def State.setPorts (s : State) : List Nat := (s.store.mounted.elim [] (·.super.ports)).filter s.memberReady

/-- A superblock generation is due and its checkpoint is on the medium: copy 0 is written on every member (R319). -/
def startSuper (s : State) : State :=
  match s.store.mounted with
  | none => s
  | some m =>
    match m.superDue, m.superStep with
    | some q, none =>
      if m.ckptOn.1 < q then s
      else
        let x := { m.super with gen := m.super.gen + 1, ckptSeq := m.ckptOn.1, ckptAddr := m.ckptOn.2 }
        s.setPorts.foldl (fun s p => issueNvme p { kind := .write, sb := true } s)
          (s.onSet fun m => { m with superDue := none, superStep := some (x, 0, false) })
    | _, _ => s

/-- The generation is written whole (R319): extents freed in a checkpoint that it names may be allocated again (R324). -/
def superFinish (x : Super) (s : State) : State :=
  superDone (startSuper (s.onSet fun m => { m with
    super := x, superStep := none, lastSuper := s.now, dirtySuper := false
    used := m.used.filter fun e => !(m.freedCkpt.any fun f => f.1 == e && decide (f.2 ≤ x.ckptSeq))
    freedCkpt := m.freedCkpt.filter fun f => decide (x.ckptSeq < f.2) }))

/-- A copy is written and flushed on every member before the next (R319); `fuel` bounds the phases that need no command. -/
def superAdvance (fuel : Nat) (s : State) : State :=
  match fuel, s.store.mounted with
  | n + 1, some m =>
    match m.superStep with
    | none => startSuper s
    | some (x, k, flushing) =>
      if s.nvmeAny (·.sb) then s
      else if !flushing then
        let ports := s.setPorts.filter fun p => (at! s.store.members p).ident.writeCache
        superAdvance n (ports.foldl (fun s p => issueNvme p { kind := .flush, sb := true } s) (s.onSet fun m => { m with superStep := some (x, k, true) }))
      else
        let s := if k = 0 then s.onStore fun y => { y with super := some x } else s
        if k = 2 then superFinish x s
        else superAdvance n (s.setPorts.foldl (fun s p => issueNvme p { kind := .write, sb := true } s) (s.onSet fun m => { m with superStep := some (x, k + 1, false) }))
  | _, _ => s

end Sys2Proof.Machine
end

