-- ==== Sys2Proof/Machine/StoreQueue.lean ====
section
/-! DEFINITION. Store queues: pairs, doorbells, fetching, completions, the I/O commands and the admin commands but for firmware and
power (10_store_queues.md R276 to R303). -/

namespace Sys2Proof.Machine

open Sys2Proof

/-- Index of a queue in the table of pairs: 0–3, or 4 for the admin pair, which the spec numbers 0xFF. -/
def qIndex (q : Nat) : Nat := if q < 4 then q else 4

/-- SQID of a pair (Table 10-3). -/
def sqid (k : Nat) : Nat := if k < 4 then k else 0xFF

/-- A pair that exists. -/
def State.pair? (s : State) (k : Nat) : Option QPair := s.store.pairs.getD k none

/-- The state with a pair changed. -/
def State.setPair (s : State) (k : Nat) (f : QPair → QPair) : State := s.onStore fun x => { x with pairs := upd x.pairs k (·.map f) }

/-- The state with an outstanding command changed. -/
def State.setCmd (s : State) (k cid : Nat) (f : StoreCmd → StoreCmd) : State :=
  s.onStore fun x => { x with cmds := x.cmds.map fun c => if c.q = k ∧ c.entry.cid = cid then f c else c }

/-! ### Creating and deleting pairs (R277, R278, R517) -/

/-- STORE.CREATE_QUEUE (R277): QID, SQ_BASE, CQ_BASE, SQ_ENTRIES, CQ_ENTRIES, VECTOR at payload bytes 0, 8, 16, 24, 28, 32. -/
def doStoreCreateQueue (d : Nat) (s : State) : State :=
  drawerCmd d 0x0901 s fun c =>
    let id := c.w 0
    let (sq, cq, n, m, v) := (c.q 8, c.q 16, c.w 24, c.w 28, c.w 32)
    let top := if id = 0xFF then (64, 128) else (256, 512)
    checked d c 36 [(decide (3 < id ∧ id ≠ 0xFF) || (s.sys.stage != 2 && id != 0xFF), 0), (decide (sq % 4096 ≠ 0), 8), (decide (cq % 4096 ≠ 0), 16),
        (decide (n < 2 ∨ top.1 < n), 24), (decide (m < n ∨ top.2 < m), 28), (decide (63 < v), 32)] s fun s =>
      let k := qIndex id
      if !s.covered sq (64 * n) false || !s.covered cq (16 * m) true then fail d Status.notPermitted s
      else if k < 4 ∧ (s.pair? 4).isNone then fail d Status.notPermitted s
      else if (s.pair? k).isSome then fail d Status.busy s
      else done d [] (s.onStore fun x => { x with pairs := x.pairs.set k (some { sqBase := sq, cqBase := cq, sqEntries := n, cqEntries := m, vector := v }) })

/-- STORE.DELETE_QUEUE (R278). -/
def doStoreDeleteQueue (d : Nat) (s : State) : State :=
  drawerCmd d 0x0902 s fun c =>
    let id := c.w 0
    checked d c 4 [(decide (3 < id ∧ id ≠ 0xFF) || (s.sys.stage != 2 && id != 0xFF), 0)] s fun s =>
      let k := qIndex id
      match s.pair? k with
      | none => invalid d 0 s
      | some p =>
        if k = 4 ∧ (List.range 4).any (fun i => (s.pair? i).isSome) = true then fail d Status.notPermitted s
        else if s.store.cmds.any (·.q == k) || !p.held.isEmpty || !p.unreleased.isEmpty then fail d Status.busy s
        else done d [] (s.onStore fun x => { x with pairs := x.pairs.set k none })

/-! ### Doorbells (R279) -/

/-- A doorbell value that R279 ignores. -/
def doorbellBad (k : Nat) (s : State) : State := raise 176 (sqid k) [] none s

/-- SQ_TAIL_DOORBELL (R279). -/
def doSqTailDoorbell (q v : Nat) (s : State) : State :=
  let k := qIndex q
  match s.pair? k with
  | none => s
  | some p => if p.sqEntries ≤ v % 65536 then doorbellBad k s else s.setPair k fun p => { p with sqTail := v % 65536 }

/-- CQ_HEAD_DOORBELL (R279). -/
def doCqHeadDoorbell (q v : Nat) (s : State) : State :=
  let k := qIndex q
  match s.pair? k with
  | none => s
  | some p =>
    let v := v % 65536
    let n := (v + p.cqEntries - p.cqHead) % p.cqEntries
    if p.cqEntries ≤ v ∨ p.unreleased.length < n then doorbellBad k s
    else s.setPair k fun p => { p with cqHead := v, unreleased := p.unreleased.drop n }

/-! ### Entries (R284) -/

/-- The fields of a 64-byte entry (Table 10-2). -/
def parseEntry (b : Bytes) : SqEntry :=
  { opcode := fieldLe b 0 1, forced := bit (fieldLe b 1 1) 0, clear := bit (fieldLe b 1 1) 1, cid := fieldLe b 2 2, clip := fieldLe b 4 4
    stream := fieldLe b 8 1, index := fieldLe b 0xC 4, buf := fieldLe b 0x10 8, length := fieldLe b 0x18 4, count := fieldLe b 0x1C 4
    arg0 := fieldLe b 0x20 4, arg1 := fieldLe b 0x24 4, arg2 := fieldLe b 0x28 8
    resv := if 4 ≤ fieldLe b 1 1 then some 1 else if fieldLe b 9 3 ≠ 0 then some 9 else if fieldLe b 0x30 16 ≠ 0 then some 0x30 else none }

/-- Byte offsets of the fields that a command uses; 1 FORCED, 2 CLEAR (Tables 10-4 and 10-6). -/
def usedFields (op : Nat) : List Nat :=
  match op with
  | 0x01 => [1, 4, 8, 0xC, 0x10, 0x18]
  | 0x02 => [2, 4, 8, 0xC, 0x10, 0x18]
  | 0x03 => [4, 8, 0xC, 0x1C]
  | 0x04 => [4, 8, 0xC, 0x1C]
  | 0x06 => [0x20]
  | 0x81 => [0x20, 0x10, 0x18]
  | 0x82 => [0x20, 0x24, 0x10, 0x18]
  | 0x83 => [0x20, 0x24]
  | 0x84 => [0x20, 0x24, 0x28]
  | 0x85 => [0x20, 0x10, 0x18]
  | 0x86 => [0x20]
  | 0x87 => [0x20]
  | _ => []

/-- STREAM names no stream (Table 10-11). -/
def streamBad (st : Nat) : Bool := (decide (9 < st) && decide (st < 16)) || decide (31 < st)

/-- Length of a log page (Table 10-8); 0 for none. -/
def logLength (id : Nat) : Nat := match id with | 1 => 2048 | 2 => 512 | 3 => 128 | 4 => 1024 | _ => 0

/-- The first field of an entry that is out of range or unused and not 0 (R284, Tables 10-4, 10-6, 10-9). -/
def SqEntry.bad (e : SqEntry) : Option Nat :=
  let u := usedFields e.opcode
  let no := fun (f : Nat) => !u.contains f
  let op := e.opcode
  let l := [
    (no 1 && e.forced, 1), (no 2 && e.clear, 1), (no 4 && e.clip != 0, 4),
    ((no 8 && e.stream != 0) || ((op == 1 || op == 2 || op == 3) && streamBad e.stream) ||
      (op == 4 && (if e.clip = 0xFFFFFFFF then streamBad e.stream else e.stream != 0)), 8),
    ((no 0xC && e.index != 0) || (op == 4 && e.clip != 0xFFFFFFFF && e.index != 0), 0xC),
    ((no 0x10 && e.buf != 0) || decide (e.buf % 4096 ≠ 0), 0x10),
    ((no 0x18 && e.length != 0) || (op == 1 && (e.length == 0 || decide (268435456 < e.length))) || (op == 0x81 && e.length != 4096) ||
      (op == 0x85 && (decide (e.length % 4096 ≠ 0) || e.length == 0 || decide (1048576 < e.length))), 0x18),
    ((no 0x1C && e.count != 0) || (op == 3 && (e.count == 0 || decide (65536 < e.count))) || (op == 4 && e.clip != 0xFFFFFFFF && e.count != 0), 0x1C),
    ((no 0x20 && e.arg0 != 0) || (op == 6 && decide (2 ^ 18 ≤ e.arg0)) || (op == 0x81 && decide (1 < e.arg0)) || (op == 0x82 && logLength e.arg0 == 0) ||
      ((op == 0x83 || op == 0x84) && (e.arg0 == 0 || decide (3 < e.arg0))) ||
      (op == 0x85 && (decide (e.arg0 % 4096 ≠ 0) || decide (4194304 < e.arg0 + e.length))) ||
      (op == 0x86 && (decide (7 < e.arg0) || e.arg0 % 4 == 3)) || (op == 0x87 && decide (3 < e.arg0)), 0x20),
    ((no 0x24 && e.arg1 != 0) || (op == 0x82 && (decide (e.arg1 % 4 ≠ 0) || decide (logLength e.arg0 < e.arg1))) ||
      ((op == 0x83 || op == 0x84) && (if e.arg0 = 2 then decide (3 < e.arg1) && e.arg1 != 0xFF else e.arg1 != 0)), 0x24),
    (no 0x28 && e.arg2 != 0, 0x28)]
  match e.resv, l.find? (·.1) with
  | some o, some x => some (min o x.2)
  | some o, none => some o
  | none, x => x.map (·.2)

/-- The span at BUF lies in a registered buffer that permits the access (R284). -/
def State.bufOk (s : State) (e : SqEntry) : Bool :=
  match e.opcode with
  | 0x01 => s.covered e.buf e.length false
  | 0x85 => s.covered e.buf e.length false
  | 0x02 => s.covered e.buf e.length true
  | 0x81 => s.covered e.buf e.length true
  | 0x82 => s.covered e.buf e.length true
  | _ => true

/-- The stage and power state serve an admin command (R309, R516, R517). -/
def State.servesAdmin (s : State) (e : SqEntry) : Bool :=
  let action := e.arg0 % 4
  if s.sys.stage != 2 then
    (e.opcode == 0x81 && e.arg0 == 0) || e.opcode == 0x85 ||
    (e.opcode == 0x86 && (s.sys.stage == 1 || action == 1 || (action == 2 && !s.sys.bootSel)))
  else if s.sys.pstate = 2 then e.opcode == 0x81 || (e.opcode == 0x87 && decide (e.arg0 < 2))
  else true

/-- A fetched entry that completes at once, with its status and offending field (R284, R289, R300, R309, R517). -/
def State.refusal (s : State) (k : Nat) (e : SqEntry) : Option (Nat × Nat) :=
  let known := if k = 4 then decide (0x81 ≤ e.opcode) && decide (e.opcode ≤ 0x87) else decide (1 ≤ e.opcode) && decide (e.opcode ≤ 6)
  if !known then some (Status.invalidField, 0)
  else if k == 4 && !s.servesAdmin e then some (Status.notPermitted, 0xFF)
  else match e.bad with
    | some o => some (Status.invalidField, o)
    | none =>
      if e.opcode == 1 && e.forced && s.sys.service then some (Status.invalidField, 1)
      else if s.bufOk e then none else some (Status.notPermitted, 0xFF)

/-! ### Completions (R281 to R285) -/

/-- A completion is due on a pair. -/
def holdCompletion (k : Nat) (c : Completion) (s : State) : State := s.setPair k fun p => { p with held := p.held ++ [c] }

/-- An outstanding command is decided: its completion is due, and it is outstanding until that is posted (R280, R282). -/
def complete (k cid status r0 r1 field : Nat) (s : State) : State :=
  match s.store.cmds.find? fun c => c.q == k && c.entry.cid == cid with
  | none => s
  | some c =>
    let s := s.onStore fun x => { x with
      cmds := x.cmds.filter fun c => !(c.q == k && c.entry.cid == cid)
      members := x.members.map fun m => { m with cmds := m.cmds.filter fun n => n.owner != some (k, cid) }
      longestFlush := if c.entry.opcode = 5 then max x.longestFlush (s.now - c.fetched) else x.longestFlush }
    holdCompletion k { cid := cid, status := status, r0 := r0, r1 := r1, opcode := c.entry.opcode, field := field } (dropKey 2 (1000 + k * 65536 + cid) s)

/-- The 16 bytes of a completion (Table 10-3). -/
def Completion.bytes (c : Completion) (k sqHead : Nat) (phase : Bool) : Bytes :=
  le 4 c.r0 ++ le 4 c.r1 ++ le 2 sqHead ++ le 2 c.status ++ le 2 c.cid ++ le 1 (b2n phase + 2 * b2n c.dup) ++ le 1 (sqid k)

/-- A count of the statistics log: 64 bits, saturating (R302). -/
def bump64 (l : List (Nat × Nat)) (op : Nat) : List (Nat × Nat) :=
  if l.any (·.1 == op) then l.map fun x => if x.1 = op then (op, sat 64 (x.2 + 1)) else x else l ++ [(op, 1)]

/-- Signal the vector of a completion queue as COALESCE sets (R303). -/
def signalQueue (k : Nat) (s : State) : State :=
  match s.pair? k with
  | none => s
  | some p =>
    let n := p.unsignalled + 1
    if p.coalCount = 0 ∨ p.coalTime = 0 ∨ p.coalCount ≤ n then
      { s.setPair k fun p => { p with unsignalled := 0 } with ev := s.ev.signal p.vector }
    else s.setPair k fun p => { p with unsignalled := n, firstUnsig := if p.unsignalled = 0 then s.now else p.firstUnsig }

/-- COMPLETION_POST (R281): the oldest due completion is written, or held while the queue is full. -/
def doCompletionPost (q : Nat) (s : State) : State :=
  let k := qIndex q
  match s.pair? k with
  | none => s
  | some p =>
    match p.held with
    | [] => s
    | c :: rest =>
      if p.cqEntries ≤ p.unreleased.length then
        let s1 := if p.heldSince = 0 then s.setPair k fun p => { p with heldSince := s.now + 1 } else s
        raiseLimited 1000000000 178 (sqid k) (fun _ => [sqid k, c.cid]) s1
      else
        let s1 := s.hostWrite (p.cqBase + 16 * p.cqTail) (c.bytes k p.sqHead p.phase)
        let s2 := s1.setPair k fun p => { p with
          held := rest, heldSince := 0
          cqTail := (p.cqTail + 1) % p.cqEntries, phase := if p.cqEntries ≤ p.cqTail + 1 then !p.phase else p.phase
          unreleased := p.unreleased ++ [(c.cid, c.dup)] }
        let bad := !([Status.ok, Status.abortedOk, Status.alreadyDone].contains c.status)
        let s3 := s2.onStore fun x => { x with
          perOpcode := bump64 x.perOpcode c.opcode
          longestHold := if p.heldSince = 0 then x.longestHold else max x.longestHold (s.now + 1 - p.heldSince)
          errors := if bad then ((sqid k, c.cid, c.opcode, c.status, s.reading, c.field) :: x.errors).take 64 else x.errors }
        signalQueue k s3

/-- The part of COALESCE_TIMER that serves completion queues (R303). -/
def storeCoalesceTimer (vec : Nat) (s : State) : State :=
  (List.range 5).foldl (fun s k =>
    match s.pair? k with
    | some p =>
      if p.vector = vec ∧ 0 < p.unsignalled ∧ p.firstUnsig + us p.coalTime ≤ s.now then
        { s.setPair k fun p => { p with unsignalled := 0 } with ev := s.ev.signal vec }
      else s
    | none => s) s

/-! ### Fetching (R280, R283, R299, R308, R309) -/

/-- Entries of a queue wait to be fetched; during a Store reset, those up to the reset instant's tail. -/
def State.entriesWait (s : State) (k : Nat) : Bool :=
  match s.pair? k with
  | some p => p.sqHead != p.resetTo.getD p.sqTail
  | none => false

/-- No admin command is outstanding (R280). -/
def State.adminIdle (s : State) : Bool :=
  !(s.store.cmds.any (·.q == 4)) && (match s.pair? 4 with | some p => p.held.isEmpty | none => true)

/-- I/O commands outstanding: fetched, and their completions not posted (R280). -/
def State.ioOutstanding (s : State) : Nat :=
  (s.store.cmds.filter (·.q != 4)).length + sumNat ((List.range 4).map fun k => match s.pair? k with | some p => p.held.length | none => 0)

/-- The I/O queue whose entry is fetched next (R280). -/
def State.ioTurn (s : State) : Option Nat :=
  if s.entriesWait s.store.turn && decide (s.store.burst < s.store.arbBurst) then some s.store.turn
  else ((List.range 4).map fun i => (s.store.turn + 1 + i) % 4).find? s.entriesWait

/-- An activating Firmware Commit is outstanding (R305, R306). -/
def State.activating (s : State) : Bool :=
  s.store.activation.isSome || s.store.cmds.any fun c => c.q == 4 && c.entry.opcode == 0x86 && c.entry.arg0 % 4 != 0

/-- The entry of queue `k` may be fetched now (R280, R306, R309, R521). -/
def State.canFetch (s : State) (k : Nat) : Bool :=
  if k = 4 then s.entriesWait 4 && s.adminIdle
  else !(s.entriesWait 4 && s.adminIdle) && s.ioTurn == some k && decide (s.ioOutstanding < 512) &&
    ((s.pair? k).any (·.resetTo.isSome) || (!s.activating && s.sys.stage == 2 && decide (s.sys.pstate < 2)))

/-- A CID is in use on a queue (R283). -/
def State.cidInUse (s : State) (k cid : Nat) : Bool :=
  s.store.cmds.any (fun c => c.q == k && c.entry.cid == cid) ||
  (match s.pair? k with | some p => p.held.any (fun c => c.cid == cid && !c.dup) || p.unreleased.any (fun c => c.1 == cid && !c.2) | none => false)

/-- The set of a Flush fetched now: every record accepted since the last start (R296). -/
def State.flushSet (s : State) : List Nat := (s.store.recs.filter (·.fresh)).map (·.seq)

/-- ENTRY_FETCH (R280): the entry is copied, and either completes at once or becomes an outstanding command. -/
def doEntryFetch (q : Nat) (s : State) : State :=
  let k := qIndex q
  match s.pair? k with
  | none => s
  | some p =>
    if !s.canFetch k then s
    else
      let e := parseEntry (s.hostRead (p.sqBase + 64 * p.sqHead) 64)
      let head := (p.sqHead + 1) % p.sqEntries
      -- without a STORE.RESET (the safe loop), the reset of a queue is over with its last entry
      let last := s.store.resetting.isNone && p.resetTo == some head
      let s1 := s.setPair k fun p => { p with
        sqHead := head, marked := p.marked.filter (· != p.sqHead), resetTo := if last then none else p.resetTo }
      let s2 := if k = 4 then s1 else s1.onStore fun x => { x with
        turn := k, burst := if k = x.turn ∧ x.burst < x.arbBurst then x.burst + 1 else 1
        powerEntry := x.powerEntry.map fun (c, t, n, b) => (c, t, n + 1, b) }
      let at_once := fun (st : Nat) (dup : Bool) (field : Nat) => holdCompletion k { cid := e.cid, status := st, dup := dup, opcode := e.opcode, field := field } s2
      if p.resetTo.isSome then at_once Status.reset false 0xFF
      else if s.cidInUse k e.cid then raise 177 (sqid k) [sqid k, e.cid] none (at_once Status.invalidField true 2)
      else if p.marked.contains p.sqHead then at_once Status.aborted false 0xFF
      else match s.refusal k e with
        | some (st, field) => at_once st false field
        | none =>
          let c : StoreCmd := { q := k, entry := e, service := s.sys.service, fetched := s.now, set := if e.opcode = 5 then s.flushSet else [] }
          s2.onStore fun x => { x with cmds := x.cmds ++ [c] }

/-- The outstanding command of a queue and CID, when it is `op` and has not begun. -/
def storeCmd (q cid op : Nat) (s : State) (f : Nat → StoreCmd → State) : State :=
  let k := qIndex q
  match s.store.cmds.find? fun c => c.q == k && c.entry.cid == cid with
  | some c => if c.entry.opcode = op ∧ c.begun = false then f k c else s
  | none => s

/-! ### Records by name (R286 to R291) -/

/-- The latest accepted record of a name (R288). -/
def State.findRec (s : State) (clip stream index : Nat) : Option Rec :=
  if s.set?.isNone then none
  else s.store.recs.reverse.find? fun r => r.kind == 1 && r.clip == clip && r.stream == stream && r.index == index && r.st != .lost && r.trimmed.isNone

/-- SET_ID of the mounted set. -/
def State.setId (s : State) : Nat := s.store.mounted.elim 0 (·.super.setId)

/-- The host-area key is unwrapped once a slot holds its ID (R478). -/
def ensureHostKey (s : State) : State :=
  match s.store.mounted with
  | none => s
  | some m =>
    if (s.workKey? 1 0).isSome then s
    else match s.slotOfId m.super.hostKeyId with
      | none => s
      | some n => match (at! s.sec.slots n).bind fun k => Config.keyUnwrap k.key m.super.hostKey with
        | some key => holdKey 1 0 key (some n) s
        | none => s

/-- Identifier of the Production key and wrapped clip key of a clip, from its CLIP_OPEN (R332, R333, log 50). -/
def State.clipOpen (s : State) (clip : Nat) : Option (Bytes × Bytes) :=
  (s.store.recs.find? fun r => r.kind == 3 && r.clip == clip && r.st != .lost).map fun r => (slice r.payload 56 16, slice r.payload 16 40)

/-- The clip key that a slot with PLAY unwraps, and the slot (R473, R478). -/
def State.playKey (s : State) (clip : Nat) : Option (Bytes × Nat) :=
  (s.clipOpen clip).bind fun (id, w) => (s.slotOfId id).bind fun n => (at! s.sec.slots n).bind fun k =>
    if bit k.usage 2 then (Config.keyUnwrap k.key w).map fun key => (key, n) else none

/-- A key that the device holds for a record of a clip or of the host area. -/
def State.heldKey (s : State) (clip : Nat) : Option Bytes :=
  if clip = 0xFFFFFFFF then s.workKey? 1 0
  else if s.store.clip.any (·.num == clip) then s.workKey? 0 0 else none

/-- The record's commit block, hash and, where the device holds the key, its tag hold (R291, R292, log 49). -/
def State.recordGood (s : State) (r : Rec) (key : Option Bytes) : Bool :=
  r.counts s.setId && (match key with | some k => (r.open s.setId k).isSome | none => true)

/-- Media ports to read for a record; with one failed member of a parity set, the rest of the row is read (R317). -/
def State.readPorts (s : State) (r : Rec) : List Nat :=
  match s.store.mounted with
  | none => []
  | some m =>
    let n := recBytes r.payload.length
    let units := (List.range (ceilDiv n 131072 + 1)).filter fun i => decide ((r.pos / 131072 + i) * 131072 < r.pos + n)
    let ports := (units.map fun i => m.super.ports.getD (m.super.locate ((r.pos / 131072 + i) * 131072)).1 0).eraseDups
    if ports.all s.memberReady then ports
    else if m.super.parity && decide (3 ≤ (m.super.ports.filter s.memberReady).length) then m.super.ports.filter s.memberReady
    else []

/-- NVMe Reads of a record for a Store command; `false` when a member that holds it cannot be read. -/
def readRecord (k cid : Nat) (r : Rec) (s : State) : State × Bool :=
  let ports := s.readPorts r
  ((ports.foldl (fun s p => issueNvme p { kind := .read, owner := some (k, cid) } s) (s.setCmd k cid fun c => { c with set := [r.seq] })), !ports.isEmpty)

/-- The record has been read: checks, then the transfer and the completion (R291). -/
def finishRead (k : Nat) (c : StoreCmd) (r : Rec) (s : State) : State :=
  let e := c.entry
  let key := if e.clear && e.clip != 0xFFFFFFFF then s.workKey? 2 (1000 + k * 65536 + e.cid) else s.heldKey e.clip
  if !s.recordGood r key then complete k e.cid Status.integrity 0 0 0xFF s
  else
    let data := if e.clear then padTo r.payload.length ((key.bind (r.open s.setId)).getD []) else r.stored s.setId
    let s := (s.hostWrite e.buf data).onStore fun x => { x with bytesRead := sat 64 (x.bytesRead + data.length) }
    complete k e.cid Status.ok data.length r.payload.length 0xFF s

/-- READ_RECORD (R291): from the Store buffer, or by NVMe Reads. -/
def doReadRecord (q cid : Nat) (s : State) : State :=
  storeCmd q cid 0x02 s fun k c =>
    let e := c.entry
    if e.clear ∧ e.stream < 10 then complete k cid Status.notPermitted 0 0 0xFF s
    else
      let s := if e.clip = 0xFFFFFFFF then ensureHostKey s else s
      match s.findRec e.clip e.stream e.index with
      | none => complete k cid Status.invalidField 0 0 0xC s
      | some r =>
        let need := if e.clear then r.payload.length else recBytes r.payload.length
        let pk := s.playKey e.clip
        if e.clear && (if e.clip = 0xFFFFFFFF then (s.workKey? 1 0).isNone else pk.isNone) then complete k cid Status.notPermitted 0 0 0xFF s
        else if e.length < need then complete k cid Status.noSpace need r.payload.length 0xFF s
        else
          let s := match e.clear && e.clip != 0xFFFFFFFF, pk with
            | true, some (key, n) => holdKey 2 (1000 + k * 65536 + cid) key (some n) s
            | _, _ => s
          let s := s.setCmd k cid fun c => { c with begun := true }
          if r.st == .accepted then finishRead k c r s
          else match readRecord k cid r s with
            | (s, true) => s
            | (s, false) => complete k cid Status.mediaError 0 0 0xFF s

/-- The next record of a Verify Record: it is read back from the medium, which it must reach first (R292). -/
def verifyNext (k cid : Nat) (s : State) : State :=
  match s.store.cmds.find? fun c => c.q == k && c.entry.cid == cid with
  | none => s
  | some c =>
    let e := c.entry
    let i := e.index + c.accepted
    if e.count ≤ c.accepted then complete k cid Status.ok c.accepted 0xFFFFFFFF 0xFF s
    else match s.findRec e.clip e.stream i with
      | none => complete k cid Status.invalidField c.accepted i 0xC s
      | some r =>
        if r.st == .accepted then pump (s.setCmd k cid fun c => { c with set := [r.seq] })
        else match readRecord k cid r s with
          | (s, true) => s
          | (s, false) => complete k cid Status.mediaError c.accepted i 0xFF s

/-- VERIFY_RECORD (R292). -/
def doVerifyRecord (q cid : Nat) (s : State) : State :=
  storeCmd q cid 0x03 s fun k _ => verifyNext k cid (ensureHostKey (s.setCmd k cid fun c => { c with begun := true }))

/-- NVMe Reads for a Store command have completed (R291, R292). -/
def readDone (k cid : Nat) (ok : Bool) (s : State) : State :=
  match s.store.cmds.find? fun c => c.q == k && c.entry.cid == cid with
  | none => s
  | some c =>
    let i := c.entry.index + c.accepted
    match c.entry.opcode, s.store.recs.find? (fun r => c.set.contains r.seq) with
    | 2, some r => if ok then finishRead k c r s else complete k cid Status.mediaError 0 0 0xFF s
    | 3, some r =>
      if !ok then complete k cid Status.mediaError c.accepted i 0xFF s
      else if !s.recordGood r (s.heldKey c.entry.clip) then complete k cid Status.integrity c.accepted i 0xFF s
      else verifyNext k cid (s.setCmd k cid fun c => { c with accepted := c.accepted + 1, committed := true, set := [] })
    | 2, none => complete k cid Status.invalidField 0 0 0xC s
    | _, _ => verifyNext k cid s

/-! ### Writing, trimming, flushing (R290, R293, R296) -/

/-- Records that a Write Record writes (R287). -/
def SqEntry.records (e : SqEntry) : Nat := ceilDiv e.length partSize

/-- Length of record `r` of a Write Record (R287). -/
def SqEntry.recLength (e : SqEntry) (r : Nat) : Nat := min (partSize * (r + 1)) e.length - partSize * r

/-- Free bytes that host records may use: while a clip records, 64 MiB stay in reserve (R330). -/
def State.spaceFree (s : State) : Nat := (s.store.mounted.elim 0 (·.freeBytes)) - (if s.store.clip.isSome then 67108864 else 0)

/-- WRITE_RECORD (R290): the checks before any record is accepted; acceptance follows with RECORD_ACCEPT. -/
def doWriteRecord (q cid : Nat) (s : State) : State :=
  storeCmd q cid 0x01 s fun k c =>
    let e := c.entry
    let n := e.records
    let s := ensureHostKey s
    let host := decide (e.clip = 0xFFFFFFFF)
    let entry := (s.store.mounted.elim [] (·.clips)).find? (·.1 == e.clip)
    let recording := s.store.clip.any fun c => c.num == e.clip && !c.closing
    let need := sumNat ((List.range n).map fun r => recBytes (e.recLength r))
    if s.set?.isNone ∨ e.stream < 10 ∨ (host = false ∧ recording = false ∧ entry.isSome = true) then complete k cid Status.notPermitted 0 0 0xFF s
    else if host = false ∧ recording = false then complete k cid Status.invalidField 0 0 4 s
    else if 0xFFFFFFFE < e.index + n - 1 then complete k cid Status.invalidField 0 0 0xC s
    else if host = true ∧ (s.workKey? 1 0).isNone = true then complete k cid Status.notPermitted 0 0 0xFF s
    else if s.spaceFree < need then complete k cid Status.noSpace 0 0 0xFF s
    else s.setCmd k cid fun c => { c with begun := true }

/-- A record that a TRIM of a clip, or of host-area records, removes. -/
def Rec.trims (r : Rec) (e : SqEntry) : Bool :=
  r.st != .lost && r.trimmed.isNone && r.kind != 6 && r.kind != 8 && r.clip == e.clip &&
  (e.clip != 0xFFFFFFFF || (r.kind == 1 && r.stream == e.stream && decide (e.index ≤ r.index) && decide (r.index < e.index + e.count)))

/-- TRIM_CLIP (R293): one journal entry; it completes when that is on the medium. -/
def doTrimClip (q cid : Nat) (s : State) : State :=
  storeCmd q cid 0x04 s fun k c =>
    let e := c.entry
    if e.clip != 0xFFFFFFFF && s.store.clip.any (·.num == e.clip) then complete k cid Status.notPermitted 0 0 0xFF s
    else if e.clip ≠ 0xFFFFFFFF ∧ (s.set?.any fun m => m.clips.any (·.1 == e.clip)) = false then complete k cid Status.invalidField 0 0 4 s
    else if s.set?.isNone then complete k cid Status.notPermitted 0 0 0xFF s
    else
      let mine := s.store.recs.filter (·.trims e)
      let names := ((mine.filter (·.kind == 1)).map fun r => (r.stream, r.index)).eraseDups
      let body := if e.clip = 0xFFFFFFFF then le 4 e.clip ++ le 4 e.stream ++ le 4 e.index ++ le 4 e.count else le 4 e.clip ++ padTo 12 []
      let s := journal { kind := 6, clip := e.clip, time := s.reading } body none s
      let t := s.newest.seq
      let s := s.onStore fun x => { x with recs := x.recs.map fun r => if r.trims e then { r with trimmed := some t } else r }
      pump (s.setCmd k cid fun c => { c with begun := true, committed := true, accepted := names.length, set := [t] })

/-- Commands that wait for the medium and need wait no longer complete: forced writes, Trims and Flushes, in fetch order (R294, R296,
R297); a Verify Record whose record has reached the medium reads it back (R292). -/
def sweepCmds (s : State) : State :=
  s.store.cmds.foldl (fun s c =>
    let rs := s.store.recs.filter fun r => c.set.contains r.seq
    let lost := (rs.filter (·.st == .lost)).length
    let on := (rs.filter (·.st == .onMedium)).length
    let op := c.entry.opcode
    if !c.begun || rs.any (·.st == .accepted) || (c.q == 4) then s
    else if op = 5 then complete c.q c.entry.cid (if lost = 0 then Status.ok else Status.mediaError) on lost 0xFF s
    else if op = 1 ∧ c.entry.forced = true ∧ c.entry.records ≤ c.accepted then
      complete c.q c.entry.cid (if lost = 0 then Status.ok else Status.mediaError) c.accepted 0 0xFF s
    else if op = 4 then complete c.q c.entry.cid (if lost = 0 then Status.ok else Status.mediaError) (if lost = 0 then c.accepted else 0) 0 0xFF s
    else if op = 3 ∧ !s.nvmeAny (fun n => n.owner == some (c.q, c.entry.cid)) then verifyNext c.q c.entry.cid s
    else s) s

/-- FLUSH (R296): its set was fixed at its fetch. -/
def doFlush (q cid : Nat) (s : State) : State :=
  storeCmd q cid 0x05 s fun k _ => sweepCmds (pump (s.setCmd k cid fun c => { c with begun := true }))

/-! ### Abort (R298) -/

/-- A target can still be aborted (Table 10-5). -/
def StoreCmd.abortable (c : StoreCmd) : Bool :=
  match c.entry.opcode with
  | 1 => !c.begun || decide (c.accepted < c.entry.records)
  | 5 => true
  | _ => !c.committed

/-- Indices of unfetched entries of a pair, in ring order. -/
def QPair.unfetched (p : QPair) : List Nat :=
  (List.range ((p.sqTail + p.sqEntries - p.sqHead) % max 1 p.sqEntries)).map fun i => (p.sqHead + i) % max 1 p.sqEntries

/-- ABORT (R298). -/
def doAbort (q cid : Nat) (s : State) : State :=
  storeCmd q cid 0x06 s fun k c =>
    let tc := c.entry.arg0 % 65536
    let tq := c.entry.arg0 / 65536
    let target := s.store.cmds.find? fun x => x.q == tq && x.entry.cid == tc
    if 3 < tq ∨ (tq = k ∧ tc = cid) ∨ (target.any (·.entry.opcode == 6)) = true then complete k cid Status.invalidField 0 0 0x20 s
    else match target with
      | some t =>
        if t.abortable then complete k cid Status.abortedOk 0 0 0xFF (complete tq tc Status.aborted (if t.entry.opcode = 1 then t.accepted else 0) 0 0xFF s)
        else complete k cid Status.alreadyDone 0 0 0xFF s
      | none =>
        match s.pair? tq with
        | none => complete k cid Status.alreadyDone 0 0 0xFF s
        | some p =>
          let held := p.held.any fun x => x.cid == tc && !x.dup
          match p.unfetched.find? fun i => !p.marked.contains i && (parseEntry (s.hostRead (p.sqBase + 64 * i) 64)).cid == tc with
          | some i =>
            if held || p.marked.any fun i => (parseEntry (s.hostRead (p.sqBase + 64 * i) 64)).cid == tc then complete k cid Status.alreadyDone 0 0 0xFF s
            else complete k cid Status.abortedOk 0 0 0xFF (s.setPair tq fun p => { p with marked := p.marked ++ [i] })
          | none => complete k cid Status.alreadyDone 0 0 0xFF s

/-! ### Admin commands (R300 to R303) -/

/-- Vendor ID of the PCIe function (R3). -/
def pcieVendorId : Nat := Config.caerneVid

/-- Device ID of the PCIe function (R3). -/
def pcieDeviceId : Nat := 0x9624

/-- Revision ID of the PCIe function: stepping B2 (R2, R3). -/
def pcieRevisionId : Nat := 0xB2

/-- An image header's LEVEL and RELEASE as BAR0 reports them (Table 15-2). -/
def State.servedLevel (s : State) : Nat := if s.sys.stage = 2 then fieldLe s.imageBytes 6 1 else 0
def State.servedRelease (s : State) : Nat := if s.sys.stage = 2 then fieldLe s.imageBytes 8 2 else 0

/-- Identify data of the device (Table 10-7). -/
def State.identifyDevice (s : State) : Bytes :=
  padTo 4096 (le 2 pcieVendorId ++ le 2 pcieDeviceId ++ le 1 pcieRevisionId ++ le 1 s.servedLevel ++ le 2 s.servedRelease ++ le 2 512 ++ le 2 256 ++
    le 4 16777216 ++ le 4 268435456 ++ le 1 (b2n s.sys.service + 2 * s.sys.pstate))

/-- Identify data of the media set (Table 10-7). -/
def State.identifyMedia (s : State) : Bytes :=
  match s.set? with
  | none => padTo 4096 []
  | some m =>
    let rec_ := s.store.clip.isSome
    padTo 4096 (le 4 (1 + 2 * b2n rec_ + 4 * sumNat (m.super.ports.map (2 ^ ·)) + 64 * b2n m.super.parity) ++
      le 4 ((s.store.clip.map (·.num)).getD 0) ++ le 8 (m.super.extents * extentSize) ++ le 8 m.freeBytes ++ le 4 m.clips.length)

/-- IDENTIFY (R301). -/
def doIdentify (q cid : Nat) (s : State) : State :=
  storeCmd q cid 0x81 s fun k c =>
    complete k cid Status.ok 0 0 0xFF (s.hostWrite c.entry.buf (if c.entry.arg0 = 0 then s.identifyDevice else s.identifyMedia))

/-- Bytes of a slot's image that its header declares. -/
def imageLength (b : Bytes) : Nat := fieldLe b 0xC 4

/-- The checks of R459 on an image: 0 valid, 1 the form, digest or a signature fails, 2 ROLLBACK or BIND_UID fails. -/
def State.imageCheck (s : State) (b : Bytes) : Nat :=
  let len := imageLength b
  let maker := slice b 0x140 96
  let form := fieldLe b 0 4 == 0x4D57474A && fieldLe b 4 2 == 1 && decide (512 ≤ len) && decide (len ≤ 4194304) && decide (len ≤ b.length) &&
    fieldLe b 0xA 2 == 0 && allZero (slice b 0x18 40) && allZero (slice b 0x70 16)
  let digest := slice b 0x40 48 == Config.sha384 (slice b 0x200 (len - 0x200))
  let caerne := Config.sha384 (slice b 0x80 96) == Config.caerneKeyHash && Config.ecdsaVerify (slice b 0x80 96) (slice b 0 0x80) (slice b 0xE0 96)
  let makerOk := if allZero Config.makerKeyHash then allZero maker && allZero (slice b 0x1A0 96)
    else Config.sha384 maker == Config.makerKeyHash && Config.ecdsaVerify maker (slice b 0 0x80) (slice b 0x1A0 96)
  if !(form && digest && caerne && makerOk) then 1
  else if decide (fieldLe b 7 1 < s.sys.rollback) || (fieldLe b 0x10 8 != 0 && fieldLe b 0x10 8 != Config.deviceUid) then 2
  else 0

/-- The staged image: pieces laid over zero bytes (R304). -/
def State.stagedImage (s : State) : Bytes :=
  let n := s.store.staged.foldl (fun n (o, b) => max n (o + b.length)) 0
  s.store.staged.foldl (fun img (o, b) => splice img o b) (padTo n [])

/-- A log page (Table 10-8; the layouts within pages are the model's, log 49). -/
def State.logPage (s : State) (id n : Nat) : Bytes :=
  match id with
  | 1 => padTo 2048 (s.store.errors.flatMap fun (q, cid, op, st, t, f) => padTo 32 (le 1 q ++ le 1 0 ++ le 2 cid ++ le 1 op ++ le 1 f ++ le 2 st ++ le 8 t))
  | 2 => padTo 512 (([1, 2, 3, 4, 5, 6, 0x81, 0x82, 0x83, 0x84, 0x85, 0x86, 0x87].flatMap fun op =>
      le 8 ((s.store.perOpcode.find? (·.1 == op)).elim 0 (·.2))) ++
      [s.store.bytesWritten, s.store.bytesRead, s.store.highWater, s.store.longestFlush, s.store.longestHold].flatMap (fun v => le 8 (sat 64 v)))
  | 3 =>
    let slot := fun (b : Bytes) => le 2 (fieldLe b 8 2) ++ le 1 (fieldLe b 6 1) ++ le 1 (b2n (s.imageCheck b == 0)) ++ le 4 (imageLength b)
    padTo 128 (slot (s.sys.flash.slots.getD 0 []) ++ slot (s.sys.flash.slots.getD 1 []) ++
      le 1 ((s.sys.image.map (·.slot)).getD 0) ++ le 1 s.sys.rollback ++ le 2 0 ++ le 4 s.stagedImage.length)
  | _ => (List.range 4).flatMap fun m => if s.memberReady m then le 256 (Config.freeBits 2048 (n + m)) else padTo 256 []

/-- GET_LOG_PAGE (R302): what the members report of their health is free. -/
def doGetLogPage (q cid : Nat) (s : State) : State :=
  storeCmd q cid 0x82 s fun k c =>
    let e := c.entry
    let (n, s) := s.takeFree
    let page := s.logPage e.arg0 (4 * n)
    let b := (page.drop e.arg1).take e.length
    complete k cid Status.ok b.length 0 0xFF (s.hostWrite e.buf b)

/-- GET_FEATURES (R303). -/
def doGetFeatures (q cid : Nat) (s : State) : State :=
  storeCmd q cid 0x83 s fun k c =>
    match c.entry.arg0 with
    | 1 => complete k cid Status.ok (s.store.hostShare / 1048576) 0 0xFF s
    | 2 => match s.pair? (qIndex c.entry.arg1) with
      | some p => complete k cid Status.ok (p.coalCount + 65536 * p.coalTime) 0 0xFF s
      | none => complete k cid Status.invalidField 0 0 0x24 s
    | _ => complete k cid Status.ok s.store.arbBurst 0 0xFF s

/-- SET_FEATURES (R303). -/
def doSetFeatures (q cid : Nat) (s : State) : State :=
  storeCmd q cid 0x84 s fun k c =>
    let v := c.entry.arg2
    let bad := complete k cid Status.invalidField 0 0 0x28 s
    match c.entry.arg0 with
    | 1 => if v < 16 ∨ 1024 < v ∨ (s.mem.plan.any fun m => decide (m.storePages * 4096 < 2 * v * 1048576)) = true then bad
      else complete k cid Status.ok 0 0 0xFF (s.onStore fun x => { x with hostShare := v * 1048576 })
    | 2 =>
      let count := v % 256
      let time := bits v 16 10
      if v ≠ count + 65536 * time ∨ 1000 < time then bad
      else match s.pair? (qIndex c.entry.arg1) with
        | none => complete k cid Status.invalidField 0 0 0x24 s
        | some p =>
          let n := qIndex c.entry.arg1
          let due := decide (0 < p.unsignalled) && (count == 0 || time == 0 || decide (count ≤ p.unsignalled) || decide (p.firstUnsig + us time ≤ s.now))
          let s := s.setPair n fun p => { p with coalCount := count, coalTime := time, unsignalled := if due then 0 else p.unsignalled }
          complete k cid Status.ok 0 0 0xFF (if due then { s with ev := s.ev.signal p.vector } else s)
    | _ => if v = 0 ∨ 16 < v then bad else complete k cid Status.ok 0 0 0xFF (s.onStore fun x => { x with arbBurst := v })

/-- FIRMWARE_DOWNLOAD (R304). -/
def doFirmwareDownload (q cid : Nat) (s : State) : State :=
  storeCmd q cid 0x85 s fun k c =>
    let e := c.entry
    complete k cid Status.ok e.length 0 0xFF (s.onStore fun x => { x with staged := x.staged ++ [(e.arg0, s.hostRead e.buf e.length)] })

/-! ### Store reset (R299) -/

/-- An outstanding command at the reset instant: before its commit point it completes with RESET. -/
def resetCmd (s : State) (c : StoreCmd) : State :=
  let past := c.q == 4 && c.entry.opcode == 0x86 && s.store.activation.any (·.handover.isSome)
  if past then s
  else if c.q == 4 || c.abortable then complete c.q c.entry.cid Status.reset (if c.entry.opcode = 1 then c.accepted else 0) 0 0xFF s
  else s

/-- What the reset instant does to every queue (R299). -/
def resetQueues (s : State) : State :=
  let s := s.onStore fun x => { x with pairs := x.pairs.map (·.map fun p => { p with resetTo := some p.sqTail }) }
  let s := s.store.cmds.foldl resetCmd s
  s.onStore fun x => { x with
    staged := [], powerEntry := none, jobs := x.jobs.map fun j => { j with power := none }
    activation := x.activation.bind fun a => if a.handover.isSome then some a else none }

/-- STORE.RESET (R299). -/
def doStoreReset (d : Nat) (s : State) : State :=
  drawerCmd d 0x0903 s fun c => checked d c 0 [] s fun s =>
    if s.store.resetting.isSome then fail d Status.busy s
    else (resetQueues (s.onStore fun x => { x with resetting := some d })).begin d

/-- STORE_RESET_DONE (R299): every completion due is posted. -/
def doStoreResetDone (s : State) : State :=
  match s.store.resetting with
  | none => s
  | some d =>
    let done_ := s.store.cmds.isEmpty && s.store.pairs.all fun p => match p with
      | some p => p.held.isEmpty && p.sqHead == p.resetTo.getD p.sqHead
      | none => true
    if !done_ then s
    else
      let s := s.onStore fun x => { x with resetting := none, pairs := x.pairs.map (·.map fun p => { p with resetTo := none, marked := [] }) }
      raise 180 0 [] none (done d [] s)

/-! ### The commands -/

def execStoreCreateQueue (d : Nat) (s : State) : Out := whenLive s (doStoreCreateQueue d)
def execStoreDeleteQueue (d : Nat) (s : State) : Out := whenLive s (doStoreDeleteQueue d)
def execStoreReset (d : Nat) (s : State) : Out := whenLive s (doStoreReset d)
def execStoreResetDone (s : State) : Out := whenLive s doStoreResetDone
def execSqTailDoorbell (q : Nat) (v : DoorbellWrite) (s : State) : Out := whenLive (s.hostStores v.stores) (doSqTailDoorbell q v.value)
def execCqHeadDoorbell (q v : Nat) (s : State) : Out := whenLive s (doCqHeadDoorbell q v)
def execEntryFetch (q : Nat) (s : State) : Out := whenLive s (doEntryFetch q)
def execCompletionPost (q : Nat) (s : State) : Out := whenLive s (doCompletionPost q)
def execWriteRecord (q cid : Nat) (s : State) : Out := whenLive s (doWriteRecord q cid)
def execReadRecord (q cid : Nat) (s : State) : Out := whenLive s (doReadRecord q cid)
def execVerifyRecord (q cid : Nat) (s : State) : Out := whenLive s (doVerifyRecord q cid)
def execTrimClip (q cid : Nat) (s : State) : Out := whenLive s (doTrimClip q cid)
def execFlush (q cid : Nat) (s : State) : Out := whenLive s (doFlush q cid)
def execAbort (q cid : Nat) (s : State) : Out := whenLive s (doAbort q cid)
def execIdentify (q cid : Nat) (s : State) : Out := whenLive s (doIdentify q cid)
def execGetLogPage (q cid : Nat) (s : State) : Out := whenLive s (doGetLogPage q cid)
def execGetFeatures (q cid : Nat) (s : State) : Out := whenLive s (doGetFeatures q cid)
def execSetFeatures (q cid : Nat) (s : State) : Out := whenLive s (doSetFeatures q cid)
def execFirmwareDownload (q cid : Nat) (s : State) : Out := whenLive s (doFirmwareDownload q cid)

end Sys2Proof.Machine
end

