-- ==== Sys2Proof/Machine/Media.lean ====
section
/-! DEFINITION. The media set: acceptance of records, the medium, members and their failures, clips, forming, mounting with replay,
playback, and firmware activation (11_media_layout.md R311 to R341, 10_store_queues.md R305, R306). -/

namespace Sys2Proof.Machine

open Sys2Proof

/-! ### Closing a clip (R330, R335) -/

/-- The rest of the clip's journal once nothing of it is on its way: missing frames as GAPs, INDEX, MANIFEST, checkpoint, superblock. -/
def closeStep (s : State) : State :=
  match s.store.clip with
  | none => s
  | some c =>
    let busy := !s.store.gaps.isEmpty || s.store.incoming.any (·.record.clip == c.num) || s.live'.any fun (_, e) => e.clip == some c.num
    if !c.closing || c.manifest.isSome || busy then s
    else
      let s := if c.live || c.pre then chainComplete (c.waiting.length + 2) s else s
      let s := journalIndex s
      let k := (s.store.clip.getD c).chain
      let s := journal { kind := 5, clip := c.num, time := s.reading } (s.manifestBytes c.num k false) none s
      let r := s.newest
      let s := setClipEntry c.num (fun (n, _, sq, ix, _) => (n, 1, sq, ix, r.pos)) (s.onClip fun c => { c with manifest := some r.seq })
      checkpointSuper s

/-- The clip's last records and its MANIFEST are on the medium: its key is erased and STORE.CLIP_CLOSE completes (R330, R478). -/
def finishClose (s : State) : State :=
  match s.store.clip with
  | none => s
  | some c =>
    match c.manifest with
    | none => s
    | some q =>
      if (s.store.recs.any fun r => r.clip == c.num && r.st == .accepted) = true then s
      else
        let lost := s.store.recs.any fun r => r.seq == q && r.st == .lost
        let s := dropKey 0 0 (s.onStore fun x => { x with clip := none })
        match c.drawer with
        | some d => if lost then fail d Status.mediaError s else done d (le 4 c.num ++ le 4 c.lastFrame) s
        | none => s

/-- Once everything accepted is on the medium, an unmount writes its checkpoint and superblock (R319, R324). -/
def unmountStep (s : State) : State :=
  match s.store.mounted with
  | none => s
  | some m =>
    if m.phase == .unmounting && m.report.isEmpty && !(s.store.recs.any (·.st == .accepted)) then
      checkpointSuper (s.onSet fun m => { m with report := [1] })
    else s

/-! ### Activation (R305, R306) -/

/-- The old firmware stops this command at the handover in place of finishing it: MEM.COMPRESS, MEM.DECOMPRESS, and a MEM.JOB_CANCEL that
waits for one of them (R436). -/
def Drawer.jobCmd (x : Drawer) : Bool := [0x0E0A, 0x0E0B, 0x0E0C].contains x.cmd.opcode

/-- Before the handover: no I/O command is outstanding, the flush set is on the medium, and every accepted Drawer command but running
compression jobs has finished (R306, R436). -/
def activationStep (s : State) : State :=
  match s.store.activation with
  | none => s
  | some a =>
    let waits := s.store.recs.any fun r => a.set.contains r.seq && r.st == .accepted
    let cmds := s.drawers.any fun x => x.st == .busy && !(x.begun && x.jobCmd)
    if a.handover.isSome || s.ioOutstanding != 0 || waits || cmds then s
    else if (s.store.recs.any fun r => a.set.contains r.seq && r.st == .lost) = true then
      complete 4 a.cid Status.mediaError 0 0 0xFF (s.onStore fun x => { x with activation := none })
    else
      let s := endAllSessions 4 (endJobs s)
      { s.onStore fun x => { x with activation := some { a with handover := some s.now } } with sys := { s.sys with handover := true } }

/-- The other marker copy names the slot with the generation increased by 1 (R515). -/
def markSlot (slot : Nat) (f : Flash) : Flash :=
  let g := fun (i : Nat) => (f.markers.getD i none).elim 0 (·.2)
  let governs := if (f.markers.getD 1 none).isSome ∧ ((f.markers.getD 0 none).isNone ∨ g 0 < g 1) then 1 else 0
  let other := if f.markers.all (·.isNone) then 0 else 1 - governs
  { f with markers := f.markers.set other (some (slot, wrap 32 (g governs + 1))) }

/-- The end of bring-up (R519 step 8): STAGE 2 in Maintenance mode; the Firmware Commit that booted the image completes (R517), and
what firmware reports once it serves is raised (R460, R501). -/
def bringUpEnd (s : State) : State :=
  let mounting := s.store.mounted.any fun m => m.phase == .mounting
  if !s.sys.bringUp.running || !s.sys.bringUp.mountTried || mounting then s
  else
    let x := s.sys
    let s := { s with sys := { x with
      stage := 2, service := false, bringUp := default, bootCommit := none, tripFlag := none
      rollbackDue := x.rollbackDue || x.bootCommit.isSome
      flash := match x.bootCommit with | some (_, slot) => (if x.bootSel then x.flash else markSlot slot x.flash) | none => x.flash } }
    let s := if x.image.any (·.fallback) then raise 264 0 [] none s else s
    let s := match x.tripFlag with
      | some i => raise 288 i [i] none s
      | none => s
    match x.bootCommit with
    | some (cid, _) => complete 4 cid Status.ok (fieldLe s.imageBytes 8 2) 0 0xFF s
    | none => s

/-- What follows whenever the journal, the members or the commands have moved on. -/
def settle (s : State) : State :=
  bringUpEnd (activationStep (finishClose (sweepCmds (superAdvance 12 (pump (unmountStep (closeStep s)))))))

/-! ### Acceptance (R295, R322, R327 to R331) -/

/-- Entry class 5 of frames whose records wait no more (R52). -/
def endStored (l : List Incoming) (s : State) : State :=
  l.foldl (fun s i => match i.entry with
    | some e =>
      if s.store.incoming.any (·.entry == some e) then s else endClass e 5 s
    | none => s) s

/-- The clip closes on its own (R330): what still waits for it is not recorded. -/
def autoClose (s : State) : State :=
  match s.store.clip with
  | none => s
  | some c =>
    let out := s.store.incoming.filter (·.record.clip == c.num)
    let s := s.onStore fun x => { x with incoming := x.incoming.filter (·.record.clip != c.num) }
    let off := fun (f : Nat) => wrap 32 (f + 2 ^ 32 - c.firstFrame)
    let partial' := out.filterMap fun i => if i.record.stream == 8 && i.record.part != 0 then some (off i.record.frame + 1) else none
    let n := (partial' ++ c.waiting.map fun w => off w.1 + 1).foldl max c.chain.count
    let s := s.onClip fun c => { c with closing := true, lastFrame := wrap 32 (c.firstFrame + n + 2 ^ 32 - 1) }
    raise 204 0 [] none (endStored out s)

/-- A raw frame of the chain's port is accepted whole (R333). -/
def rawWhole (r : Rec) (s : State) : State :=
  match s.store.clip, r.ticket with
  | some c, some t =>
    let parts := s.store.recs.filter fun q => q.kind == 1 && q.clip == c.num && q.stream == 8 && q.frame == r.frame && q.ticket == some t
    if r.stream = 8 ∧ bit t.ports c.lead = true ∧ r.part + 1 = r.parts ∧ parts.length = r.parts then
      chainOffer r.frame t.bytes (padTo 48 (Config.sha384 (parts.flatMap (·.payload)))) s
    else s
  | _, _ => s

/-- EVT.MEDIA.NEARLY_FULL at 95 % use (R330). -/
def nearlyFull (s : State) : State :=
  match s.store.mounted with
  | none => s
  | some m =>
    let full := decide (20 * m.freeBytes ≤ m.super.extents * extentSize)
    let s1 := s.onSet fun m => { m with nearlyFull := full }
    if full && !m.nearlyFull then raise 203 0 [] none s1 else s1

/-- A pipeline record at the head of its queue: it belongs to no clip any more, needs the closing reserve, waits for room, or is
accepted (R295, R328, R330). -/
def acceptPipeline (i : Incoming) (s : State) : State :=
  let drop := s.onStore fun x => { x with incoming := x.incoming.drop 1 }
  match s.store.clip, s.set? with
  | some c, some m =>
    let r := i.record
    let n := recBytes i.plain.length
    let held := sumNat (s.store.recs.map fun r => if r.st == .accepted then recBytes r.payload.length else 0)
    let after := c.closing && r.stream == 8 && !(serialLe r.frame c.lastFrame)
    if r.clip ≠ c.num ∨ c.manifest.isSome = true ∨ after = true then endStored [i] drop
    else if m.freeBytes < n + 67108864 ∧ c.closing = false then autoClose s
    else if s.bufferSize < held + n then s
    else
      let index := c.nextIndex.getD r.stream 0
      let s := journal { r with index := index } i.plain (some ((s.workKey? 0 0).getD [])) drop
      let q := s.newest
      let s := s.onClip fun c => { c with
        nextIndex := c.nextIndex.set r.stream (index + 1), toIndex := c.toIndex ++ [(r.stream, r.part, index, q.seq, q.pos)] }
      let s := rawWhole q s
      let s := if (s.store.clip.elim 0 (·.toIndex.length)) < 4096 then s else journalIndex s
      nearlyFull (endStored [i] s)
  | _, _ => endStored [i] drop

/-- The first Write Record that still has records to write, if the host's share has room (R287, R295). -/
def acceptHost (s : State) : State :=
  match s.store.cmds.find? (fun c => c.entry.opcode == 1 && c.begun && decide (c.accepted < c.entry.records)), s.set? with
  | some c, some _ =>
    let e := c.entry
    let n := e.recLength c.accepted
    let host := sumNat (s.store.recs.map fun r => if r.st == .accepted && r.host then r.payload.length else 0)
    if s.store.hostShare < host + n ∨ s.bufferSize < s.bufferUsed + recBytes n then s
    else
      let data := s.hostRead (e.buf + partSize * c.accepted) n
      let old := s.newest.seq
      let key := if e.clip = 0xFFFFFFFF then s.workKey? 1 0 else s.workKey? 0 0
      let r : Rec := { kind := 1, clip := e.clip, stream := e.stream, index := e.index + c.accepted, time := s.reading, host := true }
      let s := journal r data (some (key.getD [])) s
      let q := s.newest
      if q.seq = old then complete c.q e.cid Status.noSpace c.accepted 0 0xFF s
      else
        let s := s.onStore fun x => { x with bytesWritten := sat 64 (x.bytesWritten + n) }
        let s := if e.clip = 0xFFFFFFFF then s else s.onClip fun k => { k with toIndex := k.toIndex ++ [(q.stream, q.part, q.index, q.seq, q.pos)] }
        let s := if (s.store.clip.elim 0 (·.toIndex.length)) < 4096 then s else journalIndex s
        let k := c.accepted + 1
        let s := nearlyFull (s.setCmd c.q e.cid fun c => { c with accepted := k, set := c.set ++ [q.seq] })
        if k = e.records ∧ e.forced = false then complete c.q e.cid Status.ok k 0 0xFF s else s
  | _, _ => s

/-- RECORD_ACCEPT (R295): a GAP that is due, else the next pipeline record, else the next host record. -/
def doRecordAccept (s : State) : State :=
  settle (match s.store.gaps, s.store.incoming with
    | (l, f, n, cause) :: r, _ => journalGap l f n cause (s.onStore fun x => { x with gaps := r })
    | [], i :: _ => acceptPipeline i s
    | [], [] => acceptHost s)

/-! ### On the medium (R313, R324) -/

/-- Extents that a TRIM leaves without a record that counts (R324). -/
def State.emptyExtents (s : State) (m : Mounted) : List Nat :=
  let needed := fun (r : Rec) => (r.kind != 6 && r.kind != 8) || r.seq == m.ckptOn.1 || r.seq == m.super.ckptSeq
  m.used.filter fun e => e != m.cur && e != m.next && !m.freed.contains e && !(m.freedCkpt.any (·.1 == e)) &&
    !(s.store.recs.any fun r => r.st != .lost && r.pos / extentSize == e && needed r)

/-- A TRIM is on the medium: what it names is gone, and a checkpoint and a superblock follow (R293, R319, R324). -/
def trimDone (r : Rec) (s : State) : State :=
  let s := s.onStore fun x => { x with recs := x.recs.filter fun q => q.trimmed != some r.seq }
  let s := s.onSet fun m => { m with clips := m.clips.filter fun c => c.1 != r.clip }
  match s.store.mounted with
  | none => s
  | some m => checkpointSuper (s.onSet fun x => { x with freed := x.freed ++ s.emptyExtents m })

/-- RECORD_ON_MEDIUM (R313): the earliest record whose Writes and Flushes have completed is on the medium. -/
def doRecordOnMedium (s : State) : State :=
  match s.store.recs.find? Rec.durable with
  | none => s
  | some r =>
    let s := s.onStore fun x => { x with recs := x.recs.map fun q => if q.seq = r.seq ∧ q.st = .accepted then { q with st := .onMedium } else q }
    let s := if r.kind = 8 then s.onSet fun m => if m.ckptOn.1 < r.seq then { m with ckptOn := (r.seq, r.pos) } else m else s
    let s := if r.kind = 5 then raise 196 0 [] none s else s
    settle (if r.kind = 6 then trimDone r s else s)

/-! ### Members (R312, R313, R317) -/

/-- An accepted record cannot be written (R297). -/
def loseRec (s : State) (r : Rec) : State :=
  if r.st != .accepted then s
  else raise 179 0 [r.clip, r.stream, r.index] none
    (s.onStore fun x => { x with recs := x.recs.map fun q => if q.seq = r.seq then { q with st := .lost } else q })

/-- Accepted records of some SEQs are lost. -/
def loseSeqs (l : List Nat) (s : State) : State := (s.store.recs.filter fun r => l.contains r.seq).foldl loseRec s

/-- A Drawer that waits for the set completes with MEDIA_ERROR. -/
def failWaiting (d : Option Nat) (s : State) : State := match d with | some d => fail d Status.mediaError s | none => s

/-- The set fails (R317): nothing more is accepted, host writes complete with MEDIA_ERROR, and it is unmounted. -/
def failSet (s : State) : State :=
  match s.store.mounted with
  | none => s
  | some m =>
    let s := s.store.recs.foldl loseRec (raise 199 0 [] none s)
    let s := s.store.cmds.foldl (fun s c =>
      if c.begun && decide (c.q < 4) && c.entry.opcode != 5 && c.entry.opcode != 6 then complete c.q c.entry.cid Status.mediaError c.accepted 0 0xFF s else s) s
    let s := failWaiting m.drawer (failWaiting (s.store.clip.bind (·.drawer)) s)
    let out := s.store.incoming
    let s := endStored out (s.onStore fun x => { x with
      mounted := none, clip := none, incoming := [], gaps := [], plays := []
      members := x.members.map fun m => { m with cmds := m.cmds.filter (·.kind == .init) } })
    let s := { s with sec := { s.sec with working := [] } }
    raise 193 0 [] none s

/-- A member fails (R290, R312, R317). -/
def failMember (p : Nat) (s : State) : State :=
  let gone := (at! s.store.members p).cmds
  let s := s.onStore fun x => { x with
    members := upd x.members p fun m => { m with st := .failed, cmds := [] }
    recs := x.recs.map fun r => { r with toFlush := r.toFlush.filter (· != p) } }
  match s.store.mounted with
  | none => s
  | some m =>
    if !m.super.ports.contains p then s
    else if m.super.parity && !m.degraded && m.phase != .forming then
      let s := raise 200 0 [] none (s.onSet fun m => { m with degraded := true })
      let s := s.store.cmds.foldl (fun s c =>
        if c.entry.opcode == 1 && c.begun && decide (c.q < 4) then complete c.q c.entry.cid Status.mediaError c.accepted 0 0xFF s else s) s
      let owners := (gone.filterMap (·.owner)).eraseDups
      let s := owners.foldl (fun s (k, cid) =>
        let s := s.onStore fun x => { x with members := x.members.map fun m => { m with cmds := m.cmds.filter fun n => n.owner != some (k, cid) } }
        match s.store.cmds.find? (fun c => c.q == k && c.entry.cid == cid) with
        | some c => match s.store.recs.find? (fun r => c.set.contains r.seq) with
          | some r => (readRecord k cid r s).1
          | none => s
        | none => s) s
      settle s
    else settle (failSet s)

/-! ### Playback (R341) -/

/-- The record that a play reads next. -/
def State.playRec (s : State) (p : Play) : Option Rec := s.findRec p.clip p.stream p.index

/-- A play reads its next record, past missing ones, or ends at the stream's last (R341); `fuel` bounds the missing records. -/
def playNext (fuel ctx : Nat) (s : State) : State :=
  match fuel, s.store.plays.find? (·.ctx == ctx) with
  | n + 1, some p =>
    let atEnd := !(s.store.recs.any fun r => r.kind == 1 && r.clip == p.clip && r.stream == p.stream && decide (p.index ≤ r.index) && r.st != .lost && r.trimmed.isNone)
    let c := s.ctx ctx
    if atEnd || s.set?.isNone || c.st != .openSt || !c.entry.inClip then
      dropKey 2 ctx (s.onStore fun x => { x with plays := x.plays.filter (·.ctx != ctx) })
    else
      let skip := fun (s : State) => raise 206 ctx [] none (s.onStore fun x => { x with plays := x.plays.map fun q => if q.ctx = ctx then { q with index := q.index + 1 } else q })
      match s.playRec p with
      | none => playNext n ctx (skip s)
      | some r =>
        let ports := s.readPorts r
        if ports.isEmpty then playNext n ctx (skip s)
        else ports.foldl (fun s m => issueNvme m { kind := .read, play := some ctx } s) s
  | _, _ => s

/-- The Reads of a play's record have completed: it is fed to the context if it is good and there is room (R341). -/
def playDone (ctx : Nat) (ok : Bool) (s : State) : State :=
  match s.store.plays.find? (·.ctx == ctx) with
  | none => s
  | some p =>
    let next := fun (s : State) => playNext 4096 ctx (s.onStore fun x => { x with plays := x.plays.map fun q => if q.ctx = ctx then { q with index := q.index + 1 } else q })
    match s.playRec p with
    | none => playNext 4096 ctx s
    | some r =>
      let plain := if ok && r.counts s.setId then (s.workKey? 2 ctx).bind (r.open s.setId) else none
      match plain with
      | none => next (raise 206 ctx [] none s)
      | some b => if (s.ctx ctx).streamRoom < r.payload.length then playNext 4096 ctx s else next (feedStream ctx (padTo r.payload.length b) s)

/-- STORE.PLAY (R326, R341): CLIP, STREAM, INDEX, engine, context. -/
def doStorePlay (d : Nat) (s : State) : State :=
  drawerCmd d 0x090A s fun c =>
    let (clip, st, ix, e, k) := (c.w 0, c.w 4, c.w 8, c.w 12, c.w 16)
    let i := 32 * e + k
    checked d c 20 [((s.set?.any fun m => m.clips.any (·.1 == clip)) == false, 0), (decide (7 < st), 4), ((s.findRec clip st ix).isNone, 8),
        (decide (1 < e), 12), (decide (31 < k), 16)] s fun s =>
      let x := s.ctx i
      match s.playKey clip with
      | none => fail d Status.notPermitted s
      | some (key, n) =>
        if x.st != .openSt || !x.entry.decode || !x.entry.inClip then fail d Status.notPermitted s
        else if s.store.plays.any (·.ctx == i) then fail d Status.busy s
        else
          let s := holdKey 2 i key (some n) (s.onStore fun y => { y with plays := y.plays ++ [{ clip := clip, stream := st, index := ix, ctx := i }] })
          playNext 4096 i (done d [] s)

/-! ### Forming, mounting, unmounting (R315, R336, R337) -/

/-- The first checkpoint of a new set, once every data area is deallocated (R315). -/
def formStep (s : State) : State :=
  match s.store.mounted with
  | none => s
  | some m =>
    if m.phase == .forming && m.chain.isEmpty && !s.nvmeAny (·.kind == .deallocate) then
      let many := decide (1 < m.super.extents)
      checkpointSuper (s.onSet fun m => { m with chain := [0], next := if many then 1 else noExtent, used := if many then [0, 1] else [0] })
    else s

/-- STORE.FORM_SET (R315): member mask, PARITY, Chest slot of the Production key. -/
def doStoreFormSet (d : Nat) (s : State) : State :=
  drawerCmd d 0x0904 s fun c =>
    let ports := maskBits 4 (c.w 0)
    checked d c 12 [(c.w 0 == 0 || decide (15 < c.w 0) || ports.any (fun p => !s.memberReady p), 0),
        (decide (1 < c.w 4) || (c.w 4 == 1 && ports.length != 4), 4), (decide (63 < c.w 8), 8)] s fun s =>
      match at! s.sec.slots (c.w 8) with
      | none => fail d Status.notPermitted s
      | some slot =>
        if s.sys.service || s.sec.debugOpen || bit slot.usage 0 = false then fail d Status.notPermitted s
        else if s.sec.entropyBad || s.store.mounted.isSome then fail d Status.busy s
        else
          let (n1, s) := s.draw
          let (n2, s) := s.draw
          let (n3, s) := s.draw
          let cap := ports.foldl (fun a p => min a (at! s.store.members p).ident.capacity) (at! s.store.members (ports.headD 0)).ident.capacity
          let l := cap / 131072 * 131072
          let x : Super := {
            setId := ofLe (Config.randomBytes n1 4) % (2 ^ 32 - 1) + 1, uuid := padTo 16 (Config.randomBytes n2 16), gen := 0
            created := s.reading, formedBy := Config.sha384 (slice identityCert 0x40 96), hostKeyId := slot.id
            hostKey := padTo 40 (Config.keyWrap slot.key (Config.randomBytes n3 32)), nrows := (l - 2097152) / 131072, parity := c.w 4 == 1
            ports := ports, serials := ports.map fun p => (at! s.store.members p).ident.serial }
          let s := s.onStore fun y => { y with recs := [], super := none, mounted := some { super := x, phase := .forming, drawer := some d } }
          ports.foldl (fun s p => issueNvme p { kind := .deallocate } s) (s.begin d)

/-- What replay has found so far: kept SEQs in the order found, present place, and the place after the last record kept. -/
structure Replay where
  kept : List Nat := []
  ext : Nat := 0
  nxt : Nat := 0
  pos : Nat := 0
  miss : Nat := 0
  tail : Nat × Nat × Nat := (0, 0, 0)

/-- The scan of R336: from one record that counts to the next, over at most OPEN_SPAN bytes without one. -/
def replayScan (fuel setId smin : Nat) (recs : List Rec) (x : Replay) : Replay :=
  match fuel with
  | 0 => x
  | n + 1 =>
    let stop := (x.ext + 1) * extentSize
    let here := recs.filter fun r => decide (smin ≤ r.seq) && decide (x.pos ≤ r.pos) && decide (r.pos + recBytes r.payload.length ≤ stop) && r.counts setId
    let next : Option Rec := here.foldl (fun (b : Option Rec) r => match b with
      | some q => if r.pos < q.pos then some r else b
      | none => some r) none
    match next with
    | some r =>
      let miss := x.miss + (r.pos - x.pos)
      if openSpan ≤ miss then x
      else
        let pos := r.pos + recBytes r.payload.length
        let nxt := match r.ckpt with | some c => c.next | none => x.nxt
        replayScan n setId smin recs { kept := x.kept ++ [r.seq], ext := x.ext, nxt := nxt, pos := pos, miss := 0, tail := (x.ext, nxt, pos) }
    | none =>
      let miss := x.miss + (stop - x.pos)
      if openSpan ≤ miss ∨ x.nxt = noExtent then x
      else replayScan n setId smin recs { x with ext := x.nxt, pos := x.nxt * extentSize, miss := miss }

/-- The clip table after a kept record (R337). -/
def applyKept (m : Mounted) (r : Rec) : Mounted :=
  match r.kind with
  | 8 => match r.ckpt with
    | some c => { m with clips := c.clips, used := c.used, nextClip := c.nextClip }
    | none => m
  | 3 => { m with clips := m.clips.filter (·.1 != r.clip) ++ [(r.clip, 0, r.seq, 0, 0)], nextClip := max m.nextClip (r.clip + 1) }
  | 7 => { m with clips := m.clips.map fun (n, st, sq, ix, mf) => if n = r.clip then (n, st, sq, r.pos, mf) else (n, st, sq, ix, mf) }
  | 5 => { m with clips := m.clips.map fun (n, st, sq, ix, mf) =>
      if n = r.clip then (n, if bit (fieldLe r.payload 0x70 4) 0 then 2 else 1, sq, ix, r.pos) else (n, st, sq, ix, mf) }
  | 6 => { m with clips := m.clips.filter (·.1 != r.clip) }
  | _ => m

/-- Frames of a clip by the records at hand: for each from the first to the last, the ticket bytes and digest of a whole frame, or
none; and whether a GAP record already covers it (R333, R337). -/
def clipFrames (recs : List Rec) (clip : Nat) : List (Nat × Option (Bytes × Bytes) × Bool) :=
  let mine := recs.filter fun r => r.clip == clip && r.st != .lost
  let gaps := (mine.filter (·.kind == 2)).map fun r => (fieldLe r.payload 0 4, fieldLe r.payload 4 4)
  let raw := mine.filter fun r => r.kind == 1 && r.stream == 8
  match (mine.filter fun r => r.kind == 2 || (r.kind == 1 && r.stream == 8)).head? with
  | none => []
  | some first =>
    let off := fun (f : Nat) => wrap 32 (f + 2 ^ 32 - first.frame)
    let near := fun (n : Nat) => if n < 2 ^ 31 then n else 0
    let last := (mine.filter fun r => r.kind == 1 && r.ticket.isSome).foldl (fun a r => max a (near (off r.frame))) 0
    let last := gaps.foldl (fun a g => max a (near (off g.1) + g.2 - 1)) last
    (List.range (last + 1)).map fun i =>
      let f := wrap 32 (first.frame + i)
      let parts := raw.filter (·.frame == f)
      let whole := match parts with
        | r :: _ => if parts.length = r.parts then r.ticket.map fun t => (t.bytes, padTo 48 (Config.sha384 (parts.flatMap (·.payload)))) else none
        | [] => none
      (f, whole, gaps.any fun g => decide (near (off g.1) ≤ i) && decide (i < near (off g.1) + g.2))

/-- A clip left open is recovered (R337): GAPs for its incomplete frames, and a MANIFEST with RECOVERED = 1. -/
def recoverClip (clip : Nat) (s : State) : State :=
  let frames := clipFrames s.store.recs clip
  let s := frames.foldl (fun s (f, whole, gap) =>
    if whole.isSome || gap then s
    else journal { kind := 2, clip := clip, frame := f, time := s.reading } (le 4 f ++ le 4 1 ++ le 1 (Config.code "replay GAP cause" 0)) none s) s
  let c0 := match s.store.recs.find? (fun r => r.kind == 3 && r.clip == clip) with
    | some r => Config.sha384 r.payload
    | none => []
  let prev := ((s.store.recs.filter fun r => r.kind == 4 && r.clip == clip).map (·.seq)).getLastD 0
  let k := frames.foldl (fun (k : Chain) (f, whole, _) =>
    let (t, d) := whole.getD (gapTicket f, padTo 48 [])
    { k with c := Config.sha384 (k.c ++ t ++ d), last := f, count := k.count + 1 }) { c := c0, prevProv := prev }
  let s := journal { kind := 5, clip := clip, time := s.reading } (s.manifestBytes clip k true) none s
  setClipEntry clip (fun (n, _, sq, ix, _) => (n, 2, sq, ix, s.newest.pos)) s

/-- Where a set's members now sit: the media port of each serial number, and whether all serve (R319). -/
def State.locateMembers (s : State) (x : Super) : List (Option Nat) :=
  x.serials.map fun n => (List.range 4).find? fun p => s.memberReady p && (at! s.store.members p).ident.serial == n

/-- Replay and what follows it (R336, R337); `d` is the Drawer of STORE.MOUNT. -/
def mountSet (d : Option Nat) (s : State) : State :=
  let answer := fun (st : Nat) => match d with | some d => fail d st s | none => s
  match s.store.super with
  | none => answer Status.integrity
  | some x =>
    let at' := s.locateMembers x
    let missing := (at'.filter (·.isNone)).length
    if (if x.parity then 1 else 0) < missing then answer Status.mediaError
    else match s.store.recs.find? (fun r => r.seq == x.ckptSeq && r.kind == 8 && r.counts x.setId), s.store.recs.find? (fun r => r.seq == x.ckptSeq) with
      | some cp, _ =>
        let k := cp.ckpt.getD {}
        let smin := k.nextSeq
        let recs := s.store.recs.filter (·.st == .onMedium)
        let y := replayScan (recs.length + 3) x.setId smin recs { ext := k.cur, nxt := k.next, pos := k.nextPos, tail := (k.cur, k.next, k.nextPos) }
        let top := y.kept.foldl max (smin - 1)
        let (ext, nxt, pos) := y.tail
        let keep := fun (r : Rec) => decide (r.seq < smin) || y.kept.contains r.seq
        let trims := (recs.filter fun r => r.kind == 6 && y.kept.contains r.seq).map (·.seq)
        let gone := fun (r : Rec) => r.trimmed.any fun t => trims.contains t || decide (t < smin)
        let recs := (recs.filter fun r => keep r && !gone r).map fun r => { r with trimmed := none, fresh := false }
        let m : Mounted := {
          super := { x with ports := at'.map (·.getD 4) }, phase := .mounting, drawer := d, nextSeq := top + 2 ^ 20
          chain := [ext], cpos := pos - ext * extentSize, next := nxt, used := k.used, clips := k.clips, nextClip := k.nextClip
          ckptOn := (x.ckptSeq, x.ckptAddr), lastCkpt := s.now, lastSuper := s.now, degraded := missing != 0 }
        let m := (recs.filter fun r => decide (smin ≤ r.seq)).foldl applyKept m
        let m := { m with used := (m.used ++ [ext] ++ if nxt = noExtent then [] else [nxt]).eraseDups }
        let m := { m with cpos := m.rowEnd m.cpos }
        let m := { m with issuedTo := m.cpos }
        let openClips := (m.clips.filter (·.2.1 == 0)).map (·.1)
        let s := s.onStore fun z => { z with recs := recs, mounted := some m }
        let s := openClips.foldl (fun s c => recoverClip c s) s
        let s := s.onSet fun m => { m with report := [y.kept.length, top + 1 - smin - y.kept.length, openClips.headD 0xFFFFFFFF] }
        settle (checkpointSuper (ensureHostKey s))
      | none, some _ => answer Status.integrity
      | none, none => answer Status.mediaError

/-- STORE.MOUNT (R326, R336). -/
def doStoreMount (d : Nat) (s : State) : State :=
  drawerCmd d 0x0905 s fun c => checked d c 0 [] s fun s =>
    if s.store.mounted.isSome then fail d Status.busy s else mountSet (some d) (s.begin d)

/-- STORE.UNMOUNT (R326). -/
def doStoreUnmount (d : Nat) (s : State) : State :=
  drawerCmd d 0x0906 s fun c => checked d c 0 [] s fun s =>
    if s.store.clip.isSome ∨ s.set?.isNone then fail d Status.notPermitted s
    else if (s.store.cmds.any fun c => decide (c.q < 4) && decide (c.entry.opcode < 5)) = true then fail d Status.busy s
    else settle ((s.onSet fun m => { m with phase := .unmounting, drawer := some d, report := [] }).begin d)

/-! ### Clips (R326 to R333) -/

/-- Frames of the Larder: coded raw frames, oldest first (R329). -/
def State.larderFrames (s : State) : List LarderItem := s.store.larder.filter (·.stream == 8)

/-- Items that a clip takes from the Larder: the newest `n` raw frames, and each marked stream of its mask from its first IRAP picture
within their span (R329). -/
def larderTake (items : List LarderItem) (n mask : Nat) : List LarderItem :=
  let raw := (items.filter (·.stream == 8))
  let raw := raw.drop (raw.length - n)
  match raw with
  | [] => []
  | first :: _ =>
    let stream := fun (st : Nat) => (items.filter fun i => i.stream == st && decide (first.time ≤ i.time)).dropWhile (!·.irap)
    raw ++ (maskBits 8 mask).flatMap stream

/-- CLIP_OPEN payload (R333; its layout is the model's, log 50). -/
def clipOpenBytes (num planGen time mask : Nat) (wrapped id : Bytes) : Bytes :=
  le 4 num ++ le 4 planGen ++ le 8 time ++ padTo 40 wrapped ++ padTo 16 id ++ le 4 mask ++ le 4 0 ++ padTo 304 identityCert

/-- STORE.CLIP_START (R326, R327, R329, R332, R333): PRE_FRAMES, stream mask, Chest slot of the Production key. -/
def doStoreClipStart (d : Nat) (s : State) : State :=
  drawerCmd d 0x0907 s fun c =>
    let (pre, mask, sl) := (c.w 0, c.w 4, c.w 8)
    checked d c 12 [(decide (s.larderFrames.length < pre), 0), (decide (1024 ≤ mask) || bit mask 8, 4), (decide (63 < sl), 8)] s fun s =>
      match s.set?, at! s.sec.slots sl with
      | some m, some slot =>
        if !s.sys.service || s.sys.pstate != 0 || s.sec.debugOpen || bit slot.usage 0 = false then fail d Status.notPermitted s
        else if s.store.clip.isSome || s.activating || s.entering || s.sec.entropyBad then fail d Status.busy s
        else
          let (n, s) := s.draw
          let key := padTo 32 (Config.randomBytes n 32)
          let wrapped := padTo 40 (Config.keyWrap slot.key key)
          let items := larderTake s.store.larder pre mask
          let lead := match items with | i :: _ => i.lead | [] => ((List.range 4).find? fun p => (at! s.sensors p).started).getD 0
          let first := match items with | i :: _ => i.frame | [] => (at! s.sensors lead).nextFrame
          let body := clipOpenBytes m.nextClip ((at! s.shelves ((at! s.sensors lead).shelf.getD 0)).gen) s.reading mask wrapped slot.id
          let clip : Clip := {
            num := m.nextClip, lead := lead, mask := mask, preFrames := (items.filter fun i => i.stream == 8 && i.lead == lead).length, pre := !items.isEmpty, slot := sl, keyId := slot.id
            firstFrame := first, chain := { c := Config.sha384 body } }
          let s := holdKey 0 0 key (some sl) (s.onStore fun x => { x with clip := some clip })
          let s := s.onSet fun m => { m with nextClip := m.nextClip + 1 }
          let s := raise 195 0 [] none (journal { kind := 3, clip := clip.num, time := s.reading } body none s)
          let q := s.newest
          let s := s.onSet fun m => { m with clips := m.clips ++ [(clip.num, 0, q.seq, 0, 0)] }
          let s := items.foldl (fun s i => offerParts clip.num i.stream i.ticket true true i.data (some (i.lead, i.frame)) none s) s
          settle (checkpointSuper (done d (le 4 clip.num ++ le 4 first) s))
      | _, _ => fail d Status.notPermitted s

/-- Audio that has not made up a record of 100 ms yet becomes the clip's last audio record (R327). -/
def flushAudio (s : State) : State :=
  match s.store.clip with
  | none => s
  | some c =>
    if c.audio.1.isEmpty then s
    else offerParts c.num 9 { time := c.audio.2.2 } false false c.audio.1 none none (s.onClip fun c => { c with audio := ([], 0, 0) })

/-- STORE.CLIP_CLOSE (R326, R330). -/
def doStoreClipClose (d : Nat) (s : State) : State :=
  drawerCmd d 0x0908 s fun c => checked d c 0 [] s fun s =>
    match s.store.clip with
    | none => fail d Status.notPermitted s
    | some k =>
      if k.drawer.isSome then fail d Status.busy s
      else if k.closing then settle ((s.onClip fun k => { k with drawer := some d }).begin d)
      else
        let last := if k.live then wrap 32 ((at! s.sensors k.lead).nextFrame + 2 ^ 32 - 1)
          else wrap 32 (k.firstFrame + (if k.pre then k.preFrames else 0) + 2 ^ 32 - 1)
        let s := (flushAudio s).onClip fun k => { k with closing := true, lastFrame := last, drawer := some d }
        settle (s.begin d)

/-- STORE.GET_CLIP (R326): the clip-table entry, then the MANIFEST's fields up to its chain value (log 51). -/
def doStoreGetClip (d : Nat) (s : State) : State :=
  drawerCmd d 0x0909 s fun c => checked d c 4 [] s fun s =>
    match (s.store.mounted.elim [] (·.clips)).find? (·.1 == c.w 0) with
    | none => invalid d 0 s
    | some (n, st, sq, ix, mf) =>
      let body := match s.store.recs.find? (fun r => r.kind == 5 && r.clip == n && r.st != .lost) with
        | some r => slice r.payload 0 24 ++ slice r.payload 0x40 48
        | none => padTo 72 []
      done d (le 4 n ++ le 4 st ++ le 8 sq ++ le 8 ix ++ le 8 mf ++ body) s

/-! ### Members' completions and timers (R312, R313, R319, R324) -/

/-- A completion for anything but a member's initialisation. -/
def mediaCompletion (m : Nat) (c : NvmeCmd) (ok : Bool) (s : State) : State :=
  match c.kind with
  | .write => settle (if c.sb || ok then s else loseSeqs c.seqs s)
  | .flush =>
    if c.sb then settle s
    else if ok then
      let flushed := fun (r : Rec) => if c.seqs.contains r.seq then { r with toFlush := r.toFlush.filter (· != m) } else r
      settle (s.onStore fun x => { x with recs := x.recs.map flushed })
    else settle (loseSeqs c.seqs s)
  | .read =>
    match c.owner, c.play with
    | some (k, cid), _ =>
      if !ok then
        readDone k cid false (s.onStore fun x => { x with members := x.members.map fun m => { m with cmds := m.cmds.filter fun n => n.owner != some (k, cid) } })
      else if (s.nvmeAny fun n => n.owner == some (k, cid)) = true then s
      else settle (readDone k cid true s)
    | none, some ctx =>
      if !ok then playDone ctx false (s.onStore fun x => { x with members := x.members.map fun m => { m with cmds := m.cmds.filter fun n => n.play != some ctx } })
      else if (s.nvmeAny fun n => n.play == some ctx) = true then s
      else playDone ctx true s
    | none, none => s
  | .deallocate => settle (formStep s)
  | .init => s

/-- NVME_COMMAND_TIMEOUT (R312): the command is aborted. -/
def doNvmeCommandTimeout (m id : Nat) (s : State) : State :=
  let due := fun (c : NvmeCmd) => c.id == id && c.aborted.isNone && decide (c.since + 5000000000 ≤ s.now)
  let abort := fun (c : NvmeCmd) => if due c then { c with aborted := some s.now } else c
  s.onStore fun x => { x with members := upd x.members m fun k => { k with cmds := k.cmds.map abort } }

/-- NVME_ABORT_TIMEOUT (R312): the controller is reset and its commands reissued, or the member fails. -/
def doNvmeAbortTimeout (m id : Nat) (resetOk : Bool) (s : State) : State :=
  let k := at! s.store.members m
  if (k.cmds.any fun c => c.id == id && (c.aborted.any fun t => decide (t + 1000000000 ≤ s.now))) = true then
    let recent := k.resets.filter fun t => decide (s.now < t + 60000000000)
    if 2 ≤ recent.length then failMember m s
    else
      let s := raise 202 0 [] none (s.onStore fun x => { x with members := upd x.members m fun k => { k with
        resets := recent ++ [s.now], cmds := k.cmds.map fun c => { c with since := s.now, aborted := none } } })
      if resetOk then s else failMember m s
  else s

/-- MEMBER_FLUSH_TIMER (R313). -/
def doMemberFlushTimer (m : Nat) (s : State) : State :=
  let k := at! s.store.members m
  if k.st == .ready && k.ident.writeCache && k.dirty && decide (k.lastFlush + ms 4 ≤ s.now) && !(k.cmds.any fun c => c.kind == .flush) then
    issueNvme m { kind := .flush, seqs := (s.store.recs.filter fun r => r.st == .accepted && !r.writing && r.toFlush.contains m).map (·.seq) } s
  else s

/-- CHECKPOINT_TIMER (R324). -/
def doCheckpointTimer (s : State) : State :=
  match s.set? with
  | some m => if m.dirtyCkpt && decide (m.lastCkpt + 1000000000 ≤ s.now) then settle (checkpoint s) else s
  | none => s

/-- SUPERBLOCK_TIMER (R319). -/
def doSuperblockTimer (s : State) : State :=
  match s.set? with
  | some m =>
    if m.dirtySuper && m.superStep.isNone && m.superDue.isNone && decide (m.lastSuper + 2000000000 ≤ s.now) then
      settle (s.onSet fun m => { m with superDue := some m.ckptOn.1 })
    else s
  | none => s

/-! ### Firmware images and activation (R305, R306, R458, R459, R515) -/

/-- FIRMWARE_COMMIT (R305, R306, R516, R517). -/
def doFirmwareCommit (q cid : Nat) (s : State) : State :=
  storeCmd q cid 0x86 s fun k c =>
    let action := c.entry.arg0 % 4
    let slot := c.entry.arg0 / 4
    let refuse := fun (st : Nat) (s : State) => complete k cid st 0 0 0xFF s
    let begun := s.setCmd k cid fun c => { c with begun := true }
    if s.sys.bootSel && action != 1 then refuse Status.notPermitted s
    else if action ≠ 2 ∧ (s.sys.image.any (·.slot == slot)) = true then refuse Status.notPermitted s
    else if action ≠ 0 ∧ s.store.clip.isSome = true then refuse Status.notPermitted s
    else
      let img := s.stagedImage
      let check := if action = 2 then 0 else s.imageCheck img
      if check ≠ 0 then refuse (if check = 1 then Status.integrity else Status.notPermitted) (raise 262 0 [] none s)
      else
        let store := fun (s : State) => if action = 2 then s else
          { s.onStore fun x => { x with staged := [] } with sys := { s.sys with flash := { s.sys.flash with slots := s.sys.flash.slots.set slot img } } }
        if action = 0 then complete k cid Status.ok (fieldLe s.imageBytes 8 2) 0 0xFF (store s)
        else
          let s := store begun
          if s.sys.stage = 0 then
            { s with sys := { s.sys with loading := some { bytes := s.sys.flash.slots.getD slot [], slot := slot }, bootCommit := some (cid, slot) } }
          else settle (s.onStore fun x => { x with activation := some {
            cid := cid, slot := slot, set := s.flushSet, old := (s.sys.image.map (·.slot)).getD 0 } })

/-- FIRMWARE_SERVES (R306, R461, R515): the new firmware serves within the hold time. -/
def doFirmwareServes (s : State) : State :=
  match s.store.activation with
  | some a => match a.handover with
    | some t =>
      if t + 2000000000 ≤ s.now then s
      else
        let b := s.sys.flash.slots.getD a.slot []
        let s := { s with sys := { s.sys with
          handover := false, image := some { bytes := b, slot := a.slot }, rollbackDue := true
          flash := if s.sys.bootSel then s.sys.flash else markSlot a.slot s.sys.flash } }
        let s := complete 4 a.cid Status.ok (fieldLe b 8 2) 0 0xFF (s.onStore fun x => { x with activation := none })
        raise 181 0 [0xFF, a.cid] none s
    | none => s
  | none => s

/-- Every held entry of an I/O queue is fetched and completes with RESET (R306). -/
def resetHeld (s : State) (k : Nat) : State :=
  match s.pair? k with
  | none => s
  | some p =>
    let s := p.unfetched.foldl (fun s i =>
      let e := parseEntry (s.hostRead (p.sqBase + 64 * i) 64)
      holdCompletion k { cid := e.cid, status := Status.reset, opcode := e.opcode } s) s
    s.setPair k fun p => { p with sqHead := p.sqTail, marked := [] }

/-- ACTIVATION_HOLD_EXPIRY (R306, R436, R520): back to the slot that ran before. -/
def doActivationHoldExpiry (s : State) : State :=
  match s.store.activation with
  | some a => match a.handover with
    | some t =>
      if s.now < t + 2000000000 then s
      else
        let s := (List.range 4).foldl resetHeld { s with sys := { s.sys with handover := false, safeCause := 5 } }
        let s := raise 310 0 [5] none s
        let s := (List.range s.drawers.length).foldl (fun s d =>
          let x := s.drawer d
          if x.st == .busy && !x.begun then fail d Status.reset s else s) s
        raise 182 0 [0xFF, a.cid] none (complete 4 a.cid Status.timeout 0 0 0xFF (s.onStore fun x => { x with activation := none }))
    | none => s
  | none => s

/-! ### The commands -/

def execRecordAccept (s : State) : Out := whenLive s doRecordAccept
def execRecordOnMedium (s : State) : Out := whenLive s doRecordOnMedium
def execStoreFormSet (d : Nat) (s : State) : Out := whenLive s (doStoreFormSet d)
def execStoreMount (d : Nat) (s : State) : Out := whenLive s (doStoreMount d)
def execStoreUnmount (d : Nat) (s : State) : Out := whenLive s (doStoreUnmount d)
def execStoreClipStart (d : Nat) (s : State) : Out := whenLive s (doStoreClipStart d)
def execStoreClipClose (d : Nat) (s : State) : Out := whenLive s (doStoreClipClose d)
def execStoreGetClip (d : Nat) (s : State) : Out := whenLive s (doStoreGetClip d)
def execStorePlay (d : Nat) (s : State) : Out := whenLive s (doStorePlay d)
def execNvmeCommandTimeout (m cmd : Nat) (s : State) : Out := whenLive s (doNvmeCommandTimeout m cmd)
def execNvmeAbortTimeout (m cmd : Nat) (resetOk : Bool) (s : State) : Out := whenLive s (doNvmeAbortTimeout m cmd resetOk)
def execMemberFlushTimer (m : Nat) (s : State) : Out := whenLive s (doMemberFlushTimer m)
def execCheckpointTimer (s : State) : Out := whenLive s doCheckpointTimer
def execSuperblockTimer (s : State) : Out := whenLive s doSuperblockTimer
def execFirmwareCommit (q cid : Nat) (s : State) : Out := whenLive s (doFirmwareCommit q cid)
def execFirmwareServes (s : State) : Out := whenLive s doFirmwareServes
def execActivationHoldExpiry (s : State) : Out := whenLive s doActivationHoldExpiry

end Sys2Proof.Machine
end

