-- ==== Sys2Proof/Machine/Audio.lean ====
section
/-! DEFINITION. Audio: the PDM inputs, the TDM port, zero-crossing changes, external clock faults, slot masks and blocks
(14_time_and_audio.md R419 to R427). -/

namespace Sys2Proof.Machine

open Sys2Proof

/-- The state with an audio direction changed. -/
def State.setAudio (s : State) (dir : Nat) (f : AudioDir → AudioDir) : State := { s with audio := upd s.audio dir f }

/-- Audio direction 0 PDM inputs, 1 TDM receive, 2 TDM transmit. -/
def State.audioDir (s : State) (dir : Nat) : AudioDir := at! s.audio dir

/-- fs in samples per second (R419, Table 14-5). -/
def AudioDir.fs (a : AudioDir) : Nat := 48000 * 2 ^ a.rate

/-- Enabled channels or slots, one bit each: started, and for TDM a slot of the frame that the mask names (R420, R422, R424). -/
def AudioDir.enabled (a : AudioDir) (dir : Nat) : List Nat :=
  (List.range 16).filter fun i => (at! a.chans i).on && (dir == 0 || (decide (i < a.slots) && bit a.mask i))

/-- The direction follows an external clock (R421). -/
def State.follows (s : State) (dir : Nat) : Bool := dir != 0 && (s.audioDir dir).clocking != 0

/-! ### Settings (R419 to R421) -/

/-- A direction is started: a channel runs or is about to. -/
def AudioDir.started (a : AudioDir) : Bool := a.chans.any fun c => c.on || c.waiting == some .start

/-- AUDIO.SET_PORT (R419 to R421, R427): source 0 the PDM inputs, 1 the TDM port; fs as RATE of Table 14-5 (log 55). -/
def doAudioSetPort (d : Nat) (s : State) : State :=
  drawerCmd d 0x0B01 s fun c =>
    let src := c.w 0
    let rate := c.w 4
    let fs := 48000 * 2 ^ rate
    let clk := c.w 8
    let txs := (List.range 16).map fun i => c.w (28 + 4 * i)
    let txOk := fun (v : Nat) => v == 0 || (decide (0x100 ≤ v) && decide (v < 0x110)) || (decide (0x200 ≤ v) && decide (v < 0x210))
    let pdmOk := within clk 2400000 6144000 && clk % fs == 0 && within (clk / fs) 32 128
    let bad : List (Bool × Nat) := [(decide (1 < src), 0), (decide (2 < rate), 4), (src == 0 && !pdmOk, 8), (decide (2 < c.w 12), 12),
      (src == 1 && !(within (c.w 16) 1 (16 / 2 ^ rate)), 16), (decide (1 < c.w 20), 20), (decide (1 < c.w 24), 24)] ++
      txs.zipIdx.map fun (v, i) => (src == 1 && !txOk v, 28 + 4 * i)
    checked d c 92 bad s fun s =>
      let busy := if src = 0 then (s.audioDir 0).started else (s.audioDir 1).started || (s.audioDir 2).started
      if busy then fail d Status.busy s
      else if src = 0 then done d [] (s.setAudio 0 fun a => { a with rate := rate, pdmClk := clk })
      else
        let f := fun (a : AudioDir) => { a with
          rate := rate, clocking := c.w 12, slots := c.w 16, delay := c.w 20, edge := c.w 24, period := 0, intervals := [], odd := []
          lastSync := none, stopped := false, txMute := false }
        done d [] ((s.setAudio 1 f).setAudio 2 fun a => { f a with txSources := txs })

/-! ### Channel changes (R422) -/

/-- A change that takes effect. -/
def AudioChan.apply (c : AudioChan) (x : AudioChange) : AudioChan :=
  match x with
  | .start => { c with on := true, waiting := none }
  | .stop => { c with on := false, waiting := none }
  | .mute m => { c with muted := m, waiting := none }
  | .gain g => { c with gain := g, waiting := none }

/-- A change named for the channels of a mask; it replaces one that waits (R422). -/
def audioChange (dir mask : Nat) (x : AudioChange) (s : State) : State :=
  s.setAudio dir fun a => { a with
    chans := a.chans.zipIdx.map fun (c, i) => if bit mask i then { c with waiting := some x, since := s.now } else c }

/-- The two fields that name channels: direction and mask. -/
def channelFields (c : DrawerCmd) : List (Bool × Nat) := [(decide (2 < c.w 0), 0), (decide (2 ^ 16 ≤ c.w 4), 4)]

/-- AUDIO.START (R422, R426): the block count starts from 0 when nothing of the direction runs (R425). -/
def doAudioStart (d : Nat) (s : State) : State :=
  drawerCmd d 0x0B02 s fun c => checked d c 8 (channelFields c) s fun s =>
    if 2 ≤ s.sys.pstate then fail d Status.notPermitted s
    else
      let s1 := if (s.audioDir (c.w 0)).started then s else s.setAudio (c.w 0) fun a => { a with seq := 0, block := {} }
      audioChange (c.w 0) (c.w 4) .start (done d [] s1)

/-- AUDIO.STOP (R422). -/
def doAudioStop (d : Nat) (s : State) : State :=
  drawerCmd d 0x0B03 s fun c => checked d c 8 (channelFields c) s fun s => audioChange (c.w 0) (c.w 4) .stop (done d [] s)

/-- AUDIO.MUTE (R422): value 1 mutes, 0 unmutes. -/
def doAudioMute (d : Nat) (s : State) : State :=
  drawerCmd d 0x0B04 s fun c => checked d c 12 (channelFields c ++ [(decide (1 < c.w 8), 8)]) s fun s =>
    audioChange (c.w 0) (c.w 4) (.mute (c.w 8 == 1)) (done d [] s)

/-- AUDIO.SET_GAIN (R422): −60 to +24 dB as signed half decibels. -/
def doAudioSetGain (d : Nat) (s : State) : State :=
  drawerCmd d 0x0B05 s fun c =>
    let g := toInt 32 (c.w 8)
    checked d c 12 (channelFields c ++ [(decide (g < -120) || decide (48 < g), 8)]) s fun s =>
      audioChange (c.w 0) (c.w 4) (.gain g) (done d [] s)

/-! ### Blocks (R425, R426) -/

/-- A sample word: the 24-bit sample in [31:8] (R425). -/
def audioWord (x : Int) : Bytes := le 4 (256 * ofInt 24 x)

/-- The bytes of a block: header of Table 14-5, then its samples by frame. -/
def AudioDir.blockBytes (a : AudioDir) (dir : Nat) (chans : List Nat) (unsync : Bool) : Bytes :=
  let b := a.block
  le 4 0x4B4C4241 ++ le 4 (dir % 2 + 2 * a.rate + 8 * b2n b.gap + 16 * b2n b.discont + 32 * b2n unsync + 64 * b2n b.muted) ++
  le 2 (sumNat (chans.map (2 ^ ·))) ++ le 2 b.frames.length ++ le 4 a.seq ++ le 8 b.time ++ le 8 b.gapTicks ++
  le 2 b.repeats ++ le 2 b.clipped ++ le 28 0 ++ b.frames.flatMap fun f => f.flatMap audioWord

/-- A block for stream 9 of the recording clip: one record for each 100 ms of blocks (R327, R426). -/
def audioToClip (time : Nat) (bs : Bytes) (s : State) : State :=
  match s.store.clip with
  | none => s
  | some c =>
    if c.live = false ∨ c.closing = true ∨ bit c.mask 9 = false then s
    else
      let s1 := if !c.audio.1.isEmpty && (decide (c.audio.2.2 + ms 100 ≤ time) || decide (time < c.audio.2.2)) then flushAudio s else s
      s1.onClip fun c => { c with
        audio := (c.audio.1 ++ bs, c.audio.2.1 + 1, if c.audio.1.isEmpty then time else c.audio.2.2) }

/-- The receive block of a direction closes and is delivered, with the channels it holds; an empty block is not (R425, R426). -/
def closeBlock (dir : Nat) (chans : List Nat) (s : State) : State :=
  let a := s.audioDir dir
  if a.block.frames.isEmpty then s
  else
    let bs := a.blockBytes dir chans a.block.unsync
    let s := s.setAudio dir fun a => { a with seq := wrap 32 (a.seq + 1), block := {} }
    let s := match a.ring with
      | none => s
      | some r => match s.ringPut r bs with
        | some (r, s) => s.setAudio dir fun a => { a with ring := some r }
        | none => raise 249 dir [] none s
    audioToClip a.block.time bs s

/-- The bytes of a ring's slot: a whole block of 16 channels at 192 kHz is 12,352 bytes (log 55). -/
def audioSlot : Nat := 16384

/-- AUDIO.SET_RING (R426). -/
def doAudioSetRing (d : Nat) (s : State) : State :=
  drawerCmd d 0x0B07 s fun c =>
    let n := c.w 24
    checked d c 28 [(decide (1 < c.w 0), 0), (decide (c.q 16 < 4096 + audioSlot * n), 16), (!(isPow2 n && within n 2 64), 24)] s fun s =>
      if !s.covered (c.q 8) (c.q 16) true then fail d Status.notPermitted s
      else done d [] (s.setAudio (c.w 0) fun a => { a with nextRing := some { addr := c.q 8, len := c.q 16, entries := n, slot := audioSlot } })

/-! ### Frames (R420 to R425) -/

/-- AUDIO.SET_SLOTS: stages both masks; the result names the frames at which they apply, receive then transmit (R424, log 55). -/
def doAudioSetSlots (d : Nat) (s : State) : State :=
  drawerCmd d 0x0B06 s fun c => checked d c 8 [(decide (2 ^ 16 ≤ c.w 0), 0), (decide (2 ^ 16 ≤ c.w 4), 4)] s fun s =>
    let s1 := (s.setAudio 1 fun a => { a with staged := some (c.w 0) }).setAudio 2 fun a => { a with staged := some (c.w 4) }
    done d (le 4 (s.audioDir 1).frameCount ++ le 4 (s.audioDir 2).frameCount) s1

/-- Staged masks apply at a frame sync (R424). -/
def applySlots (dir : Nat) (s : State) : State :=
  let a := s.audioDir dir
  match a.staged with
  | none => s
  | some m =>
    let s := if dir = 1 then closeBlock dir (a.enabled dir) s else s
    raise 248 dir [] none (s.setAudio dir fun a => { a with mask := m, staged := none, discontNext := a.discontNext || dir == 1 })

/-- The verdict on an interval between frame syncs of a followed direction: the direction, and whether the frame is a glitch (R423). -/
def AudioDir.interval (a : AudioDir) (x : Nat) : AudioDir × Bool × Bool :=
  let mean := fun (l : List Nat) => sumNat l / l.length
  if a.period = 0 ∨ (a.period - a.period / 8 ≤ x ∧ x ≤ a.period + a.period / 8) then
    let l := (x :: a.intervals).take 64
    ({ a with intervals := l, odd := [], period := mean l, txMute := false }, false, false)
  else
    let l := (x :: a.odd).take 64
    let near := (l.foldl max 0) * 1000 ≤ (l.foldl min x) * 1001
    if l.length = 64 ∧ near then
      ({ a with intervals := l, odd := [], period := mean l, rateChanges := a.rateChanges + 1, glitches := a.glitches + 1, discontNext := true }, true, true)
    else ({ a with odd := l, glitches := a.glitches + 1 }, true, false)

/-- What a frame sync shows of a followed direction's clock: after a stop the first frame sync measures nothing (R423). The state,
and whether the frame's samples are discarded. -/
def clockCheck (dir : Nat) (s : State) : State × Bool :=
  let a := s.audioDir dir
  let seen := fun (a : AudioDir) => { a with lastSync := some s.reading, stopped := false }
  match a.lastSync with
  | none => (s.setAudio dir seen, false)
  | some t =>
    if a.stopped then (s.setAudio dir seen, false)
    else
      let (a, glitch, change) := a.interval (s.reading - t)
      let s := s.setAudio dir fun _ => seen a
      let s := if glitch then raiseLimited (ms 1000) 245 dir (fun k => [k]) s else s
      (if change then raise 246 dir [a.period] none s else s, glitch)

/-- Samples with the changes that their zero crossing lets in (R422). -/
def zeroCross (samples : List Int) (a : AudioDir) : AudioDir :=
  { a with chans := a.chans.zipIdx.map fun (c, i) =>
    let x := samples.getD i 0
    let crosses := x == 0 || decide (x < 0) != decide (c.prev < 0)
    match c.waiting with
    | some w => if crosses then { (c.apply w) with prev := x } else { c with prev := x }
    | none => { c with prev := x } }

/-- A channel's sample as it leaves: 0 while muted, else with the channel's gain (R422). -/
def AudioChan.out (c : AudioChan) : Int := if c.muted then 0 else if c.gain = 0 then c.prev else Config.audioGain c.gain c.prev

/-- The samples of a direction's next frame: those received, on a glitch the previous ones (R423), or the sources of the transmit
slots (R420). -/
def State.frameSamples (s : State) (dir : Nat) (samples : List Int) (glitch : Bool) : List Int :=
  let a := s.audioDir dir
  if glitch && dir != 2 then a.chans.map (·.prev)
  else if dir = 2 then (List.range 16).map fun i =>
    let v := a.txSources.getD i 0
    if v / 256 = 1 then (at! (s.audioDir 0).chans (v % 256)).prev
    else if v / 256 = 2 then (at! (s.audioDir 1).chans (v % 256)).prev
    else 0
  else (List.range 16).map fun i => toInt 24 (ofInt 24 (samples.getD i 0))

/-- A received frame joins the block of its source; the block closes when it has fs / 1,000 frames (R425). A ring registered
since takes the block that begins (R427). -/
def addFrame (dir : Nat) (glitch : Bool) (raw : List Int) (s : State) : State :=
  let a := s.audioDir dir
  let chans := a.enabled dir
  if chans.isEmpty then s
  else
    let time := s.reading - (if dir = 0 then 24 * 1000000000 / a.fs else 0)
    let first := a.block.frames.isEmpty
    let full := (chans.filter fun i => dir == 0 && (raw.getD i 0 == 8388607 || raw.getD i 0 == -8388608)).length
    let b := a.block
    let b := if first then { b with
        time := time, unsync := !s.time.synced, discont := a.discontNext, gap := a.gapNext
        gapTicks := if a.gapNext then (time - a.lastFrame) else 0 } else b
    let b := { b with
      frames := b.frames ++ [chans.map fun i => (at! a.chans i).out]
      muted := b.muted || chans.any (fun i => (at! a.chans i).muted), repeats := b.repeats + b2n glitch, clipped := b.clipped + full }
    let s := s.setAudio dir fun a => { a with
      block := b, ring := if first then a.nextRing <|> a.ring else a.ring, nextRing := if first then none else a.nextRing
      lastFrame := time, discontNext := a.discontNext && !first, gapNext := a.gapNext && !first }
    if b.frames.length = a.fs / 1000 then closeBlock dir chans s else s

/-- AUDIO_FRAME (R419 to R425): one frame of a direction. -/
def doAudioFrame (dir : Nat) (samples : List Int) (s : State) : State :=
  if 2 < dir ∨ 2 ≤ s.sys.pstate then s
  else
    let s := applySlots dir s
    let before := (s.audioDir dir).enabled dir
    let (s, glitch) := if s.follows dir then clockCheck dir s else (s, false)
    let raw := s.frameSamples dir samples glitch
    let next := zeroCross raw (s.audioDir dir)
    let s := if dir < 2 ∧ next.enabled dir ≠ before then closeBlock dir before s else s
    let s := s.setAudio dir fun a => { a with chans := next.chans, frameCount := wrap 32 (a.frameCount + 1) }
    if dir = 2 then
      s.setAudio 2 fun a => { a with txOut := (List.range 16).map fun i =>
        if a.txMute || !(a.enabled 2).contains i then 0 else (at! a.chans i).out }
    else addFrame dir glitch raw s

/-- AUDIO_CLOCK_STOP (R423): no frame sync for 4P on a followed direction. -/
def doAudioClockStop (dir : Nat) (s : State) : State :=
  let a := s.audioDir dir
  if 2 < dir ∨ s.follows dir = false ∨ a.stopped = true ∨ a.period = 0 ∨ (a.lastSync.any fun t => decide (t + 4 * a.period ≤ s.reading)) = false then s
  else
    let s := if dir = 1 then closeBlock 1 (a.enabled 1) s else s
    raise 244 dir [] none (s.setAudio dir fun a => { a with
      stopped := true, txMute := a.txMute || dir == 2, gapNext := a.gapNext || dir == 1, stops := a.stops + 1, odd := [] })

/-- ZC_TIMEOUT (R422): changes that found no zero crossing within 10 ms apply. -/
def doZcTimeout (dir : Nat) (s : State) : State :=
  let a := s.audioDir dir
  let due := (List.range 16).filter fun i =>
    let c := at! a.chans i
    c.waiting.isSome && decide (c.since + ms 10 ≤ s.now)
  if 2 < dir ∨ due.isEmpty = true then s
  else
    let next : AudioDir := { a with chans := a.chans.zipIdx.map fun ((c, i) : AudioChan × Nat) => match c.waiting with
      | some w => if due.contains i then c.apply w else c
      | none => c }
    let s := if dir < 2 ∧ next.enabled dir ≠ a.enabled dir then closeBlock dir (a.enabled dir) s else s
    raise 247 dir [sumNat (due.map (2 ^ ·))] none (s.setAudio dir fun a => { a with chans := next.chans })

/-- Audio stops: every channel is off at once, and a block being formed is delivered (R426). -/
def stopAudio (s : State) : State :=
  [0, 1, 2].foldl (fun s dir =>
    let s := if dir < 2 then closeBlock dir ((s.audioDir dir).enabled dir) s else s
    s.setAudio dir fun a => { a with chans := a.chans.map fun c => { c with on := false, waiting := none }, txOut := [] }) s

/-- AUDIO.GET_STATUS: P, clock state (1 stopped), stops, glitches, rate changes, mask in force and mask staged (R427, log 55). -/
def doAudioGetStatus (d : Nat) (s : State) : State :=
  drawerCmd d 0x0B08 s fun c => checked d c 4 [(decide (2 < c.w 0), 0)] s fun s =>
    let a := s.audioDir (c.w 0)
    done d (le 4 a.period ++ le 4 (b2n a.stopped) ++ le 4 a.stops ++ le 4 a.glitches ++ le 4 a.rateChanges ++ le 4 a.mask ++
      le 4 (a.staged.getD a.mask)) s

/-! ### The meanings -/

def execAudioSetPort (d : Nat) (s : State) : Out := whenLive s (doAudioSetPort d)
def execAudioStart (d : Nat) (s : State) : Out := whenLive s (doAudioStart d)
def execAudioStop (d : Nat) (s : State) : Out := whenLive s (doAudioStop d)
def execAudioMute (d : Nat) (s : State) : Out := whenLive s (doAudioMute d)
def execAudioSetGain (d : Nat) (s : State) : Out := whenLive s (doAudioSetGain d)
def execAudioSetSlots (d : Nat) (s : State) : Out := whenLive s (doAudioSetSlots d)
def execAudioSetRing (d : Nat) (s : State) : Out := whenLive s (doAudioSetRing d)
def execAudioGetStatus (d : Nat) (s : State) : Out := whenLive s (doAudioGetStatus d)
def execAudioFrame (dir : Nat) (samples : List Int) (s : State) : Out := whenLive s (doAudioFrame dir samples)
def execAudioClockStop (dir : Nat) (s : State) : Out := whenLive s (doAudioClockStop dir)
def execZcTimeout (dir : Nat) (s : State) : Out := whenLive s (doZcTimeout dir)

end Sys2Proof.Machine
end

