-- ==== Sys2Proof/Machine/Mailbox.lean ====
section
/-! DEFINITION. BAR0 writes, Drawers, events, buffers, network and remote Drawers (15_mailbox_and_events.md, R429 to R456,
R547), with authentication under R469 and R470. -/

namespace Sys2Proof.Machine

open Sys2Proof

/-! ### Acceptance of a Drawer command (R433, R547) -/

/-- Roles of R439. -/
inductive Role where
  | h
  | o
  | p
  | m
  deriving DecidableEq, Repr

/-- The catalogue: the role of a defined opcode (R439, R450, Tables 15-10 to 15-12). -/
def opcodeRole (op : Nat) : Option Role :=
  let g := op / 256
  let v := op % 256
  let last := match g with
    | 0x01 => 7 | 0x02 => 5 | 0x03 => 10 | 0x04 => 9 | 0x05 => 3 | 0x06 => 8 | 0x07 => 4 | 0x08 => 7 | 0x09 => 10
    | 0x0A => 7 | 0x0B => 8 | 0x0C => 9 | 0x0D => 5 | 0x0E => 12 | _ => 0
  if v = 0 ∨ last < v then none
  else if op = 0x0106 ∨ op = 0x0308 ∨ op = 0x0C09 ∨ op = 0x0D01 ∨ op = 0x0D02 then some .m
  else if op = 0x0904 ∨ op = 0x0C06 ∨ op = 0x0C08 then some .p
  else if op = 0x0907 ∨ op = 0x0908 ∨ op = 0x090A ∨ op = 0x0C03 ∨ op = 0x0C07 then some .o
  else some .h

/-- A session's role satisfies a command's (R439, R470). -/
def Role.allows (r : Role) (session : Option Nat) : Bool :=
  match r, session with
  | .h, _ => true
  | .o, some _ => true
  | .p, some k => k == 2
  | .m, some k => k == 3
  | _, none => false

/-- Drawer commands that Table 18-3 serves before firmware serves. -/
def earlyOpcode (op : Nat) : Bool := [0x0101, 0x0104, 0x0105, 0x0107, 0x0901, 0x0902].contains op

/-- Drawer commands that R527 serves in P3. -/
def p3Opcode (op : Nat) : Bool := op == 0x0101 || op == 0x0107

/-- Check 4 of R547: the stage and power state serve the command (R431, R517, R527). -/
def State.serves (s : State) (op : Nat) : Bool :=
  if s.sys.pstate = 3 then p3Opcode op else s.sys.stage == 2 || earlyOpcode op

/-- Check 1 of R547: the first bad byte of the command header. -/
def headerBad (area : Bytes) : Option Nat :=
  let enc := bit (fieldLe area 4 1) 0
  let len := fieldLe area 6 2
  let l := [(decide (4 ≤ fieldLe area 4 1), 4), (fieldLe area 5 1 != 0, 5), (decide ((if enc then 96 else 112) < len), 6),
    (!enc && fieldLe area 8 4 != 0, 8), (fieldLe area 12 4 != 0, 12)]
  (l.find? (·.1)).map (·.2)

/-- The command that a command area carries, its payload in clear when `clear` gives one. -/
def areaCmd (area : Bytes) (payload : Bytes) : DrawerCmd :=
  { opcode := fieldLe area 0 2, seq := fieldLe area 2 2, enc := bit (fieldLe area 4 1) 0, notify := bit (fieldLe area 4 1) 1
    length := fieldLe area 6 2, session := fieldLe area 8 4, payload := payload }

/-- The plaintext of an encrypted area under an established session, if its tag verifies (R438, R469). -/
def State.authenticate (s : State) (num : Nat) (area : Bytes) : Option (Session × Bytes) :=
  match s.sec.sessions.find? fun k => k.id == fieldLe area 8 4 && !k.half with
  | none => none
  | some k =>
    (Config.gcmOpen k.kCmd (gcmNonce k.id num 0 (fieldLe area 2 2)) (slice area 0 16) (slice area 16 (fieldLe area 6 2)) (slice area 0x70 16)).map
      fun pt => (k, pt)

/-- EVT.SEC.AUTH_FAIL, at most once per second, with the count and the last SESSION (R484). -/
def authFail (session : Nat) (s : State) : State := raiseLimited 1000000000 259 0 (fun n => [n, session]) s

/-- The SEQ of an encrypted command is new in its Drawer (R469). -/
def Session.seqFresh (k : Session) (num seq : Nat) : Bool :=
  match k.lastSeq.getD num none with
  | none => true
  | some x => decide (x < seq)

/-- Checks 3 to 5 of R547 on an accepted command. -/
def checkCatalogue (d : Nat) (session : Option Nat) (s : State) : State :=
  let op := (s.drawer d).cmd.opcode
  match opcodeRole op with
  | none => postResult d Status.invalidField 0 [] s
  | some r =>
    if !s.serves op then fail d Status.notPermitted s
    else if !r.allows session then fail d Status.notPermitted s
    else s

/-- Acceptance: the copy of the command area becomes the command, and checks 1 to 5 of R547 run (R433). `d` is the table
entry and `num` the Drawer's number. -/
def acceptDrawer (d num : Nat) (area : Bytes) (s : State) : State :=
  let clear := areaCmd area (slice area 16 (min 112 (fieldLe area 6 2)))
  let hold := fun (c : DrawerCmd) (s : State) => s.setDrawer d fun x => { x with st := .busy, cmd := c, begun := false, num := num, res := {} }
  match headerBad area with
  | some o => postResult d Status.invalidField o [] (hold { clear with enc := false } s)
  | none =>
    if clear.enc then
      let refuse := fail d Status.integrity (authFail clear.session (hold { clear with enc := false } s))
      match s.authenticate num area with
      | none => refuse
      | some (k, pt) =>
        if k.seqFresh num clear.seq then
          let k' := { k with lastSeq := k.lastSeq.set num (some clear.seq) }
          let s1 := { s with sec := { s.sec with sessions := s.sec.sessions.map fun x => if x.id == k.id then k' else x } }
          checkCatalogue d (some k.role) (hold { clear with payload := pt } s1)
        else refuse
    else checkCatalogue d none (hold clear s)

/-- A doorbell on a Drawer that is not Free (R433). -/
def rejectDoorbell (num : Nat) (s : State) : State :=
  raise 305 num [] none { s with rejects := sat 32 (s.rejects + 1) }

/-- One Drawer is rung (R433). -/
def ringDrawer (s : State) (d : Nat) : State :=
  if (s.drawer d).st = .free then acceptDrawer d d (s.drawer d).area s else rejectDoorbell d s

/-- DOORBELL (R433): ascending Drawer number. -/
def doDoorbell (mask : Nat) (s : State) : State := (maskBits 16 mask).foldl ringDrawer s

/-- Done goes to Free, and the result area reads 0 (R433, R434). -/
def Drawer.release (dr : Drawer) : Drawer := if dr.st = .done then { dr with st := .free, cmd := {}, res := {} } else dr

/-- DRAWER_RELEASE (R433). -/
def doDrawerRelease (mask : Nat) (s : State) : State :=
  (maskBits 16 mask).foldl (fun s d => s.setDrawer d Drawer.release) s

/-! ### Event control (R451 to R455) -/

/-- Signal every vector whose entries now reach the coalescing settings (R451, R455). -/
def EvState.recheck (ev : EvState) (now : Nat) : EvState :=
  let due := fun (g : CoalGroup) => ev.coalCount == 0 || ev.coalTime == 0 || decide (ev.coalCount ≤ g.count) || decide (g.first + us ev.coalTime ≤ now)
  (ev.groups.filter due).foldl (fun e g => e.signal g.vec) { ev with groups := ev.groups.filter fun g => !due g }

/-- Post the kept events to the ring that has just been enabled (R454). -/
def postKept (s : State) (r : EventRec) : State :=
  let p := s.ev.post s.hostMem s.now s.reading r
  { s with ev := p.1, hostMem := p.2 }

/-- EQ_ENABLE (R451, R454). -/
def doEqEnable (v : Nat) (s : State) : State :=
  let ev := s.ev
  if s.sys.stage = 0 then s
  else if v % 2 = 0 then { s with ev := { ev with enable := false } }
  else if ev.enable then s
  else if ev.base % 4096 ≠ 0 ∨ ev.entries < 64 ∨ 65536 < ev.entries ∨ isPow2 ev.entries = false ∨
      s.covered ev.base (ev.entries * 32) true = false then s
  else
    let kept := ev.kept
    kept.foldl postKept { s with ev := { ev with
      enable := true, idx := 0, phase := true, used := 0, head := 0, overflow := false, refused := 0, kept := [] } }

/-- EQ_HEAD (R453, R454). -/
def doEqHead (v : Nat) (s : State) : State :=
  let ev := s.ev
  if ev.enable = false ∨ ev.entries ≤ v then s
  else
    let n := (v + ev.entries - ev.head) % ev.entries
    if ev.used < n then s
    else
      let ev1 := { ev with head := v, used := ev.used - n }
      if ev1.overflow && decide (ev1.used + 2 ≤ ev1.entries) then
        let p := ({ ev1 with overflow := false, refused := 0 }).writeOverflow s.hostMem s.now s.reading ev1.refused
        { s with ev := p.1, hostMem := p.2 }
      else { s with ev := ev1 }

/-- COALESCE_TIMER for event entries (R455). -/
def eventCoalesceTimer (vec : Nat) (s : State) : State :=
  match s.ev.groups.find? (·.vec == vec) with
  | none => s
  | some g =>
    if g.first + us s.ev.coalTime ≤ s.now then
      { s with ev := ({ s.ev with groups := s.ev.groups.filter (·.vec != vec) }).signal vec }
    else s

/-! ### Register writes (R429, R430) -/

/-- One 32-bit write to the event control registers (Table 15-4). -/
def writeEvReg (a v : Nat) (s : State) : State :=
  let ev := s.ev
  if s.sys.stage = 0 then s
  else if a = 0x200 then if ev.enable then s else { s with ev := { ev with base := ev.base / 2 ^ 32 * 2 ^ 32 + v } }
  else if a = 0x204 then if ev.enable then s else { s with ev := { ev with base := ev.base % 2 ^ 32 + v * 2 ^ 32 } }
  else if a = 0x208 then if ev.enable then s else { s with ev := { ev with entries := v } }
  else if a = 0x218 then
    { s with ev := ({ ev with coalCount := v % 256, coalTime := min 1000 (bits v 16 10) }).recheck s.now }
  else if 0x220 ≤ a ∧ a < 0x248 then { s with ev := { ev with masks := ev.masks.set ((a - 0x220) / 4) (BitVec.ofNat 32 v) } }
  else if 0x250 ≤ a ∧ a < 0x260 then
    { s with ev := { ev with vectors := (List.range 4).foldl (fun l j => l.set (a - 0x250 + j) (bits v (8 * j) 6)) ev.vectors } }
  else s

/-- One 32-bit write to the MSI-X table; unmasking a vector that is pending sends its message (R430, R455). -/
def writeMsix (a v : Nat) (s : State) : State :=
  let i := (a - 0x2000) / 16
  let e := at! s.ev.msix i
  let w := (a - 0x2000) % 16 / 4
  let e' := match w with
    | 0 => { e with addr := e.addr / 2 ^ 32 * 2 ^ 32 + v / 4 * 4 }
    | 1 => { e with addr := e.addr % 2 ^ 32 + v * 2 ^ 32 }
    | 2 => { e with data := v }
    | _ => { e with masked := bit v 0 }
  let ev := { s.ev with msix := s.ev.msix.set i e' }
  if e.masked && !e'.masked && bit ev.pba i then
    { s with ev := ({ ev with pba := setBit ev.pba i false }).signal i }
  else { s with ev := ev }

/-! ### Registered buffers (R441) -/

/-- SYSTEM.REGISTER_BUFFER (R441). -/
def doSystemRegisterBuffer (d : Nat) (s : State) : State :=
  drawerCmd d 0x0104 s fun c =>
    let id := c.w 0
    let (a, n) := c.buf 8
    let bad := [(decide (63 < id), 0), (decide (a % 4096 ≠ 0), 8), (decide (n % 4096 ≠ 0 ∨ n < 4096 ∨ 2 ^ 40 < n), 16), (decide (1 < c.w 24), 24)]
    checked d c 28 bad s fun s =>
      if s.bufs.any (·.id == id) then invalid d 0 s
      else if 2 ^ 64 < a + n ∨ s.bufs.any (fun b => decide (a < b.addr + b.len) && decide (b.addr < a + n)) = true then invalid d 8 s
      else done d [] { s with bufs := s.bufs ++ [{ id := id, addr := a, len := n, write := c.w 24 == 1 }] }

/-! ### Network and remote Drawers (R446 to R449) -/

/-- SYSTEM.SET_NETWORK (R446): the settings take effect and the link restarts. -/
def doSystemSetNetwork (d : Nat) (s : State) : State :=
  drawerCmd d 0x0106 s fun c =>
    let bad := [(decide (c.w 4 < 8 ∨ 30 < c.w 4), 4), (decide (4094 < c.w 12), 12), (decide (7 < c.w 16), 16), (decide (1 < c.w 20), 20),
      (decide (1 < c.w 24 ∨ (c.w 24 = 1 ∧ c.w 20 ≠ 1)), 24), (decide (1 < c.w 28), 28)]
    checked d c 32 bad s fun s =>
      let n := { s.net with
        address := c.w 0, maskLen := c.w 4, gateway := c.w 8, vlan := c.w 12, pcp := c.w 16, speed := c.w 20, fec := c.w 24
        remote := c.w 28 == 1, configured := true, up := false }
      raise 314 0 [0] none (done d [] { s with net := n })

/-- NET_LINK (R446, R519): the port stays down until SYSTEM.SET_NETWORK. -/
def doNetLink (up : Bool) (s : State) : State :=
  if s.net.configured && s.net.up != up then raise 314 0 [b2n up] none { s with net := { s.net with up := up } } else s

/-- ARP_REQUEST (R446). -/
def doArpRequest (target : Nat) (s : State) : State :=
  if s.net.up && target == s.net.address then { s with net := { s.net with arpAnswers := s.net.arpAnswers + 1 } } else s

/-- ICMP_ECHO (R446): the request's data goes back to its source. -/
def doIcmpEcho (g : Datagram) (s : State) : State :=
  if s.net.up then { s with net := { s.net with echoAnswers := s.net.echoAnswers + 1, reply := some g } } else s

/-- A datagram is dropped without reply (R448). -/
def dropDatagram (s : State) : State :=
  raiseLimited 1000000000 306 0 (fun n => [n]) { s with net := { s.net with drops := s.net.drops + 1 } }

/-- A reply goes to the source of the datagram (R447). -/
def sendReply (num : Nat) (g : Datagram) (area : DrawerRes) (s : State) : State :=
  { s with net := { s.net with reply := some (replyDatagram num g.srcAddr g.srcPort area.bytes) } }

/-- A command, release or poll that has passed R448 (R449). -/
def serveDatagram (num d type : Nat) (g : Datagram) (area : Bytes) (s : State) : State :=
  let s := s.setDrawer d fun x => { x with srcAddr := g.srcAddr, srcPort := g.srcPort }
  let seq := fieldLe area 2 2
  let dr := s.drawer d
  match type with
  | 0 =>
    if dr.st = .free then acceptDrawer d num area (sendReply num g { status := Status.pending, seq := seq } s)
    else if dr.cmd.seq = seq then sendReply num g dr.resultArea s
    else sendReply num g { status := Status.busy, seq := seq } (rejectDoorbell num s)
  | 1 => sendReply num g {} (s.setDrawer d Drawer.release)
  | _ => sendReply num g dr.resultArea s

/-- REMOTE_DATAGRAM (R447 to R449). -/
def doRemoteDatagram (g : Datagram) (s : State) : State :=
  if !s.net.up || !s.net.remote then s
  else
    let b := g.data
    let num := fieldLe b 2 1
    let type := fieldLe b 3 1
    let area := b.drop 8
    let op := fieldLe area 0 2
    let enc := bit (fieldLe area 4 1) 0
    let session := fieldLe area 8 4
    if b.length ≠ 136 ∨ fieldLe b 0 2 ≠ 0x5244 ∨ num < 16 ∨ 19 < num ∨ 2 < type ∨ fieldLe b 4 4 ≠ 0 then dropDatagram s
    else
      let d := s.net.map.getD (num - 16) num
      let dr := s.drawer d
      let exempt := type == 0 && (op == 0x0C01 || op == 0x0C02) && !enc
      let auth := if enc then s.authenticate num area else none
      if !exempt && auth.isNone then dropDatagram s
      else if dr.st ≠ .free ∧ dr.cmd.session ≠ session then dropDatagram s
      else
        let s1 := match auth with
          | some (k, _) => { s with sec := { s.sec with sessions := s.sec.sessions.map fun x => if x.id == k.id then { x with lastRemote := some s.now } else x } }
          | none => s
        serveDatagram num d type g area s1

/-! ### The commands -/

def execDoorbell (mask : DoorbellWrite) (s : State) : Out := whenLive (s.hostStores mask.stores) (doDoorbell mask.value)
def execDrawerRelease (mask : Nat) (s : State) : Out := whenLive s (doDrawerRelease mask)
def execEqEnable (v : Nat) (s : State) : Out := whenLive s (doEqEnable v)
def execEqHead (v : Nat) (s : State) : Out := whenLive s (doEqHead v)
def execSystemRegisterBuffer (d : Nat) (s : State) : Out := whenLive s (doSystemRegisterBuffer d)
def execSystemSetNetwork (d : Nat) (s : State) : Out := whenLive s (doSystemSetNetwork d)
def execNetLink (up : Bool) (s : State) : Out := whenLive s (doNetLink up)
def execArpRequest (target : Nat) (s : State) : Out := whenLive s (doArpRequest target)
def execIcmpEcho (g : Datagram) (s : State) : Out := whenLive s (doIcmpEcho g)
def execRemoteDatagram (g : Datagram) (s : State) : Out := whenLive s (doRemoteDatagram g)

end Sys2Proof.Machine
end

