-- ==== Sys2Proof/Machine/Bar0.lean ====
section
/-! DEFINITION. BAR0, the host's window (15_mailbox_and_events.md R429, R430, Tables 15-1 to 15-7; 00_scope.md R2, R3): what a read of it
returns, writes to registers and Drawer areas, and reads that clear (R9). -/

namespace Sys2Proof.Machine

open Sys2Proof

/-! ### What reads return -/

/-- The identity block (Table 15-2). -/
def State.identityBlock (s : State) : Bytes :=
  padTo 256 (le 2 pcieVendorId ++ le 2 pcieDeviceId ++ le 1 pcieRevisionId ++ le 1 s.servedLevel ++ le 2 s.servedRelease ++
    le 4 (s.sys.stage + 4 * b2n s.sys.service + 8 * s.sys.pstate) ++ le 2 16 ++ le 2 320 ++ le 8 Config.deviceUid ++ le 8 s.time.count)

/-- Bit n is 1 where Drawer n is in state `st` (Table 15-3). -/
def State.drawersIn (s : State) (st : DrawerSt) : Nat :=
  sumNat ((List.range 16).map fun n => if (s.drawer n).st = st then 2 ^ n else 0)

/-- Drawer control (Table 15-3): the write-only registers read 0. -/
def State.drawerControl (s : State) : Bytes :=
  padTo 64 (le 8 0 ++ le 4 (s.drawersIn .busy) ++ le 4 (s.drawersIn .done) ++ le 4 s.rejects)

/-- Event control (Table 15-4). -/
def State.eventControl (s : State) : Bytes :=
  padTo 256 (le 8 s.ev.base ++ le 4 s.ev.entries ++ le 4 (b2n s.ev.enable) ++ le 4 0 ++ le 4 s.ev.lost ++
    le 8 (s.ev.coalCount + 65536 * s.ev.coalTime) ++ s.ev.masks.flatMap (fun m => le 4 m.toNat) ++ le 8 0 ++ s.ev.vectors.flatMap (le 1))

/-- A Drawer: command area, then result area (R432, R434). -/
def Drawer.bytes (d : Drawer) : Bytes := padTo 128 d.area ++ d.resultArea.bytes

/-- An entry of the MSI-X table (R430). -/
def MsixEntry.bytes (e : MsixEntry) : Bytes := le 8 e.addr ++ le 4 e.data ++ le 4 (b2n e.masked)

/-- The 32-bit word at BAR0 offset `a` (Table 15-1); Reserved bytes read 0. -/
def State.bar0Word (s : State) (a : Nat) : Nat :=
  if a < 0x100 then fieldLe s.identityBlock a 4
  else if a < 0x140 then fieldLe s.drawerControl (a - 0x100) 4
  else if 0x200 ≤ a ∧ a < 0x300 then fieldLe s.eventControl (a - 0x200) 4
  else if 0x1000 ≤ a ∧ a < 0x2000 then fieldLe (s.drawer ((a - 0x1000) / 0x100)).bytes (a % 0x100) 4
  else if 0x2000 ≤ a ∧ a < 0x2400 then fieldLe (at! s.ev.msix ((a - 0x2000) / 16)).bytes (a % 16) 4
  else if 0x3000 ≤ a ∧ a < 0x3008 then bits s.ev.pba (8 * (a - 0x3000)) 32
  else 0

/-- What a host read of BAR0 returns (R429): aligned 32-bit and 64-bit reads read, every other read returns 0. -/
def State.bar0Read (s : State) (a width : Nat) : Nat :=
  if width = 4 ∧ a % 4 = 0 then s.bar0Word a
  else if width = 8 ∧ a % 8 = 0 then s.bar0Word a + 2 ^ 32 * s.bar0Word (a + 4)
  else 0

/-! ### Writes (R429, R430) -/

/-- One 32-bit write to a register: those of Tables 15-3 to 15-5 with behaviour of their own do what their own commands do. -/
def writeReg (a v : Nat) (s : State) : State :=
  if a = 0x100 then doDoorbell (v % 65536) s
  else if a = 0x104 then doDrawerRelease (v % 65536) s
  else if a = 0x20C then doEqEnable v s
  else if a = 0x210 then doEqHead v s
  else if 0x200 ≤ a ∧ a < 0x300 then writeEvReg a v s
  else if 0x300 ≤ a ∧ a < 0x328 then
    let q := if a < 0x308 then 0xFF else (a - 0x308) / 8
    if a % 8 = 0 then doSqTailDoorbell q v s else doCqHeadDoorbell q v s
  else if 0x2000 ≤ a ∧ a < 0x2400 then writeMsix a v s
  else s

/-- REGISTER_WRITE (R429, R430): Drawer command areas take aligned writes of any width; registers take aligned 32-bit and
64-bit writes, the low word of the latter first (DESIGN CHOICE, log 67); any other write is ignored. -/
def doRegisterWrite (addr width v : Nat) (s : State) : State :=
  if 0x1000 ≤ addr ∧ addr < 0x2000 then
    if (width = 1 ∨ width = 2 ∨ width = 4 ∨ width = 8) ∧ addr % width = 0 ∧ addr % 0x100 < 0x80 then
      s.setDrawer ((addr - 0x1000) / 0x100) fun x => { x with area := splice (padTo 128 x.area) (addr % 0x100) (le width v) }
    else s
  else if width = 4 ∧ addr % 4 = 0 then writeReg addr (v % 2 ^ 32) s
  else if width = 8 ∧ addr % 8 = 0 then writeReg (addr + 4) (v / 2 ^ 32 % 2 ^ 32) (writeReg addr (v % 2 ^ 32) s)
  else s

/-! ### Reads that clear (R9, Table 0-3) -/

/-- READ_CLEAR (R9, Table 0-3): the RC registers REJECTS and EQ_LOST return their value and clear; `recurs` events that fall
in the same access stay counted. EQ_LOST is also the high half of an aligned 64-bit read at 0x210 (R429). -/
def doReadClear (addr recurs : Nat) (s : State) : State :=
  if addr = 0x110 then { s with readData := s.rejects, rejects := sat 32 recurs }
  else if addr = 0x214 then { s with readData := s.ev.lost, ev := { s.ev with lost := sat 32 recurs } }
  else if addr = 0x210 then { s with readData := 2 ^ 32 * s.ev.lost, ev := { s.ev with lost := sat 32 recurs } }
  else s

/-! ### The commands -/

def execRegisterWrite (addr width v : Nat) (s : State) : Out := whenLive s (doRegisterWrite addr width v)
def execReadClear (addr recurs : Nat) (s : State) : Out := whenLive s (doReadClear addr recurs)

end Sys2Proof.Machine
end

