-- ==== Sys2Proof/Machine/Faults.lean ====
section
/-! DEFINITION. Residue faults, the Bench, heat, the trip, slack and the DIAG commands (17_faults_thermal_supply.md R485 to R510), and
debug access (16_security.md R481, R482). -/

namespace Sys2Proof.Machine

open Sys2Proof

/-! ### Residue mismatches (R485 to R489) -/

/-- Fault and slack parameters in force for the device: those of the plan of the lowest port that runs, else the defaults (Table 17-2,
log 56). -/
def State.faultParams (s : State) : FaultParams :=
  match (List.range 4).findSome? fun l => if (at! s.sensors l).started then s.planOf? l else none with
  | some p => p.fault
  | none => default

/-- A reading lies no later than `span` after another, by their low 48 bits (R402, R487). -/
def within48 (t span now : Nat) : Bool := decide ((now % 2 ^ 48 + 2 ^ 48 - t % 2 ^ 48) % 2 ^ 48 ≤ span)

/-- The state with a unit changed. -/
def State.setUnit (s : State) (u : UnitId) (f : UnitRec → UnitRec) : State := { s with units := s.units.set u.kind u.number f }

/-- The mismatching token, or every token from it on, or every token of the group, is poisoned in the group that the slice holds, and so
is the frame's ticket (R485, R489). -/
def poisonTokens (u : UnitId) (e group : Nat) (tok : Option Nat) (onward : Bool) (s : State) : State :=
  let jobs := if u.kind = 0 then s.fePos else s.csPos
  let holds := jobs.any fun j => j.any fun j => j.entry == e && j.group == group && j.unit == u.number
  let ticket := s.setEntry e fun x => { x with ticket := { x.ticket with poison := true } }
  if 2 ≤ u.kind then ticket
  else if holds = false then s
  else
    let w := ((s.entry? e).map fun x => (s.entryPort x).profile.width).getD 0
    let spoil := fun (g : RowGroup) =>
      if g.index ≠ group then g
      else
        let total := g.rows * (if u.kind = 0 then w / 4 else w)
        let l := match tok with
          | none => List.range total
          | some k => if onward then List.range' k (total - k) else [k]
        { g with bad := (g.bad ++ l).eraseDups }
    ticket.setEntry e fun x =>
      if u.kind = 0 then { x with groups := x.groups.map spoil } else { x with colour := { x.colour with groups := x.colour.groups.map spoil } }

/-- The token that mismatches stands so on its channel, and a capture shows it: token `tok` of the data, or the group's header or end
token, a free choice (R14, R485). A poisoned token is not checked. -/
def upsetToken (u : UnitId) (e group : Nat) (tok : Option Nat) (s : State) : State :=
  let jobs := if u.kind = 0 then s.fePos else s.csPos
  if 2 ≤ u.kind ∨ (jobs.any fun j => j.any fun j => j.entry == e && j.group == group && j.unit == u.number) = false then s
  else
    let (n, s) := s.takeFree
    let put := fun (g : RowGroup) (width : Nat) => if g.index ≠ group then g else
      let at' := match tok with
        | some t => t + 1
        | none => if Config.freeBool n then 0 else g.rows * width + 1
      { g with upset := g.upset ++ [(at', n)] }
    let w := ((s.entry? e).map fun x => (s.entryPort x).profile.width).getD 0
    s.setEntry e fun x =>
      if u.kind = 0 then { x with groups := x.groups.map (put · (w / 4)) }
      else { x with colour := { x.colour with groups := x.colour.groups.map (put · w) } }

/-- RESIDUE_MISMATCH (R485 to R489, R493): `e` is the ticket-table entry, `group` the row group, `tok` the token within it; none for a
group-header or group-end token. -/
def doResidueMismatch (u : UnitId) (e group : Nat) (tok : Option Nat) (s : State) : State :=
  let s := upsetToken u e group tok s
  match s.units.get? u.kind u.number with
  | none => s
  | some x =>
    if x.st = .spare ∨ x.st = .retired then s
    else
      let p := s.faultParams
      let now := s.reading
      let held := s.holds.getD 2 false
      let hist := (now :: x.hist).take p.faultCount
      let s := s.setUnit u fun x => { x with mismatch := sat 32 (x.mismatch + 1), last := now, hist := hist }
      let s := raiseLimited (ms 1000) 272 (unitInst u.kind u.number) (fun k => [k]) s
      let near := s.units.units.filter fun y => y.kind == u.kind && y.st != .retired && (y.hist.head?.any fun t => within48 t p.faultWindow now)
      if p.commonUnits ≤ near.length then
        let s := { s with units := { s.units with units := s.units.units.map fun y => if near.contains y then { y with hist := [] } else y } }
        let s := poisonTokens u e group tok (x.st == .faulty && !held) s
        raise 292 (unitInst u.kind 0) [u.kind, sumNat (near.map fun y => 2 ^ y.number)] none s
      else if x.st = .active ∧ hist.length = p.faultCount ∧ (hist.getLast?.any fun t => within48 t p.faultWindow now) = true then
        let s := s.setUnit u fun x => { x with st := .faulty, changed := now }
        raise 273 (unitInst u.kind u.number) [] none (poisonTokens u e group tok (!held) s)
      else poisonTokens u e group tok (x.st == .faulty && !held) s

/-! ### The Bench (R495, R496) and captures -/

/-- No port is started and no ticket-table entry is live (R495). -/
def State.quiet (s : State) : Bool := s.sensors.all (fun x => !x.started) && s.table.all (·.isNone)

/-- DIAG.BENCH_RUN (R495): the plan, and the unit as KIND × 256 + NUMBER (log 56). -/
def doDiagBenchRun (d : Nat) (s : State) : State :=
  drawerCmd d 0x0D02 s fun c =>
    let u : UnitId := { kind := c.w 4 / 256, number := c.w 4 % 256 }
    let x := s.units.get? u.kind u.number
    checked d c 8 [(decide (4 < c.w 0), 0), (!(x.any fun x => x.st == .retired) || u.kind != c.w 0, 4)] s fun s =>
      if s.quiet = false ∨ (s.sys.service = true ∧ s.sys.pstate ≠ 1) ∨ (x.any fun x => decide (3 ≤ x.retires)) = true then fail d Status.notPermitted s
      else if s.units.bench.isSome then fail d Status.busy s
      else ({ s with units := { s.units with bench := some (u, c.w 0, d) } }).begin d

/-- BENCH_DONE (R496). -/
def doBenchDone (mismatches : Nat) (digest : Bytes) (s : State) : State :=
  match s.units.bench with
  | none => s
  | some (u, plan, d) =>
    let pass := mismatches == 0 && digest == Config.benchDigest plan
    let s := { s with units := { s.units with bench := none } }
    let s := if pass then s.setUnit u fun x => { x with
        st := if u.kind ≤ 1 then .spare else .active, hist := [], changed := s.reading } else s
    let s := begunCmd d 0x0D02 s fun _ => done d (le 4 (b2n pass) ++ le 4 (sat 32 mismatches) ++ padTo 48 digest) s
    let s := raise 278 (unitInst u.kind u.number) [] none s
    if pass then raise 279 (unitInst u.kind u.number) [] none s else s

/-- DIAG.CAPTURE (R13, Table 15-11): stage class 0 front end or 2 colour, as R57 orders the classes; the result comes when the slice
has emitted the group. -/
def doDiagCapture (d : Nat) (s : State) : State :=
  drawerCmd d 0x0D01 s fun c =>
    let bad : List (Bool × Nat) := [(c.w 0 != 0 && c.w 0 != 2, 0), (decide ((if c.w 0 = 0 then 18 else 27) ≤ c.w 4), 4),
      (!within (c.w 16) 1 65536, 16)]
    checked d c 40 bad s fun s => withDest d (c.buf 24) (11 * c.w 16) s fun s => s.begin d

/-! ### Heat (R497 to R503) -/

/-- Sensors of the logic die, of Attic die 0 and of Attic die 1 (How the M9624 Is Built). -/
def dieOf (i : Nat) : Nat := if i < 24 then 0 else if i < 26 then 1 else 2

/-- Time since a condition began to hold without a break. -/
def holdSince (v : Bool) (now : Nat) (old : Option Nat) : Option Nat := if v then some (old.getD now) else none

/-- A span has passed since a time. -/
def lasted (t : Option Nat) (span now : Nat) : Bool := t.any fun t => decide (t + span ≤ now)

/-- Firmware's work on one sensor's sample: prediction, learned offset and suspicion (R497, R498). -/
def sensorStep (now : Nat) (learned : Bool) (model r : Int) (x : ThermSensor) : ThermSensor :=
  let dev := r - (model + if learned then x.offset / 64 else 0)
  let x := { x with deviation := dev, learned := learned, offset := x.offset + (r - model) - x.offset / 64 }
  let bad := holdSince (decide (32 < dev.natAbs)) now x.badSince
  let good := holdSince (decide (dev.natAbs ≤ 16)) now x.goodSince
  if x.suspect then
    if lasted good (ms 10000) now then { x with suspect := false, goodSince := none, badSince := none } else { x with goodSince := good, badSince := none }
  else if lasted bad (ms 1000) now then { x with suspect := true, badSince := none, goodSince := none }
  else { x with badSince := bad, goodSince := none }

/-- The die has more than half its sensors suspect (R498). -/
def dieDegraded (l : List ThermSensor) (die : Nat) : Bool :=
  let mine := l.zipIdx.filter fun x => dieOf x.2 == die
  decide (mine.length < 2 * (mine.filter (·.1.suspect)).length)

/-- TJ: the highest reading of the sensors used; an open or shorted diode is not (R499, R501). -/
def junction (l : List ThermSensor) (degraded : List Bool) : Option Int :=
  let used := (l.zipIdx.filter fun (x, i) => !x.ignored && (!x.suspect || degraded.getD (dieOf i) false)).map (·.1.reading)
  used.foldl (fun m r => some (max r (m.getD r))) none

/-- The levels of Table 17-4 and their clear levels, in quarter degrees. -/
def levelOf (k : Nat) : Int := if k = 1 then 400 else if k = 2 then 420 else 448
def clearOf (k : Nat) : Int := if k = 1 then 388 else if k = 2 then 408 else 428

/-- The level in force after a sample: reached at once, left when TJ has stayed below the clear level for 1 s (R499). -/
def levelStep (now : Nat) (tj : Int) (x : ThermState) : ThermState :=
  let below := (List.range 3).map fun i => holdSince (decide (tj < clearOf (i + 1))) now (x.belowSince.getD i none)
  let on := fun (k : Nat) => decide (levelOf k ≤ tj) || (decide (k ≤ x.level) && !lasted (below.getD (k - 1) none) (ms 1000) now)
  { x with tj := tj, belowSince := below, level := if on 3 then 3 else if on 2 then 2 else if on 1 then 1 else 0 }

/-- The temperature in quarter degrees of a plan's corner (Table 1-5). -/
def cornerTemp (c : Nat) : Int := if c = 2 then 340 else 420

/-- TJ lies outside the ordering code's range, or above the declared corner of a plan that runs (R503, Table 0-1). -/
def State.outOfRange (s : State) (tj : Int) : Bool :=
  decide (tj < (if s.sys.ordering = 3 then -80 else 0)) || decide (420 < tj) || s.activePlans.any fun p => decide (cornerTemp p.corner < tj)

/-- Firmware's part of a sample (R497 to R499, R503). -/
def thermalFirmware (readings : List Int) (s : State) : State :=
  let now := s.now
  let learned := decide (s.sys.runSince + ms 600000 ≤ now)
  let old := s.therm.sensors
  let new := old.zipIdx.map fun (x, i) => sensorStep now learned (Config.gradient readings i) (readings.getD i 0) x
  let s := { s with therm := { s.therm with sensors := new } }
  let s := (List.range 28).foldl (fun s i =>
    let a := at! old i
    let b := at! new i
    if !a.suspect && b.suspect then raise 280 i [i] none s else if a.suspect && !b.suspect then raise 281 i [i] none s else s) s
  let deg := (List.range 3).map (dieDegraded new)
  let s := (List.range 3).foldl (fun s k =>
    if deg.getD k false && !s.therm.degraded.getD k false then raise 282 k [s.tjArg] none s else s) s
  let s := { s with therm := { s.therm with degraded := deg } }
  match junction new deg with
  | none => s
  | some tj =>
    let s : State := { s with therm := levelStep now tj s.therm }
    -- the 112 °C stop stops every Open encode context (R228)
    let s : State := if s.therm.level = 3 then { s with ctxs := s.ctxs.map fun c => if c.st == .openSt && !c.entry.decode then { c with stopped := true } else c } else s
    let out := s.outOfRange tj
    let s1 := { s with therm := { s.therm with outOfRange := out } }
    if out && !s.therm.outOfRange then raise 289 0 [s.tjArg] none s1 else s1

/-- THERMAL_SAMPLE (R497 to R503): one sample of T0 to T27 in quarter degrees. The trip is hardware: a sensor at 120 °C or more on two
consecutive samples, not above 150 °C (R501). -/
def doThermalSample (readings : List Int) (s : State) : State :=
  if readings.length ≠ 28 then s
  else
    let hot := fun (r : Int) => decide (480 ≤ r) && decide (r ≤ 600)
    let trip := (List.range 28).find? fun i => (at! s.therm.sensors i).hot && hot (readings.getD i 0)
    let sensors := s.therm.sensors.zipIdx.map fun (x, i) =>
      let r := readings.getD i 0
      { x with reading := r, hot := hot r, ignored := decide (600 < r) || decide (r < -160), max := some (max r (x.max.getD r)) }
    let s := { s with therm := { s.therm with sensors := sensors, samples := s.therm.samples + 1 } }
    match trip with
    | some i => { s with sys := { s.sys with tripped := true, tripFlag := some i } }
    | none => if s.sys.stage = 0 then s else thermalFirmware readings s

/-! ### Slack (R506, R507) -/

/-- The slack of one unit's window: 1,024 × output wait / busy time (R506). -/
def slackOf (x : SlackSample) : Nat := 1024 * min x.outWait x.busy / x.busy

/-- SLACK_WINDOW_END (R506, R507): what the units measured in a window of 1 ms. -/
def doSlackWindowEnd (samples : List SlackSample) (s : State) : State :=
  let low := s.faultParams.slackLow
  (List.range 5).foldl (fun s k =>
    let mine := samples.filter fun x => x.kind == k && x.busy != 0 &&
      ((s.units.get? k x.number).any fun u => u.st == .active || u.st == .faulty)
    let v := mine.foldl (fun (m : Option Nat) x => some (min (slackOf x) (m.getD 1024))) none
    match v with
    | none => { s with slack := upd s.slack k fun r => { r with slack := 0 } }
    | some v =>
      let was := (at! s.slack k).below
      let s := { s with
        slack := upd s.slack k fun r => { r with
          slack := v, min := min r.min v, lowWindows := sat 32 (r.lowWindows + b2n (decide (v < low))), below := decide (v < low) }
        sensors := s.sensors.map fun x => { x with spanSlack := upd x.spanSlack k fun m => some (min v (m.getD v)) } }
      if v < low && !was then raiseLimited (ms 1000) 290 (unitInst k 0) (fun n => [n]) s else s) s

/-! ### DIAG results (R509) -/

/-- Code of a unit's state (Table 17-5). -/
def UnitSt.code (x : UnitSt) : Nat := match x with | .active => 0 | .spare => 1 | .faulty => 2 | .retired => 3

/-- A fault entry (Table 17-5). -/
def UnitMap.entryBytes (u : UnitMap) (x : UnitRec) : Bytes :=
  le 1 x.kind ++ le 1 x.number ++ le 1 x.st.code ++ le 1 (x.pos.getD 0xFF) ++ le 1 (x.pos.elim 0 (u.gen x.kind)) ++ le 1 x.retires ++ le 2 0 ++
  le 4 x.mismatch ++ le 4 0 ++ le 8 x.last ++ le 8 x.changed

/-- DIAG.GET_FAULTS (R509). -/
def doDiagGetFaults (d : Nat) (s : State) : State :=
  drawerCmd d 0x0D03 s fun c => checked d c 16 [] s fun s => withDest d (c.buf 0) 3040 s fun s =>
    let out := s.units.units.flatMap s.units.entryBytes
    done d [] ({ (s.hostWrite (c.buf 0).1 out) with
      units := { s.units with units := s.units.units.map fun x => { x with mismatch := 0 } } })

/-- A thermal record (Table 17-6). -/
def ThermSensor.bytes (x : ThermSensor) : Bytes :=
  le 2 (ofInt 16 x.reading) ++ le 2 (ofInt 16 x.deviation) ++ le 2 ((x.max.map (ofInt 16)).getD 0x8000) ++
  le 2 (b2n x.suspect + 2 * b2n x.learned + 4 * b2n x.ignored)

/-- DIAG.GET_THERMAL (R509). -/
def doDiagGetThermal (d : Nat) (s : State) : State :=
  drawerCmd d 0x0D04 s fun c => checked d c 16 [] s fun s => withDest d (c.buf 0) 226 s fun s =>
    let out := s.therm.sensors.flatMap ThermSensor.bytes ++ le 2 (ofInt 16 s.therm.tj)
    done d [] ({ (s.hostWrite (c.buf 0).1 out) with
      therm := { s.therm with sensors := s.therm.sensors.map fun x => { x with max := none } } })

/-- A slack record (Table 17-7): units in service, and the longest run of low frames over the ports. -/
def State.slackBytes (s : State) (k : Nat) : Bytes :=
  let r := at! s.slack k
  let active := (s.units.units.filter fun x => x.kind == k && (x.st == .active || x.st == .faulty)).length
  let run := s.sensors.foldl (fun m x => max m (x.lowRun.getD k 0)) 0
  le 2 r.slack ++ le 2 r.min ++ le 1 active ++ le 1 (min 255 run) ++ le 2 0 ++ le 4 r.lowWindows ++ le 4 0

/-- DIAG.GET_SLACK (R509). -/
def doDiagGetSlack (d : Nat) (s : State) : State :=
  drawerCmd d 0x0D05 s fun c => checked d c 16 [] s fun s => withDest d (c.buf 0) 80 s fun s =>
    let out := (List.range 5).flatMap s.slackBytes
    done d [] ({ (s.hostWrite (c.buf 0).1 out) with slack := s.slack.map fun r => { r with min := 0x7FF, lowWindows := 0 } })

/-! ### Debug access (R481, R482) -/

/-- The token of Table 16-6 is valid: form, device, time, and the signature of a key that the running image carries. -/
def State.tokenValid (s : State) (t : Bytes) : Bool :=
  let maker := bit (fieldLe t 4 4) 0
  let key := slice s.imageBytes (if maker then 0x140 else 0x080) 96
  let hash := if maker then Config.makerKeyHash else Config.caerneKeyHash
  fieldLe t 0 4 == 0x4B4E5544 && decide (fieldLe t 4 4 < 2) && fieldLe t 8 8 != 0 && fieldLe t 8 8 == Config.deviceUid &&
  s.inValidity 0 (fieldLe t 16 8) && decide (fieldLe t 24 8 < 4) && Config.sha384 key == hash &&
  Config.ecdsaVerify key (slice t 0 32) (slice t 32 96)

/-- CHEST.DEBUG_UNLOCK (R481, R482). -/
def doChestDebugUnlock (d : Nat) (s : State) : State :=
  drawerCmd d 0x0C09 s fun c => checked d c 16 [(decide ((c.buf 0).2 < 128), 8)] s fun s =>
    if 16 ≤ d ∨ s.sys.service = true ∨ s.store.clip.isSome = true ∨ s.covered (c.buf 0).1 (c.buf 0).2 false = false then fail d Status.notPermitted s
    else
      let t := s.hostRead (c.buf 0).1 128
      if s.tokenValid t = false then fail d Status.integrity s
      else
        let s := endAllSessions 5 s
        let s := sealChest { s with sec := { s.sec with slots := List.replicate 64 none, working := [] } }
        let s := raise 266 0 [] none s
        let s := { s with sec := { s.sec with debugOpen := true, scopes := fieldLe t 24 8 } }
        done d [] (raise 265 0 [] none s)

/-! ### The meanings -/

def execResidueMismatch (unit : UnitId) (e group : Nat) (tok : Option Nat) (s : State) : Out := whenLive s (doResidueMismatch unit e group tok)
def execThermalSample (readings : List Int) (s : State) : Out := whenLive s (doThermalSample readings)
def execSlackWindowEnd (samples : List SlackSample) (s : State) : Out := whenLive s (doSlackWindowEnd samples)
def execDiagCapture (d : Nat) (s : State) : Out := whenLive s (doDiagCapture d)
def execDiagBenchRun (d : Nat) (s : State) : Out := whenLive s (doDiagBenchRun d)
def execBenchDone (mismatches : Nat) (digest : Bytes) (s : State) : Out := whenLive s (doBenchDone mismatches digest)
def execDiagGetFaults (d : Nat) (s : State) : Out := whenLive s (doDiagGetFaults d)
def execDiagGetThermal (d : Nat) (s : State) : Out := whenLive s (doDiagGetThermal d)
def execDiagGetSlack (d : Nat) (s : State) : Out := whenLive s (doDiagGetSlack d)
def execChestDebugUnlock (d : Nat) (s : State) : Out := whenLive s (doChestDebugUnlock d)

end Sys2Proof.Machine
end

