-- ==== Sys2Proof/Machine/Links.lean ====
section
/-! DEFINITION. The sensor ports: alignment, the port states, packet checks, replies, sleep, adaptation, tests, injection and
the SENSOR commands (03_sensor_links.md). -/

namespace Sys2Proof.Machine

open Sys2Proof

/-! ### Lanes and port states (R69 to R71, R90 to R94) -/

/-- Every entry to Up raises EVT.PORT.LINK_UP (Table 3-12). From Training, SEQ restarts at 0 in both directions, and a started
port waits for a FRAME_START (Table 3-8, R82). -/
def enterUp (p : Nat) (s : State) : State :=
  let q := at! s.ports p
  let lead := (s.leadOf p).getD p
  let fresh := q.st == .training
  let s1 := s.setPort p fun x =>
    let y : Port := { x with nextLane := 0, drop := 0, lanes := x.lanes.map fun k => { k with level := 0 } }
    if fresh then { y with
      st := .up, rxSeq := some 255, skipping := false, bc := { x.bc with seq := 0 }
      waitStart := (at! s.sensors lead).started, part := { x.part with opened := false, closed := true, lastRow := none } }
    else { y with st := .up, sleepAt := none, stats := { x.stats with sleeps := sat 16 (x.stats.sleeps + 1) } }
  let s2 := if fresh && p == lead then s1.setSensor lead fun x => { x with expHist := [] } else s1
  raise (16 * p) p [] none s2

/-- A lane in Training has ended the search of R97 and R152, or policy 5 keeps its coefficients. -/
def Lane.searched (k : Lane) (held : Bool) : Bool := held || decide (21 ≤ k.trainStep)

/-- The markers of two lanes belong to the same block: they arrived within the skew that the device tolerates (R65, R69). -/
def sameBlock (a b : Lane) : Bool := match a.arrival, b.arrival with
  | some x, some y => decide (((x : Int) - y).natAbs ≤ skewLimit)
  | _, _ => false

/-- Training ends when every lane is aligned on the same MSEQ in the same block with FOM at least 32 (R65, R71, Table 3-8). -/
def tryUp (p : Nat) (s : State) : State :=
  let q := at! s.ports p
  let ls := q.lanes.take (s.laneCount p)
  let held := s.holds.getD 1 false
  let ready := fun (k : Lane) => k.aligned && k.mseq == (at! ls 0).mseq && ls.all (sameBlock k) && decide (32 ≤ k.fom) && k.searched held
  if q.st = .training ∧ ls ≠ [] ∧ ls.all ready = true then enterUp p s else s

/-- CK_PRESENT (R93). -/
def doCkPresent (p : Nat) (s : State) : State := tryTrain p (s.setPort p fun q => { q with ck := true })

/-- CK_LOSS (Table 3-8): a port in Training or Up goes Down. -/
def doCkLoss (p : Nat) (s : State) : State :=
  let q := at! s.ports p
  let s1 := s.setPort p fun q => { q with ck := false }
  if q.st = .training ∨ q.st = .up then portDown p s1 else s1

/-- TRAINING_TIMEOUT (R93, Table 3-12). -/
def doTrainingTimeout (p : Nat) (s : State) : State :=
  let q := at! s.ports p
  if q.st ≠ .training ∨ s.now < q.trainStart + ms 10 then s
  else
    let bad := (q.lanes.take (s.laneCount p)).zipIdx.filter fun (k, _) => !(k.aligned && decide (32 ≤ k.fom))
    beginTraining p (raise (16 * p + 7) p [0, sumNat (bad.map fun (_, i) => 2 ^ i), (bad.map fun (k, _) => k.fom).foldl min 255] none s)

/-- A lane loses alignment (R71, Table 3-8). -/
def loseLane (p lane : Nat) (s : State) : State :=
  let s1 := s.setLane p lane fun k => { k with aligned := false, goodRun := 0, badRun := 0, mseq := none, arrival := none }
  let s2 := raise (16 * p + 2) p [] none s1
  if (at! s.ports p).st = .up then portDown p s2 else s2

/-- ALIGNMENT_LOSS (R71). -/
def doAlignmentLoss (p lane : Nat) (s : State) : State :=
  let q := at! s.ports p
  if (q.st = .training ∨ q.st = .up) ∧ lane < s.laneCount p ∧ (at! q.lanes lane).aligned = true then loseLane p lane s else s

/-- What a lane shows after a valid marker that began at symbol `a` (R71): the third in a row, each one block after the last, aligns it;
after sleep the first one does (R90). A marker that does not follow one block after the last begins a new run. -/
def Lane.marker (k : Lane) (asleep : Bool) (a v : Nat) : Lane :=
  let follows := k.arrival == some (a - blockSymbols) && decide (blockSymbols ≤ a)
  let run := if follows then min 3 (k.goodRun + 1) else 1
  { k with goodRun := run, badRun := 0, aligned := k.aligned || decide (3 ≤ run) || asleep, mseq := some v, arrival := some a }

/-- A lane counts a marker error when its MSEQ differs from that of the other lanes in the block (R71): more of them show another one
than its own. The spec does not say which lane of a disagreement is at fault: DEDUCED (log 59). -/
def Lane.outvoted (k : Lane) (others : List Lane) : Bool :=
  decide ((others.filter fun o => o.mseq == k.mseq).length < (others.filter fun o => o.mseq != k.mseq).length)

/-- The last marker of a block has arrived on lanes `ls`: their MSEQ values are held against each other (R71). -/
def judgeBlock (ls : List Lane) : List Lane :=
  ls.zipIdx.map fun (k, i) => if k.outvoted (ls.eraseIdx i) then { k with markerErr := sat 32 (k.markerErr + 1) } else k

/-- The skew of each lane to DL0, from the markers of one block (R65, Table 3-11). -/
def setSkew (ls : List Lane) : List Lane :=
  ls.map fun k => match k.arrival, (at! ls 0).arrival with
    | some a, some b => if sameBlock k (at! ls 0) then { k with skew := (a : Int) - b } else k
    | _, _ => k

/-- A valid marker of a lane (R65, R71, R79): its run, the block it completes, the skew, and the end of a skip at the word that
NEXT_PKT names; after sleep one valid marker on every lane realigns the port (R90). -/
def goodMarker (p lane : Nat) (m : LaneMarker) (s : State) : State :=
  let q := at! s.ports p
  let n := s.laneCount p
  let s1 := s.setLane p lane fun k => k.marker (q.st == .asleep) m.arrival m.mseq
  let me := at! (at! s1.ports p).lanes lane
  let s2 := s1.setPort p fun x =>
    let ls := setSkew (x.lanes.take n)
    { x with lanes := (if ls.all (sameBlock me) then judgeBlock ls else ls) ++ x.lanes.drop n }
  let s3 := if q.skipping = true ∧ m.nextPkt ≠ 0xFFF then s2.setPort p fun x => { x with
      skipping := false, nextLane := 0, drop := 4 * m.nextPkt, lanes := x.lanes.map fun k => { k with level := 0 } } else s2
  if q.st = .asleep then
    if ((at! s3.ports p).lanes.take n).all (·.aligned) = true then enterUp p s3 else s3
  else tryUp p s3

/-- A block position of a lane passes without a valid marker (R71): counted, and the next position stands one block later. An aligned
lane takes a valid marker for such a position when it does not stand there. -/
def badMarker (p lane : Nat) (s : State) : State :=
  let q := at! s.ports p
  let s1 := s.setLane p lane fun k => { k with
    markerErr := sat 32 (k.markerErr + 1), goodRun := 0, badRun := k.badRun + 1
    arrival := if k.aligned then k.arrival.map (· + blockSymbols) else none }
  let k := at! (at! s1.ports p).lanes lane
  if k.aligned = true ∧ 4 ≤ k.badRun ∧ q.st ≠ LinkSt.asleep then loseLane p lane s1 else s1

/-- ALIGNMENT_MARKER (R65, R70, R71, R90). -/
def doAlignmentMarker (p lane : Nat) (m : LaneMarker) (s : State) : State :=
  let q := at! s.ports p
  let k := at! q.lanes lane
  let placed := q.st == .asleep || !k.aligned || k.arrival.all fun a => a + blockSymbols == m.arrival
  if (q.st ≠ .training ∧ q.st ≠ .up ∧ q.st ≠ .asleep) ∨ s.laneCount p ≤ lane then s
  else if m.valid lane && placed then goodMarker p lane m s
  else badMarker p lane s

/-- SLEEP_OVERRUN (R91). -/
def doSleepOverrun (p : Nat) (s : State) : State :=
  let q := at! s.ports p
  match q.st, q.sleepAt with
  | .asleep, some (t, dur) => if t + us (dur + 20) ≤ s.now then portDown p (raise (16 * p + 10) p [] none s) else s
  | _, _ => s

/-! ### Eye windows and adaptation (R96, R97, R152) -/

/-- Coefficient `i` of a lane: 0 CTLE, 1 to 3 DFE taps, 4 phase. -/
def Lane.coef (k : Lane) (i : Nat) : Int := if i = 0 then k.ctle else if i = 4 then k.phase else k.dfe.getD (i - 1) 0

/-- The lane with coefficient `i` at `v`, which stays in the coefficient's range. -/
def Lane.setCoef (k : Lane) (i : Nat) (v : Int) : Lane :=
  if i = 0 then { k with ctle := (clampInt v 0 15).toNat }
  else if i = 4 then { k with phase := (clampInt v 0 63).toNat }
  else { k with dfe := k.dfe.set (i - 1) (clampInt v (-32) 31) }

/-- Coefficient `i` stands at an end code; the phase wraps round the symbol and has none (R97, R152). -/
def Lane.atEnd (k : Lane) (i : Nat) : Bool :=
  if i = 0 then k.ctle == 0 || k.ctle == 15 else if i = 4 then false else k.coef i == -32 || k.coef i == 31

/-- One window of the search of Training: codes 0, 16, 32 and 48 with CTLE 8, then the 16 CTLE codes, then the DFE, whose
settled taps the spec leaves to the eye: free values (R97, R152). After a release of policy 5 the search starts from the codes in
force: that window is measured at none of its settings, and only sets the first one. -/
def Lane.search (k : Lane) (fom free : Nat) : Lane :=
  let i := k.trainStep
  let before := k
  let code := if i < 4 then 16 * i else i - 4
  let best := if i = 0 ∨ i = 4 ∨ k.trainBest.1 < fom then (fom, code) else k.trainBest
  let k := { k with trainStep := min 21 (i + 1), trainBest := best }
  if i = 0 ∧ (before.phase ≠ 0 ∨ before.ctle ≠ 8) then { before with phase := 0, ctle := 8 }
  else if i < 3 then { k with phase := 16 * (i + 1), ctle := 8 }
  else if i = 3 then { k with phase := best.2, ctle := 0 }
  else if i < 19 then { k with ctle := i - 3 }
  else if i = 19 then
    let tap := fun j => toInt 6 (Config.freeBits 6 (free + j))
    { k with ctle := best.2, dfe := [tap 0, tap 1, tap 2] }
  else k

/-- One window of background adaptation in Up: the step under trial is kept or reverted, or at most one new step of one
coefficient is made; which one is free (R97, R152). -/
def Lane.adapt (k : Lane) (fom free : Nat) : Lane :=
  match k.trial with
  | some (i, old, before) => if fom < before then { k.setCoef i old with trial := none } else { k with trial := none }
  | none =>
    let i := Config.freeBits 3 free % 5
    let up := Config.freeBool (free + 1)
    if Config.freeBool (free + 2) then k
    else
      let v := k.coef i + if up then 1 else -1
      { k.setCoef i (if i = 4 then v % 64 else v) with trial := some (i, k.coef i, fom) }

/-- Which coefficients have stood at an end code for 1 s, with the lane's record of since when (R97). -/
def Lane.ends (k : Lane) (now : Nat) : List Nat × Lane :=
  let since := (List.range 5).map fun i => if k.atEnd i then some ((k.endSince.getD i none).getD now) else none
  let due := (List.range 5).filter fun i => match since.getD i none with
    | some t => decide (t + 1000000000 ≤ now)
    | none => false
  (due, { k with endSince := (List.range 5).map fun i => if due.contains i then some now else since.getD i none })

/-- EYE_WINDOW_END (R96, R97, R152). -/
def doEyeWindowEnd (p lane : Nat) (e : EyeLevels) (s : State) : State :=
  let q := at! s.ports p
  if (q.st ≠ .training ∧ q.st ≠ .up) ∨ s.laneCount p ≤ lane then s
  else
    let fom := e.fom
    let held := s.holds.getD 1 false
    let (n, s0) := s.takeFree
    let s1 := s0.setLane p lane fun k =>
      let k := { k with fom := fom, fomMin := min k.fomMin fom }
      if held then k else if q.st = .training then k.search fom (8 * n) else k.adapt fom (8 * n)
    if q.st = .training then tryUp p s1
    else
      let s2 := if fom < 48 then raiseLimitedBy (ms 1000) 1 (16 * p + 7) (8 * p + lane) p (fun _ => [1, lane, fom]) s1 else s1
      let (due, k) := (at! (at! s2.ports p).lanes lane).ends s2.now
      due.foldl (fun s _ => raise (16 * p + 8) p [] none s) (s2.setLane p lane fun _ => k)

/-! ### Back-channel answers (R86, R87, R92, R95) -/

/-- The port on which the test of Drawer `d` waits for the answer to its TEST packet. -/
def State.testPort (s : State) (d : Nat) : Option Nat :=
  (List.range 4).find? fun m => (at! s.ports m).test.any fun t => t.drawer == some d

/-- The answer to the TEST packet of Drawer `d` (R98, R100): the port under test, which may be any member of the bond, enters Test. -/
def answerTest (d result : Nat) (s : State) : State :=
  match s.testPort d with
  | none => fail d Status.notPermitted s
  | some m =>
    if result = 0 then
      done d [] (s.setPort m fun q => { q with st := .test, test := q.test.map fun t => { t with active := true, drawer := none } })
    else fail d Status.notPermitted (s.setPort m fun q => { q with test := none })

/-- A Drawer whose back-channel command has been answered: its result (Table 15-10). -/
def answerDrawer (d p result : Nat) (words : Bytes) (s : State) : State :=
  let op := (s.drawer d).cmd.opcode
  if op = 0x0309 then done d (le 4 result) s
  else if op = 0x030A then done d (le 4 result ++ words) s
  else if op = 0x0307 then answerTest d result s
  else if op = 0x0301 then done d [] (s.setSensor p fun x => { x with starting := none })
  else s

/-- The data words of a REPLY, in the device's byte order. -/
def replyWords (pay : Bytes) (n : Nat) : Bytes := (List.range n).flatMap fun i => le 4 (payWord pay (i + 1))

/-- The last packet of the list that precedes Training has been answered or has failed: the port trains (R93, R95). -/
def listDone (p : Nat) (s : State) : State :=
  let bc := (at! s.ports p).bc
  if (at! s.sensors p).listing = false ∨ bc.current.any (·.1.owner == .linkList) = true ∨ bc.waiting.any (·.owner == .linkList) = true then s
  else
    let s1 := s.setSensor p fun x => { x with listing := false }
    (s1.portPlan p).profile.members.foldl (fun s m => tryTrain m s) s1

/-- Three REPLY packets with RESULT 2 in a row (Table 3-12). -/
def countAlert (p result : Nat) (s : State) : State :=
  let run := if result = 2 then (at! s.ports p).bc.alertRun + 1 else 0
  let s1 := s.setPort p fun q => { q with bc := { q.bc with alertRun := if 3 ≤ run then 0 else run } }
  if 3 ≤ run then raise (16 * p + 13) p [] none s1 else s1

/-- A REPLY is accepted (R86, R87, R103, R136). One that names no command awaiting an answer is ignored; whether it counts towards
EVT.PORT.SENSOR_ALERT R87 and Table 3-12 leave open: DESIGN CHOICE it does not (log 59). -/
def replyIn (p : Nat) (pay : Bytes) (s : State) : State :=
  let w := payWord pay 0
  let result := w / 65536 % 256
  match (at! s.ports p).bc.current with
  | none => s
  | some (c, _) =>
    if c.seq ≠ w / 2 ^ 24 then s
    else
      let s1 := (countAlert p result s).setPort p fun q => { q with bc := { q.bc with current := none } }
      let s2 := if c.isExposure then s1.setSensor p fun x => { x with scanExp := match x.scanExp.findIdx? (·.1 == 1) with
        | some i => x.scanExp.modify i fun w => (2, w.2)
        | none => x.scanExp } else s1
      let s3 := match c.owner with
        | .drawer d => answerDrawer d p result (replyWords pay (min (w % 65536) (pay.length / 4 - 1))) s2
        | _ => s2
      listDone p (sendNext p s3)

/-- SENSOR.START has failed (R87): the rest of its list and its STREAM start are dropped, and the port counts as not started; a ticket
already issued for frame 0 ends without rows. The spec does not say what becomes of the list and of the port: DESIGN CHOICE (log 59). -/
def startFails (l : Nat) (s : State) : State :=
  let x := at! s.sensors l
  let s1 := s.setPort l fun q => { q with bc := { q.bc with waiting := q.bc.waiting.filter fun w =>
    w.owner != .initList && (match w.kind with
      | .stream true => false
      | _ => true) } }
  let s2 := s1.setSensor l fun y => { y with starting := none, started := false, fresh := false, nextFrame := 0, upcoming := none }
  let s3 := match x.upcoming with
    | some (n, some e) => if (s2.entry? e).any (fun y => y.src == .sensor l && y.ticket.frame == n && !y.closed) then closeEntry e (truncateAt e 0 s2) else s2
    | _ => s2
  match x.starting with
  | some d => fail d Status.timeout (stoppedSwitch l s3)
  | none => s3

/-- A command has failed after three attempts (R87): a Drawer command that caused it completes with TIMEOUT. A failed packet of the list
that precedes Training drops the rest of that list: DESIGN CHOICE (log 59). -/
def commandFails (p : Nat) (c : BcCmd) (s : State) : State :=
  match c.owner with
  | .firmware => s
  | .linkList => s.setPort p fun q => { q with bc := { q.bc with waiting := q.bc.waiting.filter (·.owner != .linkList) } }
  | .initList => startFails p s
  | .drawer d =>
    if (at! s.sensors p).starting = some d then startFails p s
    else fail d Status.timeout (match s.testPort d with
      | some m => s.setPort m fun q => { q with test := none }
      | none => s)

/-- BC_REPLY_TIMEOUT (R86, R87): a repeat, or the end of the command after three attempts. -/
def doBcReplyTimeout (p : Nat) (s : State) : State :=
  match (at! s.ports p).bc.current with
  | none => s
  | some (c, t) =>
    if s.now < t + us 20 then s
    else if c.attempts < 3 then
      s.setPort p fun q => { q with
        stats := { q.stats with bcRetry := sat 16 (q.stats.bcRetry + 1) }
        bc := { q.bc with current := some ({ c with attempts := c.attempts + 1 }, s.now) }.transmit s.now c.packet }
    else
      let s1 := s.setPort p fun q => { q with
        stats := { q.stats with bcFail := sat 16 (q.stats.bcFail + 1) }, bc := { q.bc with current := none } }
      listDone p (sendNext p (commandFails p c (raise (16 * p + 9) p [c.kind.type, c.seq] none s1)))

/-- BACK_CHANNEL_SLEEP (R92): the 64 idle symbols are over. A command that has become pending meanwhile wakes the back channel. -/
def doBackChannelSleep (p : Nat) (s : State) : State :=
  if (at! s.ports p).bc.phase = .entering then
    let s1 := s.setPort p fun q => { q with bc := q.bc.sleep }
    if (at! s1.ports p).bc.waiting = [] then s1 else sendNext p s1
  else s

/-- The schedule instant within 4 ticks of `x`, if there is one (R416). -/
def scheduleAt (num den : Nat) (phase x : Int) : Option Int :=
  let t := fun (k : Int) => phase + (k * 1000000000 * den + (num / 2 : Nat)) / (max 1 num : Nat)
  let k := (x - phase) * num / (1000000000 * (max 1 den : Nat) : Nat)
  ([k - 1, k, k + 1].map t).find? fun v => decide ((v - x).natAbs ≤ 4)

/-- Number of the frame that the next TRIGGER starts (R83): the one after that of the last TRIGGER, or the frame that opens next. -/
def State.triggerFrame (s : State) (l : Nat) : Nat := match (at! s.ports l).bc.trigger with
  | some (n, _) => wrap 32 (n + 1)
  | none => nextNumber l l s

/-- TRIGGER (R83, R89, R150, R416): at every frame-start instant of the schedule its packet leaves, so that readout starts there. It goes
ahead of the commands that wait. -/
def doTrigger (p : Nat) (s : State) : State :=
  let x := at! s.sensors p
  let pp := (s.portPlan p).profile
  let at' : Int := s.reading + pp.trigLat
  let n := s.triggerFrame p
  if x.started = false ∨ pp.timing ≠ .triggered then s
  else match scheduleAt pp.fpsNum pp.fpsDen pp.phase (at' - x.lag) with
  | none => s
  | some v =>
    if (at! s.ports p).bc.trigger.any (·.2 == v) then s
    else
      let cal := ((s.entryOf p n).bind s.entry?).any fun y => y.ticket.calframe
      let s1 := s.setPort p fun q => { q with bc :=
        ({ q.bc with seq := wrap 8 (q.bc.seq + 1), trigger := some (n, v) }.transmit s.now (makePacket 0xD q.bc.seq [n % 65536 * 65536])).rest s.now }
      s1.setSensor p fun x => { x with lastStart := some at'.toNat, lag := if cal then x.lag + 2000000 else x.lag }

/-! ### Receiving packets (R72 to R76, R79, R101) -/

/-- A type of the sensor's direction (Table 3-6). -/
def sensorType (t : Nat) : Bool := within t 1 6

/-- A header is discarded and counted (R74, R76, R79, R103). -/
def headerError (p : Nat) (s : State) : State :=
  raiseLimited (ms 1) (16 * p + 4) p (fun n => [n]) (s.setPort p fun q => { q with stats := { q.stats with hdrErr := sat 32 (q.stats.hdrErr + 1) } })

/-- A SLEEP packet is accepted (R80, R90). Without SLEEP_OK, or outside the gap between FRAME_END and FRAME_START, a sensor may
not send it; the packet then changes nothing. -/
def sleepIn (l p : Nat) (pay : Bytes) (s : State) : State :=
  if pay.length ≠ 4 then protoError p 4 4 s
  else if (s.portPlan l).profile.sleepOk = false ∨ (at! s.ports p).part.closed = false then s
  else s.setPort p fun q => { q with
    st := .asleep, sleepAt := some (s.now, payWord pay 0 / 65536), lanes := q.lanes.map fun k => { k with aligned := false } }

/-- An accepted packet does what its type says. Frames count from the STREAM start of SENSOR.START (R51, R82), so frame packets of a
port that is not started belong to no frame and are dropped: DESIGN CHOICE (log 59). -/
def dispatchPacket (l p : Nat) (k : LinkPacket) (s : State) : State :=
  let runs := (at! s.sensors l).started
  match k.type with
  | 1 => if runs then frameStart l p k.payload s else s
  | 2 => if runs then rowData l p k.payload s else s
  | 3 => if runs then frameEnd l p k.payload s else s
  | 4 => sleepIn l p k.payload s
  | 5 => if runs then embedded l p k.payload s else s
  | 6 => replyIn p k.payload s
  | _ => s

/-- The checks of R79 in order, then the packet's effect. -/
def accept (p : Nat) (k : LinkPacket) (s : State) : State :=
  let q := at! s.ports p
  if q.skipping then s
  else if !k.hecOk then headerError p (s.setPort p fun q => { q with skipping := true })
  else if !sensorType k.type then headerError p s
  else if !k.crcOk then
    raiseLimited (ms 1) (16 * p + 3) p (fun n => [n]) (s.setPort p fun q => { q with stats := { q.stats with crcErr := sat 32 (q.stats.crcErr + 1) } })
  else
    let d := (k.seq + 256 - (q.rxSeq.getD 255) % 256) % 256
    if d = 0 ∨ 128 ≤ d then
      raiseLimited (ms 1) (16 * p + 6) p (fun n => [n]) (s.setPort p fun q => { q with stats := { q.stats with seqLate := sat 32 (q.stats.seqLate + 1) } })
    else
      let s1 := if 1 < d then
          raiseLimitedBy (ms 1) (d - 1) (16 * p + 5) p p (fun n => [n])
            (s.setPort p fun q => { q with stats := { q.stats with seqGap := sat 32 (q.stats.seqGap + (d - 1)) } })
        else s
      let s2 := s1.setPort p fun q => { q with rxSeq := some k.seq, stats := { q.stats with pktGood := sat 32 (q.stats.pktGood + 1) } }
      match s2.leadOf p with
      | some l => dispatchPacket l p k s2
      | none => s2

/-- What injection does with a received packet: the packets that go on to the checks in order, and its state afterwards, none
when COUNT is reached (R101). A packet selected for REORDER while another is held releases that one and is held in its place, so that
with n = 1 every packet follows one late and none changes places: the spec does not say, DESIGN CHOICE (log 60). -/
def injectAct (i : Injection) (k : LinkPacket) : List LinkPacket × Option Injection :=
  let tail := match i.held with
    | some h => [h]
    | none => []
  let i := { i with held := none }
  if !bit i.typeMask k.type then (k :: tail, some i)
  else
    let seen := i.seen + 1
    if seen % max 1 i.every ≠ 0 then (k :: tail, some { i with seen := seen })
    else
      let j := { i with seen := seen, acts := i.acts + 1 }
      let (out, j) := if i.mode = 1 then (tail, j)
        else if i.mode = 2 then (k.corrupt i.byte i.bit :: tail, j)
        else (tail, { j with held := some k })
      (out, some j)

/-- Bytes of the stream that a packet's symbols bring (R66 to R68): each lane's Gray values recovered, then byte by byte over the lanes. -/
def State.rxBytes (s : State) (p : Nat) (r : LinkRun) : Bytes :=
  let q := at! s.ports p
  let n := max 1 (s.laneCount p)
  let lanes := (List.range n).map fun i => (laneBytes (at! q.lanes i).level (at! r.lanes i)).1
  (unstripe n lanes (sumNat (lanes.map List.length)) q.nextLane).drop q.drop

/-- The packet that a port receives with these symbols: the idle words before it are skipped (R72, R74). -/
def State.rx (s : State) (p : Nat) (r : LinkRun) : LinkPacket :=
  let bs := s.rxBytes p r
  packetOf (dropIdle bs.length bs)

/-- What the symbols of a packet leave in the receiver: the lanes' last levels (R67), and the lane of the next byte (R68). -/
def rxDone (p : Nat) (r : LinkRun) (s : State) : State :=
  let q := at! s.ports p
  let n := max 1 (s.laneCount p)
  let total := sumNat ((List.range n).map fun i => (laneBytes (at! q.lanes i).level (at! r.lanes i)).1.length)
  s.setPort p fun q => { q with
    nextLane := (q.nextLane + total) % n, drop := 0
    lanes := q.lanes.zipIdx.map fun (k, i) => if i < n then { k with level := (laneBytes k.level (at! r.lanes i)).2 } else k }

/-- A packet arrives at a port that is Up: injection, then the checks (R79, R101). Before Training, the only packets are the answers to
the initialisation list (R95). -/
def receive (p : Nat) (k : LinkPacket) (s : State) : State :=
  let q := at! s.ports p
  if q.st ≠ .up then
    let listing := (at! s.sensors p).listing
    if q.st = .down ∧ listing = true ∧ k.type = 6 ∧ k.hecOk = true ∧ k.crcOk = true then replyIn p k.payload s else s
  else match q.inject with
  | none => accept p k s
  | some i =>
    let (out, j) := injectAct i k
    let ended := match j with
      | some j => i.count != 0 && j.acts == i.count && j.acts != i.acts
      | none => false
    let s1 := s.setPort p fun q => { q with inject := j }
    let s2 := out.foldl (fun s k => if (at! s.ports p).st = .up then accept p k s else s) s1
    let s2 := if ended then raise (16 * p + 15) p [] none s2 else s2
    s2.setPort p fun q => { q with inject := q.inject.bind fun (j : Injection) =>
      if j.count ≠ 0 ∧ j.count ≤ j.acts then (if j.held.isSome then some { j with typeMask := 0 } else none) else some j }

/-- A packet of one row of the command table: symbols that spell a word with a good HEC and that row's type. -/
def receiveAs (t p : Nat) (r : LinkRun) (s : State) : State :=
  let k := s.rx p r
  if k.hecOk = true ∧ k.type = t then receive p k (rxDone p r s) else s

/-- HEADER_ERROR (R74, R76, R79): a word whose HEC fails, or a packet of a type that is not the sensor's. -/
def doHeaderError (p : Nat) (r : LinkRun) (s : State) : State :=
  let k := s.rx p r
  if k.hecOk = true ∧ sensorType k.type = true ∨ k.header = 0 then s else receive p k (rxDone p r s)

/-! ### SENSOR commands (Table 15-10) -/

/-- Who holds a started or starting port, or one in a test. -/
def State.portBusy (s : State) (p : Nat) : Bool :=
  let x := at! s.sensors p
  x.started || x.starting.isSome || x.stopping.isSome || (at! s.ports p).test.isSome

/-- SENSOR.START (R38, R82, R95, R150, R178). -/
def doSensorStart (d : Nat) (s : State) : State :=
  drawerCmd d 0x0301 s fun c =>
    let p := c.w 0
    checked d c 4 [(decide (3 < p), 0)] s fun s =>
      match s.portPlan? p with
      | none => fail d Status.notPermitted s
      | some pp =>
        if s.units.bench.isSome || s.entering then fail d Status.busy s
        else if s.sys.pstate ≠ 0 then fail d Status.notPermitted s
        else if s.portBusy p then fail d Status.busy s
        else
          let s1 := s.setSensor p fun x => { x with
            starting := some d, fresh := true, nextFrame := 0, lag := 0, lastOpen := none, upcoming := none, bondStarts := []
            lastEdge := none, scanNext := [], scanBase := none, scanExp := (x.scanExp.filter (·.1 == 0)).map fun _ => (0, 0) }
          let s1 := pp.profile.members.foldl (fun s m => s.setPort m fun q => { q with
            waitStart := false, part := default, bc := { q.bc with trigger := none } }) s1
          let s2 := (ladderReset p s1).begin d
          (initCmds pp.profile .initList ++ [({ kind := .stream true, owner := .drawer d } : BcCmd)]).foldl (fun s c => issueBc p c s) s2

/-- SENSOR.STOP: STREAM stop leaves at the next start of vertical blanking (Table 15-10). A line-scan port has none, and stops
at once. -/
def doSensorStop (d : Nat) (s : State) : State :=
  drawerCmd d 0x0302 s fun c =>
    let p := c.w 0
    checked d c 4 [(decide (3 < p), 0)] s fun s =>
      let x := at! s.sensors p
      if x.starting.isSome ∨ x.stopping.isSome then fail d Status.busy s
      else if !x.started then done d [] s
      else
        let s1 := (s.setSensor p fun x => { x with stopping := some d }).begin d
        if (s.portPlan p).profile.timing = .lineScan then streamStop p (closeScan p (at! s.ports p).part.expRow s1) else s1

/-- SENSOR.GET_LINK_STATS: the 192 bytes of Table 3-11. -/
def Port.statBytes (q : Port) : Bytes :=
  let t := q.stats
  let st := match q.st with
    | .down => 0 | .training => 1 | .up => 2 | .asleep => 3 | .test => 4
  le 4 t.pktGood ++ le 4 t.crcErr ++ le 4 t.hdrErr ++ le 4 t.seqGap ++ le 4 t.seqLate ++ le 4 t.protoErr ++ le 4 t.missing ++
  le 2 t.linkDowns ++ le 2 t.sleeps ++ le 2 t.bcRetry ++ le 2 t.bcFail ++ le 4 st ++ padTo 24 [] ++
  (q.lanes.flatMap fun k =>
    le 4 (k.fom + 256 * k.fomMin + 65536 * k.ctle) ++
    le 4 (ofInt 6 (k.dfe.getD 0 0) + 256 * ofInt 6 (k.dfe.getD 1 0) + 65536 * ofInt 6 (k.dfe.getD 2 0)) ++
    le 4 k.markerErr ++ le 2 (ofInt 16 k.skew) ++ le 2 0)

/-- SENSOR.GET_LINK_STATS (R102): the read resets every RC field. -/
def doSensorGetLinkStats (d : Nat) (s : State) : State :=
  drawerCmd d 0x0306 s fun c =>
    let p := c.w 0
    checked d c 24 [(decide (3 < p), 0)] s fun s =>
      withDest d (c.buf 8) 192 s fun s =>
        let s1 := s.hostWrite (c.q 8) (at! s.ports p).statBytes
        done d [] (s1.setPort p fun q => { q with
          stats := default, lanes := q.lanes.map fun k => { k with fomMin := 0xFF, markerErr := 0 } })

/-- The test of a port ends: PATTERN_DONE, TEST mode 0 to the sensor, and Training again (R98 to R100, Table 3-8). -/
def endTest (p : Nat) (s : State) : State :=
  match (at! s.ports p).test with
  | none => s
  | some t =>
    let s1 := raise (16 * p + 14) p [] none (s.setPort p fun q => { q with test := none, bcPattern := 0 })
    let s2 := if (at! s1.ports p).st = .test then beginTraining p s1 else s1
    if t.facility = 0 ∨ t.facility = 2 then issueBc ((s2.leadOf p).getD p) { kind := .test 0 t.lanes } s2 else s2

/-- Per lane, symbols compared and errors, 16 bytes each (R99). -/
def Port.testBytes (q : Port) : Bytes := q.lanes.flatMap fun k => le 8 k.patSymbols ++ le 8 k.patErrors

/-- Errors of a lane's checker (R99): in near-end loopback those that the device's own generator injects, else what the line gave. -/
def LaneTest.errorsOf (t : LaneTest) (n given : Nat) : Nat :=
  if t.facility = 1 then loopbackErrors t.pattern t.errInterval n else given

/-- SENSOR.TEST with facility 0xF: the test that runs is stopped, and the checkers' counts are written. How far a checker had come is a
free value. -/
def stopTest (d p : Nat) (buf : Nat × Nat) (s : State) : State :=
  withDest d buf 128 s fun s =>
    let s1 := match (at! s.ports p).test with
      | none => s
      | some t =>
        let (n, s0) := s.takeFree
        endTest p (s0.setPort p fun q => { q with
          lanes := q.lanes.zipIdx.map fun ((k, i) : Lane × Nat) =>
            let seen := Config.freeBits 48 (16 * n + i) % 2 ^ 48
            if bit t.lanes i && !bit t.lanesDone i then { k with
              patSymbols := seen, patErrors := sat 32 (t.errorsOf seen (Config.freeBits 32 (16 * n + 8 + i))) } else k })
    done d [] (s1.hostWrite buf.1 (at! s1.ports p).testBytes)

/-- SENSOR.TEST (R98 to R100): Maintenance mode. The TEST packet of facilities 0 and 2 is answered before the test takes effect. The
statuses of a port that is not Up (NOT_PERMITTED: Table 3-8 enters Test from Up alone) and of one that runs a test (BUSY), and the
error intervals 0 for no error and 1 for a single one, are the model's: DESIGN CHOICE (log 60). -/
def doSensorTest (d : Nat) (s : State) : State :=
  drawerCmd d 0x0307 s fun c =>
    let p := c.w 0
    let f := c.w 4
    if f = 0xF then
      checked d c 24 [(decide (3 < p), 0)] s fun s => if s.sys.service then fail d Status.notPermitted s else stopTest d p (c.buf 8) s
    else
      let n := c.w 24
      checked d c 28 [(decide (3 < p), 0), (decide (3 < f), 4), (decide (1 < c.w 8), 8), (decide (255 < c.w 12), 12), (decide (1 < n ∧ n < 1000), 24)] s fun s =>
        let q := at! s.ports p
        if s.sys.service then fail d Status.notPermitted s
        else if q.test.isSome then fail d Status.busy s
        else if q.st ≠ .up then fail d Status.notPermitted s
        else
          let wait := f = 0 ∨ f = 2
          let t : LaneTest := { facility := f, pattern := c.w 8, lanes := c.w 12, symbols := c.q 16, errInterval := n, active := !decide wait
                                drawer := if wait then some d else none }
          let s1 := s.setPort p fun q => { q with
            test := some t, lanes := q.lanes.map fun k => { k with patSymbols := 0, patErrors := 0 }
            bcPattern := if f = 3 then 1 + c.w 8 else 0 }
          if wait then issueBc ((s.leadOf p).getD p) { kind := .test (if f = 2 then 3 else 1 + c.w 8) (c.w 12), owner := .drawer d } (s1.begin d)
          else done d [] (s1.setPort p fun q => { q with st := .test })

/-- PATTERN_TEST_END (R99): a lane's checker has compared the set count of symbols; `errors` is what the line gave. -/
def doPatternTestEnd (p lane errors : Nat) (s : State) : State :=
  match (at! s.ports p).test with
  | none => s
  | some t =>
    if t.active = false ∨ bit t.lanes lane = false ∨ bit t.lanesDone lane = true then s
    else
      let ended := t.lanesDone + 2 ^ lane
      let s1 := (s.setLane p lane fun k => { k with patSymbols := sat 48 t.symbols, patErrors := sat 32 (t.errorsOf t.symbols errors) }).setPort p
        fun q => { q with test := some { t with lanesDone := ended } }
      if ((List.range 8).all fun i => !bit t.lanes i || bit ended i) = true then endTest p s1 else s1

/-- SENSOR.INJECT (R101). -/
def doSensorInject (d : Nat) (s : State) : State :=
  drawerCmd d 0x0308 s fun c =>
    let p := c.w 0
    let m := c.w 4
    checked d c 28 [(decide (3 < p), 0), (decide (3 < m), 4), (decide (65535 < c.w 8), 8), (m != 0 && !within (c.w 12) 1 65535, 12),
        (decide (7 < c.w 24), 24)] s fun s =>
      if s.sys.service then fail d Status.notPermitted s
      else
        let i : Injection := { mode := m, typeMask := c.w 8, every := c.w 12, count := c.w 16, byte := c.w 20, bit := c.w 24 }
        done d [] (s.setPort p fun q => { q with inject := if m = 0 then none else some i })

/-- SENSOR.BC_WRITE (R86, R87). -/
def doSensorBcWrite (d : Nat) (s : State) : State :=
  drawerCmd d 0x0309 s fun c =>
    let p := c.w 0
    let n := c.w 8
    checked d c (12 + 4 * n) [(decide (3 < p) || (s.portPlan? p).isNone, 0), (decide (65535 < c.w 4), 4), (!within n 1 21, 8)] s fun s =>
      issueBc p { kind := .cmdWrite (c.w 4) ((List.range n).map fun i => c.w (12 + 4 * i)), owner := .drawer d } (s.begin d)

/-- SENSOR.BC_READ. -/
def doSensorBcRead (d : Nat) (s : State) : State :=
  drawerCmd d 0x030A s fun c =>
    let p := c.w 0
    checked d c 12 [(decide (3 < p) || (s.portPlan? p).isNone, 0), (decide (65535 < c.w 4), 4), (!within (c.w 8) 1 21, 8)] s fun s =>
      issueBc p { kind := .cmdRead (c.w 4) (c.w 8), owner := .drawer d } (s.begin d)

/-! ### The commands -/

def execCkPresent (p : Nat) (s : State) : Out := whenLive s (doCkPresent p)
def execCkLoss (p : Nat) (s : State) : Out := whenLive s (doCkLoss p)
def execTrainingTimeout (p : Nat) (s : State) : Out := whenLive s (doTrainingTimeout p)
def execAlignmentMarker (p lane : Nat) (m : LaneMarker) (s : State) : Out := whenLive s (doAlignmentMarker p lane m)
def execAlignmentLoss (p lane : Nat) (s : State) : Out := whenLive s (doAlignmentLoss p lane)
def execFrameStart (p : Nat) (r : LinkRun) (s : State) : Out := whenLive s (receiveAs 1 p r)
def execRowData (p : Nat) (r : LinkRun) (s : State) : Out := whenLive s (receiveAs 2 p r)
def execFrameEnd (p : Nat) (r : LinkRun) (s : State) : Out := whenLive s (receiveAs 3 p r)
def execSleep (p : Nat) (r : LinkRun) (s : State) : Out := whenLive s (receiveAs 4 p r)
def execEmbedded (p : Nat) (r : LinkRun) (s : State) : Out := whenLive s (receiveAs 5 p r)
def execReply (p : Nat) (r : LinkRun) (s : State) : Out := whenLive s (receiveAs 6 p r)
def execHeaderError (p : Nat) (r : LinkRun) (s : State) : Out := whenLive s (doHeaderError p r)
def execBcReplyTimeout (p : Nat) (s : State) : Out := whenLive s (doBcReplyTimeout p)
def execSleepOverrun (p : Nat) (s : State) : Out := whenLive s (doSleepOverrun p)
def execBackChannelSleep (p : Nat) (s : State) : Out := whenLive s (doBackChannelSleep p)
def execTrigger (p : Nat) (s : State) : Out := whenLive s (doTrigger p)
def execEyeWindowEnd (p lane : Nat) (e : EyeLevels) (s : State) : Out := whenLive s (doEyeWindowEnd p lane e)
def execPatternTestEnd (p lane errors : Nat) (s : State) : Out := whenLive s (doPatternTestEnd p lane errors)
def execSensorStart (d : Nat) (s : State) : Out := whenLive s (doSensorStart d)
def execSensorStop (d : Nat) (s : State) : Out := whenLive s (doSensorStop d)
def execSensorGetLinkStats (d : Nat) (s : State) : Out := whenLive s (doSensorGetLinkStats d)
def execSensorTest (d : Nat) (s : State) : Out := whenLive s (doSensorTest d)
def execSensorInject (d : Nat) (s : State) : Out := whenLive s (doSensorInject d)
def execSensorBcWrite (d : Nat) (s : State) : Out := whenLive s (doSensorBcWrite d)
def execSensorBcRead (d : Nat) (s : State) : Out := whenLive s (doSensorBcRead d)

end Sys2Proof.Machine
end

