-- ==== Sys2Proof/Machine/Codes.lean ====
section
/-! DEFINITION. The memory codes: the light code of an Attic byte, the strong code of a page, and the Reed–Solomon code of a Cellar
line (13_attic_and_cellar.md R360 to R364, R374). -/

namespace Sys2Proof.Machine

open Sys2Proof

/-! ### The light code (R360, R361) -/

/-- Parity of the bits of `v` that a mask selects. -/
def parityOf (v mask : Nat) : Nat := sumNat ((List.range 18).map fun i => b2n (bit v i && bit mask i)) % 2

/-- The 12 stored bits of a byte; stored position p is bit p − 1 (R360, Table 13-2). -/
def lightEncode (d : Nat) : Nat :=
  let c0 := parityOf d 0x5B
  let c1 := parityOf d 0x6D
  let c2 := parityOf d 0x8E
  let c3 := parityOf d 0xF0
  c0 + 2 * c1 + 4 * bits d 0 1 + 8 * c2 + 16 * bits d 1 3 + 128 * c3 + 256 * bits d 4 4

/-- The data bits of 12 stored bits. -/
def lightData (w : Nat) : Nat := bits w 2 1 + 2 * bits w 4 3 + 16 * bits w 8 4

/-- The syndrome: exclusive-or of the positions of the set bits (R361). -/
def lightSyndrome (w : Nat) : Nat := (List.range 12).foldl (fun s i => if bit w i then s ^^^ (i + 1) else s) 0

/-- What a read of a stored byte gives: clean or corrected data, and whether it was corrected; or the byte is flagged (R361). -/
inductive LightRead where
  | clean (d : Nat)
  | fixed (d : Nat)
  | flagged (d : Nat)
  deriving DecidableEq, Repr, Inhabited

/-- A read of 12 stored bits (R361). -/
def lightDecode (w : Nat) : LightRead :=
  let s := lightSyndrome w
  if s = 0 then .clean (lightData w)
  else if s ≤ 12 then .fixed (lightData (w ^^^ 2 ^ (s - 1)))
  else .flagged (lightData w)

/-- The value read, flagged or not. -/
def LightRead.value : LightRead → Nat
  | .clean d => d
  | .fixed d => d
  | .flagged d => d

/-- The byte is flagged. -/
def LightRead.isFlagged : LightRead → Bool
  | .flagged _ => true
  | _ => false

/-- The byte was corrected. -/
def LightRead.isFixed : LightRead → Bool
  | .fixed _ => true
  | _ => false

/-! ### GF(2⁸) on 0x11D (R362) -/

/-- Multiplication by x. -/
def gfTimes2 (a : Nat) : Nat := if a < 128 then 2 * a else (2 * a % 256) ^^^ 0x1D

/-- Product, over the bits of the second factor from the lowest. -/
def gfMulFrom : Nat → Nat → Nat → Nat
  | 0, _, _ => 0
  | n + 1, a, b => (if b % 2 = 1 then a else 0) ^^^ gfMulFrom n (gfTimes2 a) (b / 2)

/-- Product of two field elements. -/
def gfMul (a b : Nat) : Nat := gfMulFrom 8 a b

/-- Power of a field element. -/
def gfPow (a : Nat) : Nat → Nat
  | 0 => 1
  | n + 1 => gfMul a (gfPow a n)

/-- Inverse, as the 254th power; 0 for 0. -/
def gfInv (a : Nat) : Nat := gfPow a 254

/-- Quotient. -/
def gfDiv (a b : Nat) : Nat := gfMul a (gfInv b)

/-! ### The strong code of a page (R362, R364) -/

/-- C0 and C1 of one interleave's 256 bytes (R362). -/
def strongSymbols (d : List Nat) : Nat × Nat :=
  d.zipIdx.foldl (fun c x => (c.1 ^^^ x.1, c.2 ^^^ gfMul x.1 x.2)) (0, 0)

/-- The bytes of interleave `t` of a page. -/
def interleave {α : Type} [Inhabited α] (page : List α) (t : Nat) : List α := (List.range 256).map fun i => at! page (16 * i + t)

/-- The 32 check symbols of a page's data, side byte order (R362). -/
def pageChecks (page : List Nat) : List Nat :=
  (List.range 16).flatMap fun t => (let c := strongSymbols (interleave page t); [c.1, c.2])

/-- Corrections of one interleave: positions and their exclusive-or, or none when it is unresolved (R364). `f` holds the flagged
positions. -/
def strongDecode (c0 c1 : Nat) (d : List Nat) (f : List Nat) : Option (List (Nat × Nat)) :=
  let c := strongSymbols d
  let s0 := c.1 ^^^ c0
  let s1 := c.2 ^^^ c1
  match f with
  | [] => if s0 = 0 ∧ s1 = 0 then some [] else if s0 ≠ 0 then some [(gfDiv s1 s0, s0)] else none
  | [i] => if s1 = gfMul s0 i then some [(i, s0)] else none
  | [i, j] =>
    let ej := gfDiv (s1 ^^^ gfMul s0 i) (i ^^^ j)
    some [(i, s0 ^^^ ej), (j, ej)]
  | _ => none

/-! ### The Cellar line (R374) -/

/-- Value of a polynomial, highest-degree coefficient first. -/
def polyEval (p : List Nat) (x : Nat) : Nat := p.foldl (fun a c => gfMul a x ^^^ c) 0

/-- Product of a polynomial, highest degree first, and (x + r). -/
def polyTimesRoot (p : List Nat) (r : Nat) : List Nat :=
  (p ++ [0]).zipWith (fun a b => a ^^^ b) (0 :: p.map (gfMul r))

/-- α = 0x02 to the power n. -/
def alpha (n : Nat) : Nat := gfPow 2 n

/-- The generator of degree 20 with roots α⁰ to α¹⁹, highest degree first (R374). -/
def rsGenerator : List Nat := (List.range 20).foldl (fun p i => polyTimesRoot p (alpha i)) [1]

/-- One step of the division by the generator: the remainder register of 20 bytes, highest degree first. -/
def rsStep (g : List Nat) (reg : List Nat) (d : Nat) : List Nat :=
  let q := d ^^^ reg.headD 0
  (reg.drop 1 ++ [0]).zipWith (fun a b => a ^^^ gfMul q b) (g.drop 1)

/-- The 20 check bytes of a line's 108 data bytes (R374). -/
def rsCheck (data : List Nat) : List Nat := let g := rsGenerator; data.foldl (rsStep g) (List.replicate 20 0)

/-- The 128 bytes of a line (R374, Table 13-5). -/
def rsEncode (data : List Nat) : List Nat := data ++ rsCheck data

/-- Syndromes S_0 to S_19 of a line. -/
def rsSyndromes (line : List Nat) : List Nat := (List.range 20).map fun i => polyEval line (alpha i)

/-- Coefficient `i` of a polynomial, lowest degree first. -/
def coef (p : List Nat) (i : Nat) : Nat := p.getD i 0

/-- Sum of two polynomials, lowest degree first. -/
def polyAdd (a b : List Nat) : List Nat := (List.range (max a.length b.length)).map fun i => coef a i ^^^ coef b i

/-- Berlekamp–Massey: the error locator, lowest degree first, and the number of errors. -/
def rsLocatorFrom (s : List Nat) : Nat → Nat → List Nat → List Nat → Nat → Nat → Nat → List Nat × Nat
  | 0, _, c, _, l, _, _ => (c, l)
  | fuel + 1, n, c, b, l, m, bb =>
    let delta := (List.range (l + 1)).foldl (fun d i => d ^^^ gfMul (coef c i) (if i ≤ n then coef s (n - i) else 0)) 0
    if delta = 0 then rsLocatorFrom s fuel (n + 1) c b l (m + 1) bb
    else
      let k := gfDiv delta bb
      let c' := polyAdd c (List.replicate m 0 ++ b.map (gfMul k))
      if 2 * l ≤ n then rsLocatorFrom s fuel (n + 1) c' c (n + 1 - l) 1 delta
      else rsLocatorFrom s fuel (n + 1) c' b l (m + 1) bb

/-- The error locator of 20 syndromes and the number of errors. -/
def rsLocator (s : List Nat) : List Nat × Nat := rsLocatorFrom s 20 0 [1] [1] 0 1 1

/-- A read of a line: its corrected bytes and the positions corrected, or none when it is uncorrectable (R374). -/
def rsDecode (line : List Nat) : Option (List Nat × List Nat) :=
  let s := rsSyndromes line
  if s.all (· == 0) then some (line, [])
  else
    let (lam, l) := rsLocator s
    let positions := (List.range 128).filter fun j => polyEval lam.reverse (gfInv (alpha (127 - j))) == 0
    if l = 0 ∨ 10 < l ∨ positions.length ≠ l then none
    else
      let omega := (List.range 20).map fun i => (List.range (i + 1)).foldl (fun a k => a ^^^ gfMul (coef s (i - k)) (coef lam k)) 0
      let deriv := (List.range lam.length).map fun i => if i % 2 = 0 then coef lam (i + 1) else 0
      let fix := fun (j : Nat) =>
        let x := alpha (127 - j)
        gfMul x (gfDiv (polyEval omega.reverse (gfInv x)) (polyEval deriv.reverse (gfInv x)))
      let out := line.zipIdx.map fun (b, j) => if positions.contains j then b ^^^ fix j else b
      if (rsSyndromes out).all (· == 0) then some (out, positions) else none

end Sys2Proof.Machine
end

