-- ==== Sys2Proof/Machine/Outputs.lean ====
section
/-! DEFINITION. SDI outputs and display heads (09_outputs_and_display.md R255 to R275). -/

namespace Sys2Proof.Machine

open Sys2Proof

/-! ### Frame buffers (R255 to R258) -/

/-- A free buffer: neither scanned nor pending (R257). -/
def FrameBufs.free? (b : FrameBufs) : Option Nat := (List.range 3).find? fun k => b.scanned != some k && b.pend != some k

/-- Buffer `k` becomes pending; whether a frame that was pending is dropped (R257). -/
def FrameBufs.commit (b : FrameBufs) (k : Nat) (f : BufFrame) : FrameBufs × Bool :=
  ({ b with bufs := b.bufs.set k (some f), pend := some k, written := match b.pend with
    | some o => b.written.set o false
    | none => b.written }, b.pend.isSome)

/-- The latch's effect on the roles, and whether the frame repeats (R258). -/
def FrameBufs.latch (b : FrameBufs) : FrameBufs × Bool :=
  match b.pend with
  | some k => ({ b with scanned := some k, pend := none, written := match b.scanned with
    | some o => b.written.set o false
    | none => b.written }, false)
  | none => (b, b.scanned.isSome)

/-- The roles at START: no buffer is scanned or pending, and what the host has written into free buffers stays (R258, R272, log 47). -/
def FrameBufs.restart (b : FrameBufs) : FrameBufs :=
  { b with scanned := none, pend := none, written := b.written.zipIdx.map fun (w, k) => w && b.scanned != some k && b.pend != some k }

/-- The frame in the scanned buffer. -/
def FrameBufs.view (b : FrameBufs) : Option BufFrame := b.scanned.bind fun k => at! b.bufs k

/-- INSTANCE of the display pair in the events that name an output (log 47). -/
def dispInst : Nat := 4

/-- Arguments of an event of an output: an SDI entry carries the output number and OFRAME, a display entry DFRAME (R275). -/
def outArgs (out frame : Nat) (l : List Nat) : List Nat := (if out = dispInst then [frame] else [out, frame]) ++ l

/-- A repeat or drop of an output is counted, and reported at most once per second (R261). -/
def countRepeat (out frame : Nat) : State → State := raiseLimited (ms 1000) 155 out fun n => outArgs out frame [n]
def countDrop (out frame : Nat) : State → State := raiseLimited (ms 1000) 156 out fun n => outArgs out frame [n]

/-! ### Re-phasing (R263) -/

/-- Lines added (positive) or removed at a latch after steps of `step` ticks, and whether a frame is dropped: T is
`num`/`den` ticks, of `total` lines, `blank` of them in the vertical blanking. A step back lengthens the blanking. A step forward shortens
it while one line stays; else a frame is dropped and the blanking reaches to the alignment after it (R263, log 47). -/
def rephase (step : Int) (num den total blank : Nat) : Int × Bool :=
  let lines := fun (x : Nat) => x * total / max 1 num
  let part := step.natAbs * den % max 1 num
  if step < 0 then ((lines part : Nat), false)
  else if lines part + 1 ≤ blank then (-(lines part : Int), false)
  else ((lines (num - part) : Nat), true)

/-! ### Time code (R267) -/

/-- Frames since the SMPTE epoch at a reading. -/
def framesSince (reading : Nat) (phase : Int) (num den : Nat) : Int := (((reading : Int) - phase) * num * 2 + 1000000000 * den) / (2 * 1000000000 * den)

/-- Hours, minutes, seconds, frames and pair flag of a frame count (ST 12-1; PRESUMED, log 47). -/
def timecodeOf (n : Int) (num den : Nat) (df : Bool) : Nat × Nat × Nat × Nat × Bool :=
  let fps := (num + den / 2) / max 1 den
  let pair := decide (30 < fps)
  let k := if pair then n / 2 else n
  let f := if pair then fps / 2 else fps
  let k := if df then
      let d := k / 17982
      let m := k % 17982
      k + 18 * d + (if m < 2 then 0 else 2 * ((m - 2) / 1798))
    else k
  let day := (k % (86400 * f : Nat)).toNat
  (day / f / 3600, day / f / 60 % 60, day / f % 60, day % f, pair && n % 2 == 1)

/-! ### SDI outputs (R260 to R268, R275) -/

/-- Change output `n`. -/
def State.setSdi (s : State) (n : Nat) (f : Sdi → Sdi) : State := { s with sdi := upd s.sdi n f }

/-- Number of the next frame of an SDI output. -/
def Sdi.nextFrame (o : Sdi) : Nat := if o.st == .running then wrap 32 (o.oframe + 1) else 0

/-- The slot bound to a destination in the active plans. -/
def State.boundSlot (s : State) (kind : Nat) (mine : Nat → Bool) : Option GraphSlot :=
  (s.activePlans.flatMap fun p => p.enabled.map fun k => p.graph.getD k default).find? fun g => g.destKind == kind && mine g.destId

/-- Lines of an SDI frame (PRESUMED from the SMPTE rasters, log 47). -/
def sdiLines (raster : Nat) : Nat := let (_, h) := rasterSize raster; h + h / 24

/-- The latch of an SDI output (R258, R260, R263, R264, R267, R275). -/
def latchSdi (n : Nat) (s : State) : State :=
  let o := at! s.sdi n
  if o.st == .stopped then s
  else if o.stopping then
    let s1 := raise 153 n [n, o.oframe] none (s.setSdi n fun o => { o with
      st := .stopped, stopping := false, shown := none, timecode := none, black := false, step := 0, spoiled := [] })
    match o.restart with
    | some e =>
      let s2 := s1.setSdi n fun o => { o with entry := e, tcOffset := e.tcOffset, restart := none, bufs := o.bufs.restart }
      if e.mode = 0 then s2 else s2.setSdi n fun o => { o with st := .starting }
    | none => s1
  else
    let (num, den) := sdiRate o.entry.rate
    let first := o.st == .starting
    let phased := o.step != 0 && !first
    let (lines, dropped) := if !phased then (0, false)
      else rephase o.step (1000000000 * den) num (sdiLines o.entry.raster) (sdiLines o.entry.raster - (rasterSize o.entry.raster).2)
    let (b, rep) := o.bufs.latch
    let tc := o.tcNext.getD o.tcOffset
    let frame := o.nextFrame
    let g := (s.boundSlot 0 (· == n)).getD default
    let s1 := s.setSdi n fun o => { o with
      st := .running, oframe := frame, bufs := b, shown := b.view, isRepeat := rep, black := false, step := 0, spoiled := []
      tcOffset := tc, tcNext := none, transfer := g.tf % 3, bt2020 := g.ycc == 2
      timecode := if o.entry.tcOn then some (timecodeOf (framesSince s.reading o.entry.phase num den + tc) num den o.entry.df) else none
      counts := { o.counts with
        repeats := wrap 32 (o.counts.repeats + b2n rep), drops := wrap 32 (o.counts.drops + b2n dropped) } }
    let s2 := if first then raise 152 n [n, frame] none s1 else s1
    let s3 := if rep then countRepeat n frame s2 else s2
    let s4 := if dropped then countDrop n frame s3 else s3
    if phased then raise 157 n (outArgs n frame [ofInt 32 lines]) none s4 else s4

/-- A rendition frame is complete in a free buffer of an SDI output (R257, R258). -/
def commitSdi (n : Nat) (t : Ticket) (planes : List (List Nat)) (s : State) : State :=
  let o := at! s.sdi n
  match o.bufs.free? with
  | none => s
  | some k =>
    let (b, drop) := o.bufs.commit k { frame := t.frame, ticket := t, planes := planes, shownAt := o.nextFrame }
    let s1 := s.setSdi n fun o => { o with bufs := b, counts := { o.counts with drops := wrap 32 (o.counts.drops + b2n drop) } }
    if drop then countDrop n o.oframe s1 else s1

/-- SDI_UNDERRUN (R268): the rest of the frame is black. The line is not part of the event's arrival (log 47). -/
def doSdiUnderrun (n : Nat) (s : State) : State :=
  let o := at! s.sdi n
  if o.st != .running || o.black then s
  else
    let (k, s) := s.takeFree
    raise 154 n [n, o.oframe, Config.freeBits 16 k] none
      (s.setSdi n fun o => { o with black := true, counts := { o.counts with underruns := wrap 32 (o.counts.underruns + 1) } })

/-- OUTPUT.START (R275): the entry of the active plan. -/
def doOutputStart (d : Nat) (s : State) : State :=
  drawerCmd d 0x0701 s fun c =>
    let n := c.w 0
    checked d c 4 [(decide (3 < n), 0)] s fun s =>
      match s.activePlans.find? fun p => (p.sdi.getD n default).mode != 0 with
      | none => fail d Status.notPermitted s
      | some p =>
        let e := p.sdi.getD n default
        let o := at! s.sdi n
        let s1 := if o.st == .stopped then s.setSdi n fun o => { o with
              st := .starting, entry := e, tcOffset := o.tcNext.getD e.tcOffset, tcNext := none, bufs := o.bufs.restart, stopping := false, restart := none }
            else if o.stopping then s.setSdi n fun o => { o with restart := some e } else s
        done d [] s1

/-- OUTPUT.STOP (R275). -/
def doOutputStop (d : Nat) (s : State) : State :=
  drawerCmd d 0x0702 s fun c =>
    let n := c.w 0
    checked d c 4 [(decide (3 < n), 0)] s fun s =>
      done d [] (s.setSdi n fun o => if o.st == .stopped then o else { o with stopping := true, restart := none })

/-- OUTPUT.SET_TIMECODE (R267). -/
def doOutputSetTimecode (d : Nat) (s : State) : State :=
  drawerCmd d 0x0703 s fun c =>
    let n := c.w 0
    checked d c 8 [(decide (3 < n), 0)] s fun s => done d [] (s.setSdi n fun o => { o with tcNext := some (toInt 32 (c.w 4)) })

/-- OUTPUT.GET_STATUS (Table 15-11). -/
def doOutputGetStatus (d : Nat) (s : State) : State :=
  drawerCmd d 0x0704 s fun c =>
    let n := c.w 0
    checked d c 4 [(decide (3 < n), 0)] s fun s =>
      let o := at! s.sdi n
      done d (le 4 (b2n (o.st == .running)) ++ le 4 o.oframe ++ le 4 (b2n (!s.time.synced)) ++ le 4 o.counts.repeats ++ le 4 o.counts.drops ++
        le 4 o.counts.underruns) s

/-! ### Display heads (R269 to R274) -/

/-- Change head `h`. -/
def State.setHead (s : State) (h : Nat) (f : Head → Head) : State := { s with disp := { s.disp with heads := upd s.disp.heads h f } }

/-- Head `h`. -/
def State.head (s : State) (h : Nat) : Head := at! s.disp.heads h

/-- Number of the pair's next frame. -/
def Display.nextFrame (d : Display) : Nat := if d.st == .running then wrap 32 (d.dframe + 1) else 0

/-- An event of the display pair that SET_EVENTS can mask (R274). -/
def raiseDisp (b num : Nat) (args : List Nat) (s : State) : State := if bit s.disp.mask b then s else raise num 0 args none s

/-- The source FRAME that a head shows. -/
def Head.frame (h : Head) : Nat := (h.shown.map (·.frame)).getD 0

/-- Heads with HPD that have not trained stay dark (R271). -/
def trainFails (s : State) : State :=
  (List.range 2).foldl (fun s h =>
    let x := s.head h
    if x.hpd && !x.up && !x.rejoin then raise 164 h [s.disp.dframe] none s else s) { s with disp := { s.disp with training := false } }

/-- The latch of the display pair (R258, R260, R263, R264, R271, R273, R274). -/
def latchDisp (s : State) : State :=
  let p := s.disp
  if p.st == .stopped then s
  else if p.stopping then
    let s1 := { s with disp := { p with
      st := .stopped, stopping := false, training := false, step := 0
      heads := p.heads.map fun h => { h with up := false, rejoin := false, retrain := false, shown := none, border := false, underrun := false, spoiled := [] } } }
    match p.restart with
    | some e =>
      let s2 := { s1 with disp := { s1.disp with
        entry := e, restart := none, lineMatch := e.lineMatch, lineNext := none, heads := s1.disp.heads.map fun h => { h with bufs := h.bufs.restart } } }
      if e.enable then { s2 with disp := { s2.disp with st := .starting, training := true, trainStart := s.now } } else s2
    | none => s1
  else if p.st == .starting && p.training && decide (s.now < p.trainStart + ms 100) then s
  else
    let s := if p.training then trainFails s else s
    let e := p.entry
    let first := p.st == .starting
    let phased := p.step != 0 && !first
    let (lines, dropped) := if !phased then (0, false)
      else rephase p.step (1000000000 * e.fpsDen) e.fpsNum e.vTotal (e.vFront + e.vSync + e.vBack)
    -- no head takes a new buffer, and one scans its own again (log 47)
    let rep := p.heads.all (·.bufs.pend.isNone) && p.heads.any (·.bufs.scanned.isSome)
    let frame := p.nextFrame
    let g := (s.boundSlot 1 fun _ => true).getD default
    let joined := (List.range 2).filter fun h => (s.head h).rejoin
    let s1 := { s with disp := { s.disp with
      st := .running, dframe := frame, isRepeat := rep, step := 0, lineMatch := p.lineNext.getD p.lineMatch, lineNext := none
      eotf := g.tf % 3, bt2020 := g.tf == 1 || g.tf == 2, fullRange := g.fullRange
      counts := { p.counts with repeats := wrap 32 (p.counts.repeats + b2n rep), drops := wrap 32 (p.counts.drops + b2n dropped) }
      heads := s.disp.heads.map fun h => { h with
        bufs := h.bufs.latch.1, shown := h.bufs.latch.1.view, border := false, underrun := false, spoiled := [], up := h.up || h.rejoin, rejoin := false } } }
    let s2 := joined.foldl (fun s h => raise 162 h [frame] none s) s1
    let s3 := if rep then countRepeat dispInst frame s2 else s2
    let s4 := if dropped then countDrop dispInst frame s3 else s3
    let s5 := if phased then raise 157 dispInst (outArgs dispInst frame [ofInt 32 lines]) none s4 else s4
    raiseDisp 0 158 [frame, (s5.head 0).frame, (s5.head 1).frame] s5

/-- LATCH (R258, R259). -/
def doLatch (out : OutputId) (s : State) : State :=
  match out with
  | .sdi n => latchSdi n s
  | .display => latchDisp s

/-- A commit on the given heads; the frames that were pending are dropped (R257). -/
def commitHeads (l : List (Nat × Nat × BufFrame)) (s : State) : State :=
  let drop := l.any fun (h, _, _) => (s.head h).bufs.pend.isSome
  let s1 := l.foldl (fun s (h, k, f) => s.setHead h fun x => { x with bufs := (x.bufs.commit k { f with shownAt := s.disp.nextFrame }).1 }) s
  let s2 := { s1 with disp := { s1.disp with counts := { s1.disp.counts with drops := wrap 32 (s1.disp.counts.drops + b2n drop) } } }
  if drop then countDrop dispInst s2.disp.dframe s2 else s2

/-- The display entry that commands go by: the one in force, or before DISPLAY.START that of the active plan (R265). -/
def State.dispEntry (s : State) : DispEntry :=
  if s.disp.st == .stopped then ((s.activePlans.find? (·.display.enable)).map (·.display)).getD s.disp.entry else s.disp.entry

/-- A pixel of a display buffer (R256). -/
def dispPixel (r g b : Nat) : Nat := r % 1024 + 1024 * (g % 1024) + 1048576 * (b % 1024)

/-- A rendition frame is complete in free buffers of the display (R255, R257). -/
def commitDisp (dest : Nat) (t : Ticket) (w : Nat) (planes : List (List Nat)) (s : State) : State :=
  let px := ((at! planes 0).zip ((at! planes 1).zip (at! planes 2))).map fun (r, g, b) => dispPixel r g b
  let half := s.dispEntry.hActive
  let part := fun (right : Bool) => (px.zipIdx.filter fun (_, i) => right == decide (half ≤ i % max 1 w)).map (·.1)
  let mk := fun (h : Nat) (p : List Nat) => ((s.head h).bufs.free?).map fun k => (h, k, ({ frame := t.frame, ticket := t, planes := [p] } : BufFrame))
  let left := b2n s.disp.entry.swap
  commitHeads ((if dest = 2 then [mk left (part false), mk (1 - left) (part true)] else [mk dest px]).filterMap id) s

/-- DISP_UNDERRUN (R273). -/
def doDispUnderrun (head : Nat) (s : State) : State :=
  if s.disp.st != .running || (s.head head).border || decide (1 < head) then s
  else
    let (k, s) := s.takeFree
    let s1 := s.setHead head fun h => { h with border := true, underrun := true }
    raise 161 head [s.disp.dframe, Config.freeBits 16 k] none
      { s1 with disp := { s1.disp with counts := { s1.disp.counts with underruns := wrap 32 (s1.disp.counts.underruns + 1) } } }

/-- LINE_MATCH (R274). -/
def doLineMatch (s : State) : State := if s.disp.st == .running then raiseDisp 1 159 [s.disp.dframe] s else s

/-- FRAME_DONE (R274). -/
def doFrameDone (s : State) : State :=
  if s.disp.st == .running then
    let f := if (s.head 0).shown.isSome then (s.head 0).frame else (s.head 1).frame
    raiseDisp 2 160 [s.disp.dframe, f, b2n s.disp.isRepeat, b2n (s.head 0).underrun + 2 * b2n (s.head 1).underrun] s
  else s

/-- DISPLAY.START (R271). -/
def doDisplayStart (d : Nat) (s : State) : State :=
  drawerCmd d 0x0801 s fun c => checked d c 0 [] s fun s =>
    match s.activePlans.find? (·.display.enable) with
    | none => fail d Status.notPermitted s
    | some p =>
      if s.disp.st == .stopped then
        done d [] { s with disp := { s.disp with
          st := .starting, training := true, trainStart := s.now, entry := p.display, lineMatch := p.display.lineMatch
          stopping := false, restart := none, heads := s.disp.heads.map fun h => { h with bufs := h.bufs.restart, up := false, rejoin := false, retrain := false } } }
      else if s.disp.stopping then done d [] { s with disp := { s.disp with restart := some p.display } }
      else done d [] s

/-- DISPLAY.STOP. -/
def doDisplayStop (d : Nat) (s : State) : State :=
  drawerCmd d 0x0802 s fun c => checked d c 0 [] s fun s =>
    done d [] (if s.disp.st == .stopped then s else { s with disp := { s.disp with stopping := true, restart := none } })

/-- DISPLAY_TRAINING_END (R271): the outcome of the training in progress on each head. -/
def doDisplayTrainingEnd (a b : Bool) (s : State) : State :=
  if s.disp.st == .stopped then s
  else if s.disp.training then
    let s1 := [(0, a), (1, b)].foldl (fun s ((h, ok) : Nat × Bool) => s.setHead h fun x => { x with up := x.hpd && ok }) s
    trainFails s1
  else [(0, a), (1, b)].foldl (fun s ((h, ok) : Nat × Bool) =>
      if !(s.head h).retrain then s
      else
        let s1 := s.setHead h fun x => { x with retrain := false, rejoin := ok }
        if ok then s1 else raise 164 h [s.disp.dframe] none s1) s

/-- HPD_DEASSERT (R271). -/
def doHpdDeassert (head : Nat) (s : State) : State :=
  let x := s.head head
  let s1 := s.setHead head fun h => { h with hpd := false, up := false, rejoin := false, retrain := false, edid := [] }
  if x.hpd then raise 163 head [s.disp.dframe] none s1 else s1

/-- HPD_ASSERT (R271): the sink's capabilities are read over AUX, and the head retrains. -/
def doHpdAssert (head : Nat) (edid : Bytes) (s : State) : State :=
  s.setHead head fun h => { h with hpd := true, edid := edid, retrain := s.disp.st == .running }

/-- HPD_IRQ (R271). -/
def doHpdIrq (head : Nat) (linkOk : Bool) (s : State) : State :=
  if !(s.head head).hpd then s
  else
    let s1 := raise 165 head [s.disp.dframe] none s
    if linkOk || !(s.head head).up then s1 else s1.setHead head fun h => { h with up := false, retrain := true }

/-- A rendition is bound to the display in an active plan (R272). -/
def dispBusy (s : State) : Bool := (s.boundSlot 1 fun _ => true).isSome

/-- Buffer `b` of a head is scanned or pending. -/
def Head.inUse (h : Head) (b : Nat) : Bool := h.bufs.scanned == some b || h.bufs.pend == some b

/-- DISPLAY.WRITE_BUFFER (R272). -/
def doDisplayWriteBuffer (d : Nat) (s : State) : State :=
  drawerCmd d 0x0803 s fun c =>
    let h := c.w 0
    let b := c.w 4
    let e := s.dispEntry
    let n := e.hActive * e.vActive
    checked d c 24 [(decide (1 < h), 0), (decide (2 < b), 4), (decide (c.q 16 < 4 * n), 16)] s fun s =>
      if dispBusy s || !s.covered (c.q 8) (c.q 16) false then fail d Status.notPermitted s
      else if (s.head h).inUse b then fail d Status.busy s
      else
        let px := (List.range n).map fun i => ofLe (s.hostRead (c.q 8 + 4 * i) 4) % 2 ^ 30
        done d [] (s.setHead h fun x => { x with bufs := { x.bufs with
          bufs := x.bufs.bufs.set b (some { planes := [px] }), written := x.bufs.written.set b true } })

/-- DISPLAY.COMMIT (R272). -/
def doDisplayCommit (d : Nat) (s : State) : State :=
  drawerCmd d 0x0804 s fun c =>
    let b := c.w 0
    checked d c 4 [(decide (2 < b), 0)] s fun s =>
      if dispBusy s then fail d Status.notPermitted s
      else if (s.head 0).inUse b || (s.head 1).inUse b then fail d Status.busy s
      else if !((s.head 0).bufs.written.getD b false && (s.head 1).bufs.written.getD b false) then fail d Status.notPermitted s
      else
        let f := fun h => (at! (s.head h).bufs.bufs b).getD {}
        done d (le 4 s.disp.nextFrame) (commitHeads [(0, b, f 0), (1, b, f 1)] s)

/-- DISPLAY.SET_LINE_MATCH (R274). -/
def doDisplaySetLineMatch (d : Nat) (s : State) : State :=
  drawerCmd d 0x0805 s fun c =>
    checked d c 4 [(decide (s.dispEntry.vActive ≤ c.w 0), 0)] s fun s => done d [] { s with disp := { s.disp with lineNext := some (c.w 0) } }

/-- DISPLAY.SET_EVENTS (R274). -/
def doDisplaySetEvents (d : Nat) (s : State) : State :=
  drawerCmd d 0x0806 s fun c =>
    checked d c 4 [(decide (7 < c.w 0), 0)] s fun s => done d [] { s with disp := { s.disp with mask := c.w 0 } }

/-- DISPLAY.GET_EDID (R271). -/
def doDisplayGetEdid (d : Nat) (s : State) : State :=
  drawerCmd d 0x0807 s fun c =>
    let h := c.w 0
    checked d c 24 [(decide (1 < h), 0)] s fun s =>
      let x := s.head h
      if !x.hpd then fail d Status.notPermitted s
      else withDest d (c.buf 8) x.edid.length s fun s => done d (le 4 x.edid.length) (s.hostWrite (c.q 8) x.edid)

/-! ### The commands -/

def execOutputStart (d : Nat) (s : State) : Out := whenLive s (doOutputStart d)
def execOutputStop (d : Nat) (s : State) : Out := whenLive s (doOutputStop d)
def execOutputSetTimecode (d : Nat) (s : State) : Out := whenLive s (doOutputSetTimecode d)
def execOutputGetStatus (d : Nat) (s : State) : Out := whenLive s (doOutputGetStatus d)
def execLatch (out : OutputId) (s : State) : Out := whenLive s (doLatch out)
def execSdiUnderrun (n : Nat) (s : State) : Out := whenLive s (doSdiUnderrun n)
def execDispUnderrun (head : Nat) (s : State) : Out := whenLive s (doDispUnderrun head)
def execLineMatch (s : State) : Out := whenLive s doLineMatch
def execFrameDone (s : State) : Out := whenLive s doFrameDone
def execDisplayStart (d : Nat) (s : State) : Out := whenLive s (doDisplayStart d)
def execDisplayStop (d : Nat) (s : State) : Out := whenLive s (doDisplayStop d)
def execDisplayWriteBuffer (d : Nat) (s : State) : Out := whenLive s (doDisplayWriteBuffer d)
def execDisplayCommit (d : Nat) (s : State) : Out := whenLive s (doDisplayCommit d)
def execDisplaySetLineMatch (d : Nat) (s : State) : Out := whenLive s (doDisplaySetLineMatch d)
def execDisplaySetEvents (d : Nat) (s : State) : Out := whenLive s (doDisplaySetEvents d)
def execDisplayGetEdid (d : Nat) (s : State) : Out := whenLive s (doDisplayGetEdid d)
def execDisplayTrainingEnd (headA headB : Bool) (s : State) : Out := whenLive s (doDisplayTrainingEnd headA headB)
def execHpdDeassert (head : Nat) (s : State) : Out := whenLive s (doHpdDeassert head)
def execHpdAssert (head : Nat) (edid : Bytes) (s : State) : Out := whenLive s (doHpdAssert head edid)
def execHpdIrq (head : Nat) (linkOk : Bool) (s : State) : Out := whenLive s (doHpdIrq head linkOk)

end Sys2Proof.Machine
end

