-- ==== Sys2Proof/Machine/SafeLoop.lean ====
section
/-! DEFINITION. The safe loop into which firmware falls back (18_bring_up_and_power_states.md R520, R521). -/

namespace Sys2Proof.Machine

open Sys2Proof

/-- Change boot, mode, stage and power. -/
def State.onSys (s : State) (f : SysState → SysState) : State := { s with sys := f s.sys }

/-- A started port stops as SENSOR.STOP stops it, with no Drawer that waits (R521, R524). -/
def stopPort (s : State) (l : Nat) : State :=
  let x := at! s.sensors l
  if !x.started || x.stopping.isSome then s
  else
    let s := s.setSensor l fun x => { x with stopping := some 255 }
    if (s.portPlan l).profile.timing = .lineScan then streamStop l (closeScan l (at! s.ports l).part.expRow s) else s

/-- Every output and the display stop at their next latch (R521, R524). -/
def stopOutputs (s : State) : State :=
  { s with
    sdi := s.sdi.map fun o => if o.st == .stopped then o else { o with stopping := true, restart := none }
    disp := if s.disp.st == .stopped then s.disp else { s.disp with stopping := true, restart := none } }

/-- Nothing that the device goes on with answers to a Drawer any more. -/
def forgetDrawers (s : State) : State :=
  let free := fun (c : BcCmd) => match c.owner with | .drawer _ => { c with owner := .firmware } | _ => c
  let bc := fun (b : BackChan) => { b with waiting := b.waiting.map free, current := b.current.map fun (c, t) => (free c, t) }
  let s := s.store.jobs.foldl (fun s j => releaseAcq j.acq s) s
  let s := (List.range 4).foldl (fun s p => endTest p s) s
  { s with
    sensors := s.sensors.map fun x => { x with
      starting := none, stopping := x.stopping.map fun _ => 255, cal := { x.cal with drawer := none } }
    ports := s.ports.map fun q => { q with bc := bc q.bc }
    shelves := s.shelves.map fun k => { k with writing := none }
    units := { s.units with bench := none }
    mem := { s.mem with training := none }
    store := { s.store with
      jobs := [], resetting := none, clip := s.store.clip.map fun c => { c with drawer := none }
      mounted := s.store.mounted.map fun m => { m with drawer := none } } }

/-- The rules of R299 on every Store queue, without a Drawer that waits for their end (R521). -/
def safeQueues (s : State) : State :=
  (resetQueues s).onStore fun x => { x with
    pairs := x.pairs.map (·.map fun p => if p.sqHead = p.sqTail then { p with resetTo := none } else p) }

/-- Firmware falls back to the safe loop for one of the causes 1 to 4 of Table 18-4 (R520, R521). -/
def safeLoop (cause : Nat) (s : State) : State :=
  let inLoop := s.sys.stage == 1 && !s.sys.bringUp.running
  if s.sys.stage = 0 ∨ inLoop = true then s
  else
    let s := s.onSys fun x => { x with stage := 1, safeCause := cause, bringUp := default, bootCommit := none }
    let s := stopOutputs ((List.range 4).foldl stopPort s)
    let s := forgetDrawers (safeQueues s)
    let s := (List.range s.drawers.length).foldl (fun s d => if (s.drawer d).st == .busy then fail d Status.reset s else s) s
    raise 310 0 [cause] none s

end Sys2Proof.Machine
end

