-- ==== Sys2Proof/Machine/MemoryErrors.lean ====
section
/-! DEFINITION. Contents of the Attic and the Cellar with their codes, and what happens to errors: counting, the log, lasting faults,
repair, and what an uncorrectable error stops (13_attic_and_cellar.md R358 to R378). -/

namespace Sys2Proof.Machine

open Sys2Proof

/-- The state with the memories changed. -/
def State.onMem (f : MemState → MemState) (s : State) : State := { s with mem := f s.mem }

/-! ### Attic contents (R358, R360, R362, R363) -/

/-- The 12 stored bits of an Attic byte. -/
def MemState.word (m : MemState) (a : Nat) : Nat := Sparse.get (fun _ => 0) m.attic a

/-- The memory with 12 stored bits written. -/
def MemState.setWord (m : MemState) (a w : Nat) : MemState := { m with attic := Sparse.set (fun _ => 0) m.attic a w }

/-- The side array of a page. -/
def MemState.side (m : MemState) (p : Nat) : PageSide := Sparse.get (fun _ => default) m.sides p

/-- The memory with a page's side array written. -/
def MemState.setSide (m : MemState) (p : Nat) (x : PageSide) : MemState := { m with sides := Sparse.set (fun _ => default) m.sides p x }

/-- Bytes written from an address upward; each byte's check bits come from the new byte alone (R360). -/
def MemState.storeBytes (m : MemState) (a : Nat) : List Nat → MemState
  | [] => m
  | b :: bs => MemState.storeBytes (m.setWord a (lightEncode b)) (a + 1) bs

/-- A page sealed with fresh check symbols of the data given (R362, R363). -/
def MemState.seal (m : MemState) (p : Nat) (data : List Nat) : MemState :=
  m.setSide p { checks := (pageChecks data).map lightEncode, sealed := true }

/-- One write transfer: the whole page from its first byte seals it, any other write clears SEALED (R363). -/
def MemState.atticWrite (m : MemState) (a : Nat) (data : List Nat) : MemState :=
  let m := m.storeBytes a data
  if a % 4096 = 0 ∧ data.length = 4096 then m.seal (a / 4096) data
  else if data.isEmpty then m
  else m.setSide (a / 4096) {}

/-- What reads of `n` bytes from an address give. -/
def MemState.readWords (m : MemState) (a n : Nat) : List LightRead := (List.range n).map fun i => lightDecode (m.word (a + i))

/-- The outcome of the strong decoding of a page: corrections as byte in the page and new value, and whether every interleave is
resolved (R364). -/
def MemState.pageDecode (m : MemState) (p : Nat) : List (Nat × Nat) × Bool :=
  let bytes := m.readWords (4096 * p) 4096
  let side := (List.range 32).map fun k => lightDecode ((m.side p).checks.getD k 0)
  (List.range 16).foldl (fun (acc : List (Nat × Nat) × Bool) t =>
    let rs := interleave bytes t
    let d := rs.map LightRead.value
    let f := (List.range 256).filter fun i => (at! rs i).isFlagged
    let c0 := at! side (2 * t)
    let c1 := at! side (2 * t + 1)
    if c0.isFlagged || c1.isFlagged then (acc.1, acc.2 && f.isEmpty)
    else match strongDecode c0.value c1.value d f with
      | some l =>
        let fixes := (l.filter fun x => x.2 != 0 || f.contains x.1).map fun x => (16 * x.1 + t, d.getD x.1 0 ^^^ x.2)
        (acc.1 ++ fixes, acc.2)
      | none => (acc.1, false)) ([], true)

/-- The memory with a page's corrections written back (R364). -/
def MemState.writeBack (m : MemState) (p : Nat) (l : List (Nat × Nat)) : MemState :=
  l.foldl (fun m x => m.setWord (4096 * p + x.1) (lightEncode x.2)) m

/-! ### Cellar contents and mapping (R374 to R378) -/

/-- Lines of the configured Cellar (R376). -/
def State.cellarLines (s : State) : Nat := s.sys.ifcCount * s.ifcLines

/-- Interface, interface line address, bank and row of a physical line (R376 to R378). -/
def State.mapLine (s : State) (pa : Nat) : Nat × Nat × Nat × Nat :=
  let n := s.sys.ifcCount
  if n = 12 then
    let u := pa / 4
    let g := u / 12
    let m := match s.mem.order with | 0 => 0 | 1 => 1 | 2 => 5 | _ => 7
    let ia := g * 4 + pa % 4
    let row := ia / 512
    ((u % 12 + m * g) % 12, ia, bits ia 5 4 ^^^ row % 16, row)
  else
    let k := if n = 8 then 3 else 2
    let ia := pa / 2 ^ (k + 2) * 4 + pa % 4
    let row := ia / 512
    let xor := fun (v : Nat) (w : Nat) (masks : List Nat) =>
      (List.range w).foldl (fun v i => v ^^^ parityOf row (masks.getD i 0) * 2 ^ i) v
    (xor (bits pa 2 k) k s.mem.imask, ia, xor (bits ia 5 4) 4 s.mem.bmask, row)

/-- What a line reads as before anything is written: zero bytes, or free content where training or a pattern test overwrote it. -/
def State.lineDefault (s : State) (pa : Nat) : Bytes :=
  match s.mem.fills.find? fun f => (match f.1 with | none => true | some i => i == (s.mapLine pa).1) && decide (f.2.1 ≤ (s.mapLine pa).2.1) && decide ((s.mapLine pa).2.1 ≤ f.2.2.1) with
  | some f => padTo 128 (Config.lineFill f.2.2.2 pa)
  | none => padTo 128 []

/-- A line of the Cellar. -/
def State.line (s : State) (pa : Nat) : Bytes := Sparse.get s.lineDefault s.mem.cellar pa

/-- The state with a line written: 108 data bytes and their check bytes (R374). -/
def State.setLine (s : State) (pa : Nat) (data : Bytes) : State :=
  let l := (rsEncode ((padTo 108 data).map BitVec.toNat)).map (BitVec.ofNat 8)
  s.onMem fun m => { m with cellar := Sparse.set s.lineDefault m.cellar pa l }

/-- Lines of an interface (none: of every one) whose interface line addresses lie in a span are overwritten with free content (R383,
R384). -/
def overwriteLines (ifc : Option Nat) (first last : Nat) (s : State) : State :=
  let (n, s) := s.takeFree
  let hit := fun (pa : Nat) => (match ifc with | none => true | some i => i == (s.mapLine pa).1) && decide (first ≤ (s.mapLine pa).2.1) && decide ((s.mapLine pa).2.1 ≤ last)
  s.onMem fun m => { m with cellar := m.cellar.filter (fun x => !hit x.1), fills := (ifc, first, last, n) :: m.fills }

/-! ### The error log and lasting faults (R368 to R371) -/

/-- Spare rows (or byte columns) of a sub-array in use (R369). -/
def MemState.sparesUsed (m : MemState) (bank sub : Nat) (column : Bool) : Nat :=
  (m.repairs.filter fun r => r.bank == bank && r.sub == sub && r.column == column).length

/-- Field-repair entries used (R371). -/
def MemState.fieldEntries (m : MemState) : Nat := (m.repairs.filter (·.fused)).length + m.badFuses

/-- The bytes of a row or column, through the light code (R371). -/
def MemState.copyLine (m : MemState) (r : Repair) : MemState :=
  let base := r.bank * 2 ^ 23 + r.sub * 2 ^ 19
  let mine := fun (a : Nat) => decide (base ≤ a) && decide (a < base + 2 ^ 19) && (if r.column then a % 512 == r.line else bits a 9 10 == r.line)
  (m.attic.filter fun x => mine x.1).foldl (fun m x => match lightDecode x.2 with
    | .fixed d => m.setWord x.1 (lightEncode d)
    | _ => m) m

/-- A spare is free for a soft repair: of the sub-array, and within 16 soft repairs of the die (R369, R371). -/
def MemState.softRoom (m : MemState) (r : Repair) : Bool :=
  decide (m.sparesUsed r.bank r.sub r.column < (if r.column then 10 else 20)) &&
  decide ((m.repairs.filter fun x => !x.fused && x.bank / 32 == r.bank / 32).length < 16)

/-- A soft repair is switched in (R371). -/
def softRepair (r : Repair) (s : State) : State :=
  if !s.mem.softRoom r then s
  else
    let s := s.onMem fun m => { (m.copyLine r) with
      repairs := m.repairs ++ [r]
      eccLog := m.eccLog.map fun e => if !r.column && e.resource == r.bank && e.addr == r.bank * 16384 + r.sub * 1024 + r.line then { e with repaired := true } else e }
    let s := raise 214 r.bank [0] none s
    if !r.column && s.mem.sparesUsed r.bank r.sub false == 20 then raise 215 r.bank [] none s else s

/-- A row is declared lasting-faulty, and with it a byte column in which four rows of the sub-array have faults (R370, R371). -/
def declareRow (row : Nat) (s : State) : State :=
  let bank := row / 16384
  let sub := row / 1024 % 16
  let mark := fun (e : EccEntry) => if e.resource == bank && e.addr == row then { e with faulty := true } else e
  let s := raise 213 bank [] none (s.onMem fun m => { m with eccLog := m.eccLog.map mark })
  let s := softRepair { bank := bank, sub := sub, line := row % 1024 } s
  let mine := s.mem.eccLog.filter fun e => e.faulty && e.resource == bank && e.addr / 1024 == row / 1024
  let cols := ((mine.filter (·.addr == row)).flatMap (·.cols)).eraseDups
  cols.foldl (fun s c =>
    if 4 ≤ (mine.filter (·.cols.contains c)).length ∧ s.mem.badCols.contains (bank, sub, c) = false then
      softRepair { bank := bank, sub := sub, column := true, line := c }
        (raise 213 bank [] none (s.onMem fun m => { m with badCols := m.badCols ++ [(bank, sub, c)] }))
    else s) s

/-- The log with an event at an address of a resource (R368); the entry's count of consecutive scrub laps (R370). -/
def MemState.logged (m : MemState) (now addr res kind : Nat) (scrub : Bool) (symbols cls : Nat) (cols : List Nat) : List EccEntry :=
  let lap := fun (e : EccEntry) =>
    if !scrub || e.lastLap == m.lap + 1 then e else { e with laps := if e.lastLap = m.lap then e.laps + 1 else 1, lastLap := m.lap + 1 }
  let touch := fun (e : EccEntry) => lap { e with
    last := now, kind := kind, scrub := scrub, count := sat 16 (e.count + 1), symbols := symbols, cls := cls, cols := (e.cols ++ cols).eraseDups }
  if m.eccLog.any fun e => e.addr == addr && e.resource == res then
    m.eccLog.map fun e => if e.addr = addr ∧ e.resource = res then touch e else e
  else
    let e := touch { first := now, addr := addr, resource := res }
    if m.eccLog.length < 32 then m.eccLog ++ [e]
    else
      let worse := fun (a b : EccEntry) => decide (a.count < b.count) || (a.count == b.count && decide (a.last < b.last))
      let victim := m.eccLog.foldl (fun (v : Option EccEntry) x => if x.faulty then v else match v with
        | none => some x
        | some y => if worse x y then some x else some y) none
      match victim with
      | some v => m.eccLog.map fun x => if x.addr = v.addr ∧ x.resource = v.resource then e else x
      | none => m.eccLog

/-- An event is logged, and the row declared when it is time (R368, R370). -/
def logEcc (addr res kind : Nat) (scrub : Bool) (symbols cls : Nat) (cols : List Nat) (s : State) : State :=
  let s := s.onMem fun m => { m with eccLog := m.logged s.reading addr res kind scrub symbols cls cols }
  let due := s.mem.eccLog.any fun e => e.addr == addr && e.resource == res && !e.faulty && (decide (3 ≤ e.laps) || kind == 3)
  if res < 64 ∧ due = true then declareRow addr s else s

/-! ### What an uncorrectable error stops (R372, Table 13-4) -/

/-- The operation that read or wrote ends as Table 13-4 states for its reader. -/
def stopOwner (o : ReqOwner) (s : State) : State :=
  match o with
  | .none => s
  | .drawer d =>
    if s.store.jobs.any (·.drawer == d) then failJob d s
    else if (s.drawer d).st == .busy then fail d Status.mediaError s
    else s
  | .store k cid => complete (qIndex k) cid Status.mediaError 0 0 0xFF s
  | .stage e => s.setEntry e fun x => { x with ticket := { x.ticket with poison := true } }
  | .slice kind number e group tok table => poisonTokens { kind := kind, number := number } e group (some tok) table s
  | .output n line =>
    if n < 4 then (if (at! s.sdi n).shown.isSome then s.setSdi n fun o => { o with spoiled := (o.spoiled ++ [line]).eraseDups } else s)
    else if (s.head (n - 4)).shown.isSome then s.setHead (n - 4) fun h => { h with spoiled := (h.spoiled ++ [line]).eraseDups }
    else s
  | .engine e ctx =>
    let i := 32 * e + ctx
    if (s.ctx i).entry.decode then
      let (n, s) := s.takeFree
      { s with engines := upd s.engines e fun x => { x with cur := x.cur.map fun p => { p with spoiled := p.spoiled ++ [n] } } }
    else s.setCtx i fun c => { c with idrDue := true }
  | .recorder =>
    match s.store.recs.find? fun r => r.st == .accepted && r.writing with
    | none => s
    | some r =>
      let s := loseRec s r
      if r.kind = 1 ∧ r.stream = 8 ∧ (s.store.clip.any (·.num == r.clip)) = true then gapFrames 4 r.frame 1 3 s else s

/-- The controller traps on an uncorrectable error of its own fetch or read, and firmware falls back to the safe loop (R372). -/
def fetchUe (cls : Nat) (s : State) : State := if cls = 7 then safeLoop 1 (raise 216 0 [] none s) else s

/-- An Attic uncorrectable error on a read: counted, logged, announced, and its reader stopped (R367, R370, R372). -/
def atticUe (a cls : Nat) (scrub : Bool) (o : ReqOwner) (s : State) : State :=
  let bank := a / 2 ^ 23
  let s := s.onMem fun m => { m with banks := upd m.banks bank fun b => { b with ue := sat 32 (b.ue + 1) } }
  let s := logEcc (a / 512) bank 3 scrub 0 cls [a % 512] (raise 209 bank [a, cls] none s)
  if scrub then s else fetchUe cls (stopOwner o s)

/-- Attic corrections of a read or a scrub step: light ones and strong ones, by byte address (R367, R368). -/
def atticCe (strong scrub : Bool) (cls : Nat) (l : List Nat) (s : State) : State :=
  match l with
  | [] => s
  | a :: _ =>
    let bank := a / 2 ^ 23
    let n := l.length
    let s := s.onMem fun m => { m with banks := upd m.banks bank fun b =>
      if strong then { b with strongCe := sat 32 (b.strongCe + n) } else { b with lightCe := sat 32 (b.lightCe + n) } }
    let s := raiseLimitedBy (ms 1000) n 208 bank bank (fun k => [k]) s
    let rows := (l.map (· / 512)).eraseDups
    rows.foldl (fun s r =>
      let mine := l.filter fun a => a / 512 == r
      logEcc r bank (if strong then 1 else 0) scrub mine.length cls (mine.map (· % 512)) s) s

/-- The repair of a sealed page in which a read or the scrubber found an error (R364). -/
def repairPage (p cls : Nat) (scrub : Bool) (s : State) : State × Bool :=
  let (l, ok) := s.mem.pageDecode p
  let s := s.onMem fun m => m.writeBack p l
  (atticCe true scrub cls (l.map fun x => 4096 * p + x.1) s, ok)

/-- One read transfer from the Attic: corrected data, or an uncorrectable error (R361, R364, R372). -/
def atticRead (a n cls : Nat) (o : ReqOwner) (s : State) : State :=
  let p := a / 4096
  let flaggedAt := fun (s : State) => (s.mem.readWords a n).zipIdx.find? fun x => x.1.isFlagged
  let deliver := fun (s : State) =>
    let rs := s.mem.readWords a n
    let s := atticCe false false cls ((rs.zipIdx.filter fun x => x.1.isFixed).map fun x => a + x.2) s
    s.onMem fun m => { m with readData := rs.map fun x => BitVec.ofNat 8 x.value }
  match flaggedAt s with
  | none => deliver s
  | some (_, i) =>
    if (s.mem.side p).sealed then
      match repairPage p cls false s with
      | (s, true) => deliver s
      | (s, false) => atticUe (a + i) cls false o (s.onMem fun m => { m with readData := [] })
    else atticUe (a + i) cls false o (s.onMem fun m => { m with readData := [] })

/-- One line read from the Cellar: corrected data, not written back, or an uncorrectable error (R367, R374). -/
def cellarRead (pa cls : Nat) (o : ReqOwner) (s : State) : State :=
  let ifc := (s.mapLine pa).1
  match rsDecode ((s.line pa).map BitVec.toNat) with
  | some (data, fixed) =>
    let s := s.onMem fun m => { m with readData := (data.take 108).map (BitVec.ofNat 8) }
    if fixed.isEmpty then s
    else
      let s := s.onMem fun m => { m with ifcs := upd m.ifcs ifc fun x => { x with lineCe := sat 32 (x.lineCe + 1) } }
      logEcc pa (0x80 + ifc) 2 false fixed.length cls [] (raiseLimited (ms 1000) 210 ifc (fun k => [k]) s)
  | none =>
    let s := s.onMem fun m => { m with readData := [], ifcs := upd m.ifcs ifc fun x => { x with ue := sat 32 (x.ue + 1) } }
    fetchUe cls (stopOwner o (logEcc pa (0x80 + ifc) 3 false 0 cls [] (raise 211 ifc [pa, cls] none s)))

/-- A write descriptor outside the writer's regions is suppressed whole (R248, R393). -/
def boundsFail (r : MemRequest) (s : State) : State :=
  match r.owner with
  | .engine e ctx =>
    let i := 32 * e + ctx
    let c := at! s.ctxs i
    match (at! s.engines e).cur.filter (·.ctx == ctx) with
    | some p =>
      raise 146 i [if c.entry.decode then c.outCount else p.job.input.ticket.frame, c.pic] none
        { s with engines := upd s.engines e fun x => { x with cur := some { p with ended := true } } }
    | none => raise 146 i [] none s
  | o => stopOwner o (raise 223 0 [] none s)

/-- The regions that a writer may write, as first address and length: for a context of an engine its STATE_PAGES and OUT_PAGES, of 38 lines
each (R248, R375); for another writer the region that its request declares, if it does (R393). -/
def MemRequest.regions (r : MemRequest) (s : State) : List (Nat × Nat) :=
  match r.owner with
  | .engine e ctx =>
    let i := 32 * e + ctx
    let h := (at! s.ctxs i).entry
    [(Config.ctxBase i false, 38 * h.statePages), (Config.ctxBase i true, 38 * h.outPages)]
  | _ => match r.region with
    | some x => [x]
    | none => [(0, r.addr + r.length)]

/-- The write lies in one of them. -/
def MemRequest.inBounds (r : MemRequest) (s : State) : Bool :=
  (MemRequest.regions r s).any fun (a, n) => decide (a ≤ r.addr) && decide (r.addr + r.length ≤ a + n)

end Sys2Proof.Machine
end

