-- ==== Sys2Proof/Machine/Memory.lean ====
section
/-! DEFINITION. Arbitration, the Cellar's command slots and refresh, scrubbing, windows and throttles, freeze, training and the memory
commands (13_attic_and_cellar.md R359 to R396). -/

namespace Sys2Proof.Machine

open Sys2Proof

/-! ### Arbitration (R386 to R390) -/

/-- How late a request is at reading `t`: (t − deadline) mod 2⁴⁸ as a signed value (R387). -/
def lateness (deadline t : Nat) : Int := toInt 48 ((t % 2 ^ 48 + 2 ^ 48 - deadline % 2 ^ 48) % 2 ^ 48)

/-- The quota of a class per window on an Attic bank or a Cellar port; `none`: the class has none (R389, Table 13-8). -/
def memQuota (m : MemSec) (cellar : Bool) (cls : Nat) : Option Nat :=
  if cls = 0 then some (if cellar then m.quotaIntakeC else m.quotaIntakeA)
  else if cls = 1 then some (if cellar then m.quotaScanC else m.quotaScanA)
  else none

/-- The deadline of a request (R57, R230, R386): of a row group from its ticket and schedule, of an engine's picture, of an output's line,
or the arrival plus the budget of its class. -/
def State.dueOf (s : State) (r : MemRequest) : Nat := match r.due with
  | .group e c g => match s.entry? e with
    | some x => x.deadline (s.entryPort x).deadlines c g
    | none => 0
  | .picture e => ((at! s.engines e).cur.map (·.deadline)).getD 0
  | .line t => t % 2 ^ 48
  | .arrival t =>
    let m := s.memSec
    (t + (if r.cls = 4 then m.budgetStore else if r.cls = 5 then m.budgetDma else if r.cls = 6 then m.budgetComp else m.budgetFw)) % 2 ^ 48

/-- The order of R387 between two eligible requests at the reading. -/
def reqBefore (s : State) (a b : MemRequest) : Bool :=
  let la := lateness (s.dueOf a) s.reading
  let lb := lateness (s.dueOf b) s.reading
  let rank := fun (r : MemRequest) (l : Int) => if 0 < l then 0 else if r.cls < 2 then 1 else 2
  let ra := rank a la
  let rb := rank b lb
  decide (ra < rb) || (ra == rb && (decide (lb < la) || (la == lb && (decide (a.cls < b.cls) || (a.cls == b.cls && decide (a.unitNo < b.unitNo))))))

/-- The request that an arbiter grants among those eligible (R387). -/
def pickRequest (s : State) : List MemRequest → Option MemRequest
  | [] => none
  | r :: rs => match pickRequest s rs with
    | none => some r
    | some w => if reqBefore s w r then some w else some r

/-- The classes of a resource: bank 0–63, or 0x80 + n for interface n. -/
def MemState.classesOf (m : MemState) (resource : Nat) : List ArbClass :=
  if resource < 64 then (at! m.banks resource).classes else (at! m.ifcs (resource - 128)).classes

/-- The memory with the classes and the parked owner of a resource changed. -/
def MemState.setArbiter (m : MemState) (resource : Nat) (f : List ArbClass → List ArbClass) (p : Option (Nat × Nat)) : MemState :=
  if resource < 64 then { m with banks := upd m.banks resource fun b => { b with classes := f b.classes, parked := p } }
  else { m with ifcs := upd m.ifcs (resource - 128) fun x => { x with classes := f x.classes, parked := p } }

/-- A resource takes grants: it is not frozen, and a Cellar interface is trained, is not in self-refresh and has room for a line
(R379, R391). -/
def MemState.open? (m : MemState) (resource : Nat) : Bool :=
  if resource < 64 then !(at! m.banks resource).frozen
  else
    let x := at! m.ifcs (resource - 128)
    x.trained && !x.frozen && !m.selfRefresh && decide (x.queue.length < 64)

/-- The request's transfer lies on the resource: 1 to 512 bytes in one row of the bank, or a whole page written from its first byte
(R359, R363); a line of the interface (R374). -/
def State.onResource (s : State) (resource : Nat) (r : MemRequest) : Bool :=
  if resource < 64 then
    r.addr / 2 ^ 23 == resource && r.write.all (fun b => b.length == r.length) &&
    ((decide (1 ≤ r.length) && decide (r.addr % 512 + r.length ≤ 512)) || (r.addr % 4096 == 0 && r.length == 4096 && r.write.isSome))
  else (s.mapLine r.addr).1 == resource - 128

/-- The request may be granted: not quota-masked, and on the Cellar not throttled (R381, R387, R389). -/
def State.eligible (s : State) (resource : Nat) (r : MemRequest) : Bool :=
  let cellar := decide (64 ≤ resource)
  let c := at! (s.mem.classesOf resource) r.cls
  decide (r.cls < 8) && s.onResource resource r &&
  (match memQuota s.memSec cellar r.cls with
    | some q => decide (c.inWindow < q)
    | none => true) &&
  !(cellar && (s.mem.throttle.getD r.cls none).isSome)

/-- A granted Attic transfer (R359 to R364, R393). -/
def atticTransfer (r : MemRequest) (s : State) : State :=
  match r.write with
  | some b => if MemRequest.inBounds r s then s.onMem fun m => m.atticWrite r.addr (b.map BitVec.toNat) else boundsFail r s
  | none => atticRead r.addr r.length r.cls r.owner s

/-- A granted line joins its interface's queue (R379, R393). -/
def queueLine (ifc : Nat) (late : Bool) (r : MemRequest) (s : State) : State :=
  if r.write.isSome && !MemRequest.inBounds r s then boundsFail r s
  else
    let (_, _, bank, row) := s.mapLine r.addr
    let l : CellarLine := {
      pa := r.addr, cls := r.cls, deadline := s.dueOf r, late := late, bank := bank, row := row, write := r.write, owner := r.owner }
    s.onMem fun m => { m with ifcs := upd m.ifcs ifc fun x => { x with queue := x.queue ++ [l] } }

/-- The grant of a request: counted, its quota and its miss too, then the transfer (R387 to R390). -/
def grant (resource : Nat) (r : MemRequest) (alone : Bool) (s : State) : State :=
  let cellar := decide (64 ≤ resource)
  let late := decide (0 < lateness (s.dueOf r) s.reading)
  let c := at! (s.mem.classesOf resource) r.cls
  let masked := memQuota s.memSec cellar r.cls == some (c.inWindow + 1)
  let count := fun (c : ArbClass) => { c with
    grants := sat 32 (c.grants + 1), inWindow := c.inWindow + 1
    misses := sat 32 (c.misses + b2n late), maskedWindows := sat 32 (c.maskedWindows + b2n masked) }
  let s := s.onMem fun m => m.setArbiter resource (fun l => upd l r.cls count) (if alone then some (r.cls, r.unitNo) else none)
  let s := if masked then raiseLimitedBy (ms 1000) 1 218 r.cls 0 (fun k => [k]) s else s
  let s := if late then raiseLimitedBy (ms 1000) 1 219 r.cls 0 (fun k => [k]) s else s
  if resource < 64 then atticTransfer r s else queueLine (resource - 128) late r s

/-- A request names a byte or a line that the memory does not have (R358, R376). -/
def State.noSuch (s : State) (resource : Nat) (r : MemRequest) : Bool :=
  if resource < 64 then decide (2 ^ 29 ≤ r.addr) else decide (s.cellarLines ≤ r.addr)

/-- A write to an address that does not exist lies outside every declared region: its descriptor is suppressed whole (R393). -/
def badWrites (resource : Nat) (reqs : List MemRequest) (s : State) : State :=
  (reqs.filter fun r => r.write.isSome && s.noSuch resource r).foldl (fun s r => boundsFail r s) s

/-- ARBITER_GRANT (R387): one decision of an arbiter among the requests present. -/
def doArbiterGrant (resource : Nat) (reqs : List MemRequest) (s : State) : State :=
  if ¬ (resource < 64 ∨ (128 ≤ resource ∧ resource < 140)) ∨ s.mem.open? resource = false then s
  else match pickRequest s (reqs.filter (s.eligible resource)) with
    | none => s
    | some r => grant resource r (decide (reqs.length = 1)) s

/-! ### Cellar command slots (R379 to R382) -/

/-- The state with an interface changed. -/
def State.setIfc (s : State) (i : Nat) (f : CellarIfc → CellarIfc) : State := s.onMem fun m => { m with ifcs := upd m.ifcs i f }

/-- The state with a bank of an interface changed. -/
def State.setCellarBank (s : State) (i b : Nat) (f : CellarBank → CellarBank) : State :=
  s.setIfc i fun x => { x with banks := upd x.banks b f }

/-- One refresh of a bank: it closes the row and pays one owed refresh, and a back-to-back run ends at 0 (R380). A refresh also lowers
the rolling activation count, as JESD209-5 defines (R382). -/
def refreshBank (i b : Nat) (forced : Bool) (s : State) : State :=
  let low := match s.mem.raa with | some (t, _) => t | none => 0
  let s := s.setCellarBank i b fun k => { k with openRow := none, hits := 0, owed := k.owed - 1, burst := !forced && decide (1 < k.owed), raa := k.raa - low }
  let s := s.onMem fun m => { m with refreshes := upd m.refreshes i (· + 1) }
  if forced then s.setIfc i fun x => { x with forced := sat 32 (x.forced + 1) } else s

/-- The queued lines with their places, that a scheduler may serve: a bank in a run of refreshes waits, and so does a row hit after 16
in a row while an older line for another row of the bank waits (R379, R380). -/
def CellarIfc.servable (x : CellarIfc) : List (CellarLine × Nat) :=
  x.queue.zipIdx.filter fun (l, i) =>
    let k := at! x.banks l.bank
    !k.burst && !(k.openRow == some l.row && decide (16 ≤ k.hits) && (x.queue.take i).any fun o => o.bank == l.bank && o.row != l.row)

/-- The line that the scheduler chooses: late ones by deadline, then row hits, then the oldest (R379). -/
def CellarIfc.choose (x : CellarIfc) (t : Nat) : Option (CellarLine × Nat) :=
  let c := x.servable
  let lates := c.filter fun l => l.1.late
  let earliest := lates.foldl (fun (w : Option (CellarLine × Nat)) l => match w with
    | none => some l
    | some v => if lateness v.1.deadline t < lateness l.1.deadline t then some l else some v) none
  match earliest with
  | some l => some l
  | none => match c.find? fun l => (at! x.banks l.1.bank).openRow == some l.1.row with
    | some l => some l
    | none => c.head?

/-- An activation counted for its class, and the class throttled on every interface when it exceeds ACT_LIMIT (R381). -/
def countActivation (i : Nat) (l : CellarLine) (s : State) : State :=
  let s := s.setCellarBank i l.bank fun k => { k with openRow := some l.row, hits := 0, acts := upd k.acts l.cls (· + 1), raa := k.raa + b2n s.mem.raa.isSome }
  if at! (at! (at! s.mem.ifcs i).banks l.bank).acts l.cls = s.memSec.actLimit + 1 then
    raiseLimitedBy (ms 1000) 1 217 l.cls 0 (fun k => [k]) (s.onMem fun m => { m with
      throttle := upd m.throttle l.cls (fun _ => some (s.now + s.memSec.throttle)), throttles := upd m.throttles l.cls fun n => sat 32 (n + 1) })
  else s

/-- A queued line is served: an RFM command first when the bank's activation count demands it, else its activation if its row is
closed, and its transfer (R379, R381, R382). -/
def serveLine (i : Nat) (l : CellarLine) (at' : Nat) (s : State) : State :=
  let x := at! s.mem.ifcs i
  let k := at! x.banks l.bank
  let hit := k.openRow == some l.row
  match s.mem.raa with
  | some (t, m) =>
    if !hit && decide (m ≤ k.raa) then
      (s.setCellarBank i l.bank fun k => { k with raa := k.raa - t }).onMem fun m => { m with rfms := upd m.rfms i (· + 1) }
    else go x hit s
  | none => go x hit s
where
  go (x : CellarIfc) (hit : Bool) (s : State) : State :=
    let older := (x.queue.take at').any fun o => o.bank == l.bank && o.row != l.row
    let s := s.setIfc i fun x => { x with queue := x.queue.eraseIdx at' }
    let s := if hit then s.setCellarBank i l.bank fun k => { k with hits := if older then k.hits + 1 else 0 } else countActivation i l s
    match l.write with
    | some b => s.setLine l.pa b
    | none => cellarRead l.pa l.cls l.owner s

/-- CELLAR_COMMAND_SLOT (R379): a mandatory refresh, a run of refreshes under way, a line, or a refresh of a bank with no line. -/
def doCellarCommandSlot (i : Nat) (s : State) : State :=
  let x := at! s.mem.ifcs i
  let banks := List.range 16
  if 12 ≤ i ∨ x.trained = false ∨ s.mem.selfRefresh = true then s
  else match banks.find? fun b => decide (8 ≤ (at! x.banks b).owed) with
    | some b => refreshBank i b true s
    | none => match banks.find? fun b => (at! x.banks b).burst with
      | some b => refreshBank i b false s
      | none => match x.choose s.reading with
        | some (l, n) => serveLine i l n s
        | none => match banks.find? fun b => decide (0 < (at! x.banks b).owed) && !(x.queue.any fun l => l.bank == b) with
          | some b => refreshBank i b false s
          | none => s

/-- REFRESH_DUE (R380): one more refresh owed; at eight it is mandatory. -/
def doRefreshDue (i b : Nat) (s : State) : State :=
  if 12 ≤ i ∨ 16 ≤ b ∨ (at! s.mem.ifcs i).trained = false ∨ s.mem.selfRefresh = true then s
  else
    let s := (s.setCellarBank i b fun k => { k with owed := k.owed + 1 }).setIfc i fun x => { x with rate := x.rateNext }
    let n := (at! (at! s.mem.ifcs i).banks b).owed
    if n = 8 then raiseLimited (ms 1000) 226 i (fun _ => [n]) s else s

/-- MR4_POLL (R380). -/
def doMr4Poll (i rate : Nat) (s : State) : State :=
  let x := at! s.mem.ifcs i
  if 12 ≤ i ∨ x.trained = false ∨ s.now < x.lastPoll + ms 4 then s
  else
    let r := rate % 32
    let s1 := s.setIfc i fun x => { x with rateNext := r, lastPoll := s.now }
    if r = x.rateNext then s1 else raise 227 i [] none s1

/-- DRIFT_TRACKING (R385). -/
def doDriftTracking (s : State) : State :=
  if s.now < s.mem.lastDrift + ms 16 ∨ (s.mem.ifcs.any (·.trained)) = false then s
  else s.onMem fun m => { m with driftSteps := m.driftSteps + 1, lastDrift := s.now }

/-! ### Scrubbing (R365, R366) -/

/-- The lap's bookkeeping after a bank's step: the pointer, and the end of the lap when every bank has stepped every page (R366). -/
def lapStep (bank : Nat) (s : State) : State :=
  let s := s.onMem fun m => { m with banks := upd m.banks bank fun b => { b with
    ptr := (b.ptr + 1) % 2048, lapDone := b.ptr == 2047, lastStep := some s.now } }
  if s.mem.banks.all (·.lapDone) then
    s.onMem fun m => { m with
      banks := m.banks.map fun b => { b with lapDone := false }
      lap := m.lap + 1, lastLap := s.now - m.lapStart, lapStart := s.now, slowRaised := false }
  else s

/-- What one step does to its page (R365). -/
def scrubPage (p : Nat) (s : State) : State :=
  let rs := (s.mem.readWords (4096 * p) 4096).zipIdx
  let fixes := (rs.filter fun x => x.1.isFixed).map fun x => (x.2, x.1.value)
  let s := s.onMem fun m => m.writeBack p fixes
  let s := atticCe false true 0xFF (fixes.map fun x => 4096 * p + x.1) s
  let x := s.mem.side p
  let s := if x.sealed then
      s.onMem fun m => m.setSide p { x with checks := x.checks.map fun w => match lightDecode w with | .fixed d => lightEncode d | _ => w }
    else s
  let flagged := rs.find? fun x => x.1.isFlagged
  if x.sealed then
    match repairPage p 0xFF true s with
    | (s, true) => s
    | (s, false) => atticUe (4096 * p + (flagged.map (·.2)).getD 0) 0xFF true .none s
  else match flagged with
    | some f => atticUe (4096 * p + f.2) 0xFF true .none s
    | none => s.onMem fun m => m.seal p (rs.map fun x => x.1.value)

/-- SCRUB_STEP (R365, R366): at most one step a bank per 20 µs, none on a frozen bank or on one that has ended its lap. -/
def doScrubStep (bank : Nat) (s : State) : State :=
  let b := at! s.mem.banks bank
  if 64 ≤ bank ∨ b.frozen = true ∨ b.lapDone = true ∨ (b.lastStep.any fun t => decide (s.now < t + us 20)) = true then s
  else lapStep bank (scrubPage (2048 * bank + b.ptr) s)

/-- SCRUB_SLOW (R366): the lap passes 60 s, and the bank has not ended it. -/
def doScrubSlow (bank : Nat) (s : State) : State :=
  if 64 ≤ bank ∨ s.mem.slowRaised = true ∨ (at! s.mem.banks bank).lapDone = true ∨ s.now ≤ s.mem.lapStart + ms 60000 then s
  else raise 212 0 [] none (s.onMem fun m => { m with slowRaised := true })

/-! ### Windows, throttles and acquisitions (R381, R389, R392) -/

/-- ACT_WINDOW_END (R381): a new window begins and every activation count is 0. -/
def doActWindowEnd (s : State) : State :=
  let w := s.reading / s.memSec.actWindow
  if w = s.mem.actWindow then s
  else s.onMem fun m => { m with
    actWindow := w
    ifcs := m.ifcs.map fun x => { x with banks := x.banks.map fun b => { b with acts := List.replicate 8 0 } } }

/-- THROTTLE_EXPIRY (R381). -/
def doThrottleExpiry (cls : Nat) (s : State) : State :=
  match s.mem.throttle.getD cls none with
  | some t => if s.now < t then s else s.onMem fun m => { m with throttle := upd m.throttle cls fun _ => none }
  | none => s

/-- QUOTA_WINDOW_END (R389): a new window begins and every mask is lifted. -/
def doQuotaWindowEnd (s : State) : State :=
  let w := s.reading / s.memSec.qwindow
  let clear := fun (l : List ArbClass) => l.map fun c => { c with inWindow := 0 }
  if w = s.mem.quotaWindow then s
  else s.onMem fun m => { m with
    quotaWindow := w
    banks := m.banks.map fun b => { b with classes := clear b.classes }
    ifcs := m.ifcs.map fun x => { x with classes := clear x.classes } }

/-- ACQUISITION_TIMEOUT (R392): not complete 5 ms after it began, it releases everything and waits. -/
def doAcquisitionTimeout (id : Nat) (s : State) : State :=
  match s.mem.acqs.find? (·.id == id) with
  | none => s
  | some a =>
    if a.complete ∨ a.waiting = true ∨ s.now < a.since + ms 5 then s
    else
      let s := s.setAcq id fun a => { a with gotAttic := false, gotCellar := false, waiting := true, since := s.now }
      let s := s.onMem fun m => { m with acqTimeouts := upd m.acqTimeouts a.cls fun n => sat 32 (n + 1) }
      raiseLimitedBy (ms 1000) 1 222 a.cls 0 (fun k => [k]) s

/-- ACQUISITION_RETRY (R392): 100 µs later it starts again. -/
def doAcquisitionRetry (id : Nat) (s : State) : State :=
  match s.mem.acqs.find? (·.id == id) with
  | none => s
  | some a =>
    if a.waiting = false ∨ s.now < a.since + us 100 then s
    else tryAcquire id (s.setAcq id fun a => { a with waiting := false, since := s.now })

/-! ### Statistics and the log (R366 to R368, R395) -/

/-- The bytes that MEM.GET_STATS writes, in the order of Table 13-9: 32-bit words, the two lap times of 64 bits (log 54). -/
def State.memStats (s : State) : Bytes :=
  let m := s.mem
  let spares := fun (bank : Nat) (column : Bool) => (m.repairs.filter fun r => r.bank == bank && r.column == column).length
  let banks := m.banks.zipIdx.flatMap fun (b, i) =>
    le 4 b.lightCe ++ le 4 b.strongCe ++ le 4 b.ue ++ le 4 (320 - spares i false) ++ le 4 (160 - spares i true)
  let ifcs := m.ifcs.flatMap fun x => le 4 x.lineCe ++ le 4 x.ue ++ le 4 x.forced
  let cls := fun (l : List ArbClass) => l.flatMap fun c => le 4 c.grants ++ le 4 c.misses ++ le 4 c.maskedWindows
  banks ++ ifcs ++ m.banks.flatMap (fun b => cls b.classes) ++ m.ifcs.flatMap (fun x => cls x.classes) ++
  m.throttles.flatMap (le 4) ++ m.acqTimeouts.flatMap (le 4) ++ le 8 m.lastLap ++ le 8 (s.now - m.lapStart) ++ le 4 m.fieldEntries

/-- MEM.GET_STATS: writes the statistics; the error counters read and clear (R395). -/
def doMemGetStats (d : Nat) (s : State) : State :=
  drawerCmd d 0x0E01 s fun c => checked d c 16 [] s fun s =>
    let out := s.memStats
    withDest d (c.buf 0) out.length s fun s =>
      done d [] ((s.hostWrite (c.buf 0).1 out).onMem fun m => { m with
        banks := m.banks.map fun b => { b with lightCe := 0, strongCe := 0, ue := 0 }
        ifcs := m.ifcs.map fun x => { x with lineCe := 0, ue := 0 } })

/-- The 32 bytes of a log entry (Table 13-3). -/
def EccEntry.bytes (e : EccEntry) : Bytes :=
  le 8 e.first ++ le 8 e.last ++ le 4 e.addr ++ le 1 e.resource ++
  le 1 (e.kind % 4 + 4 * b2n e.scrub + 8 * b2n e.faulty + 16 * b2n e.repaired) ++ le 2 e.count ++ le 1 e.symbols ++ le 1 e.cls ++ le 6 0

/-- A log entry put in its place among entries with the newest LAST first. -/
def insertEcc (e : EccEntry) : List EccEntry → List EccEntry
  | [] => [e]
  | x :: r => if x.last < e.last then e :: x :: r else x :: insertEcc e r

/-- MEM.GET_ECC_LOG: 32 entries, newest LAST first; unused entries are zeros (R368, R395). -/
def doMemGetEccLog (d : Nat) (s : State) : State :=
  drawerCmd d 0x0E02 s fun c => checked d c 16 [] s fun s =>
    withDest d (c.buf 0) 1024 s fun s =>
      let l := s.mem.eccLog.foldl (fun l e => insertEcc e l) []
      done d [] (s.hostWrite (c.buf 0).1 (padTo 1024 (l.flatMap EccEntry.bytes)))

/-- MEM.CLEAR_ECC_LOG (R368). -/
def doMemClearEccLog (d : Nat) (s : State) : State :=
  drawerCmd d 0x0E03 s fun c => checked d c 0 [] s fun s => done d [] (s.onMem fun m => { m with eccLog := [] })

/-! ### Repair (R369, R371) -/

/-- One soft repair made permanent with a fuse entry that is read back: the state, and whether the read-back agrees (R371). -/
def blowEntry (r : Repair) (s : State) : State × Bool :=
  let (n, s) := s.takeFree
  let good := Config.freeBool n
  let s := s.onMem fun m =>
    if good then { m with repairs := m.repairs.map fun x => if x = r then { x with fused := true } else x }
    else { m with badFuses := m.badFuses + 1 }
  let s := raise 214 r.bank [b2n (!good)] none s
  (if s.mem.fieldEntries = 28 then raise 215 r.bank [] none s else s, good)

/-- Every pending entry is blown, while entries are free (R371). -/
def blowPending (s : State) : State :=
  (s.mem.repairs.filter fun r => !r.fused).foldl (fun s r => if s.mem.fieldEntries < 32 then (blowEntry r s).1 else s) s

/-- The row or column that MEM.REPAIR names: A[28:9], or with bit 31 set a column as BANK, SUB and COL (log 54). -/
def repairTarget (w : Nat) : Repair :=
  if bit w 31 then { bank := bits w 13 6, sub := bits w 9 4, column := true, line := bits w 0 9 }
  else { bank := bits w 14 6, sub := bits w 10 4, line := bits w 0 10 }

/-- MEM.REPAIR (R371, R395). -/
def doMemRepair (d : Nat) (vddFuse : Bool) (s : State) : State :=
  drawerCmd d 0x0E04 s fun c =>
    let w := c.w 0
    checked d c 8 [(if bit w 31 then bits w 19 12 != 0 else bits w 20 12 != 0, 0), (decide (1 < c.w 4), 4)] s fun s =>
      let r := repairTarget w
      let have? := fun (s : State) => s.mem.repairs.find? fun x => x.bank == r.bank && x.sub == r.sub && x.column == r.column && x.line == r.line
      if c.w 4 = 0 then
        if s.mem.softRoom r then done d [] (softRepair r s) else fail d Status.noSpace s
      else if s.sys.service ∨ vddFuse = false then fail d Status.notPermitted s
      else if (have? s).any (·.fused) ∨ 32 ≤ s.mem.fieldEntries ∨ ((have? s).isNone ∧ s.mem.softRoom r = false) then fail d Status.noSpace s
      else
        let s := if (have? s).isSome then s else softRepair r s
        match have? s with
        | none => fail d Status.noSpace s
        | some x =>
          let (s, good) := blowEntry x s
          let s := blowPending s
          if good then done d [] s else fail d Status.integrity s

/-! ### Training and tests (R376 to R378, R383, R384) -/

/-- MEM.SET_MAPPING (R377): the masks for the next training, in Maintenance mode, before the first MEM.TRAIN, not with 12 interfaces. -/
def doMemSetMapping (d : Nat) (s : State) : State :=
  drawerCmd d 0x0E05 s fun c =>
    let ws := (List.range 7).map fun i => c.w (4 * i)
    let rowBits := (if s.mem.gib = 0 then 2 ^ 27 else s.ifcLines).log2 - 9
    checked d c 28 (ws.zipIdx.map fun (w, i) => (decide (2 ^ rowBits ≤ w), 4 * i)) s fun s =>
      if s.sys.service ∨ s.mem.trainedOnce = true ∨ s.sys.ifcCount = 12 then fail d Status.notPermitted s
      else done d [] (s.onMem fun m => { m with imaskNext := ws.take 3, bmaskNext := ws.drop 3 })

/-- MEM.TRAIN (R383): starts the training of frozen interfaces; the result comes with TRAINING_COMPLETE. -/
def doMemTrain (d : Nat) (s : State) : State :=
  drawerCmd d 0x0E06 s fun c =>
    let mask := c.w 0
    checked d c 8 [(mask == 0 || decide (2 ^ 12 ≤ mask), 0), (decide (3 < c.w 4), 4)] s fun s =>
      let named := maskBits 12 mask
      if s.sys.service ∨ (named.any fun i => decide (s.sys.ifcLimit ≤ i) || decide (s.sys.ifcCount ≤ i) || !(at! s.mem.ifcs i).frozen) = true then
        fail d Status.notPermitted s
      else if s.mem.training.isSome then fail d Status.busy s
      else (s.onMem fun m => { m with training := some { mask := mask, order := c.w 4, drawer := some d }, trainedOnce := true }).begin d

/-- The first step of training that an interface fails, and its DQ (R383): a step that failed, a capacity that no device shows or that
differs, an error of the verification pass, an eye below 16/64 UI. -/
def trainFailure (r : TrainResult) (gib : Nat) : Option (Nat × Nat) :=
  let first := fun (p : Nat × Nat × Nat → Bool) => (r.eyes.zipIdx.find? fun x => p x.1).map (·.2)
  if ([2, 4, 8, 16].contains r.gib && r.gib == gib) = false then some (1, 0)
  else match r.failed with
    | some f => some f
    | none => match first fun e => decide (e.1 < 16) with
      | some q => some (4, q)
      | none => match first fun e => decide (e.2.1 < 16) with
        | some q => some (5, q)
        | none => (first fun e => e.2.2 != 0).map fun q => (6, q)

/-- `k` free values taken at once: the first one's number. -/
def State.takeFrees (s : State) (k : Nat) : Nat × State :=
  (s.sys.free, { s with sys := { s.sys with free := s.sys.free + k } })

/-- The result words of Table 13-6 step 7: per DQ, read eye width and centre, write eye width and centre, and errors; the centres are
free values (log 54). -/
def trainWords (n : Nat) (rs : List TrainResult) : Bytes :=
  (rs.flatMap (·.eyes)).zipIdx.flatMap fun (e, i) =>
    le 4 e.1 ++ le 4 (Config.freeBits 32 (n + 2 * i)) ++ le 4 e.2.1 ++ le 4 (Config.freeBits 32 (n + 2 * i + 1)) ++ le 4 e.2.2

/-- The interfaces that a training names hold trained settings, with a clean queue and no refresh owed. -/
def CellarIfc.trainedNow (x : CellarIfc) (ok : Bool) : CellarIfc :=
  { x with trained := ok, banks := List.replicate 16 default, queue := [] }

/-- The end of a training with what it measured (R4, R373, R377, R378, R383). An interface beyond the ordering code's number fails before any
step measures it, and R383 gives no step and DQ for that: EVT 225 names step 1 and DQ 0, DESIGN CHOICE (log 66). -/
def trainingComplete (results : List TrainResult) (s : State) : State :=
  match s.mem.training with
  | none => s
  | some t =>
    let named := maskBits 12 t.mask
    if results.map (·.ifc) ≠ named ∨ (results.all fun r => r.eyes.length == 32) = false then s
    else
      let others := (s.mem.ifcs.take s.sys.ifcCount).zipIdx.any fun (x, i) => x.trained && !named.contains i
      let gib := if others then s.mem.gib else ((results.head?).map (·.gib)).getD 0
      let bad := results.filterMap fun r =>
        if s.sys.ifcLimit ≤ r.ifc then some (r.ifc, 1, 0) else (trainFailure r gib).map fun f => (r.ifc, f)
      let s := named.foldl (fun s i => overwriteLines (some i) 0 (2 ^ 28 - 1) s) s
      let s := s.onMem fun m => { m with training := none, raa := Config.mr27 }
      let (n, s) := s.takeFrees (64 * results.length)
      let s := match bad.head? with
        | some (i, step, q) =>
          raise 225 i [i, step, q] none (s.onMem fun m => { m with
            passed := false, ifcs := m.ifcs.zipIdx.map fun (x, i) => if named.contains i then x.trainedNow false else x })
        | none =>
          let s1 := s.onMem fun m => { m with
            gib := gib, order := if s.sys.ifcCount = 12 then t.order else m.order
            imask := m.imaskNext, bmask := m.bmaskNext
            ifcs := m.ifcs.zipIdx.map fun (x, i) => if named.contains i then x.trainedNow true else x }
          let moved := s1.mem.gib != s.mem.gib || s1.mem.order != s.mem.order || s1.mem.imask != s.mem.imask || s1.mem.bmask != s.mem.bmask
          let s1 := if moved then overwriteLines none 0 (2 ^ 28 - 1) s1 else s1
          let all := (List.range s.sys.ifcCount).all fun i => (at! s1.mem.ifcs i).trained
          raise 224 0 [] none (s1.onMem fun m => { m with passed := all })
      match t.drawer with
      | some d => begunCmd d 0x0E06 s fun _ => done d (trainWords n results) s
      | none => s

/-- MEM.PATTERN_TEST (R384): generator and compare engine over a span of lines of frozen interfaces; the counters are free values, and
the span is overwritten. -/
def doMemPatternTest (d : Nat) (s : State) : State :=
  drawerCmd d 0x0E07 s fun c =>
    let mask := c.w 0
    let lines := s.ifcLines
    let bad : List (Bool × Nat) := [(mask == 0 || decide (2 ^ 12 ≤ mask), 0), (decide (5 < c.w 4), 4), (decide (lines ≤ c.w 8), 8),
      (c.w 12 == 0 || decide (lines < c.w 8 + c.w 12), 12), (c.w 16 == 0, 16)]
    checked d c 20 bad s fun s =>
      let named := maskBits 12 mask
      if s.sys.service ∨ (named.any fun i => decide (s.sys.ifcCount ≤ i) || !(at! s.mem.ifcs i).frozen || !(at! s.mem.ifcs i).trained) = true then
        fail d Status.notPermitted s
      else if s.mem.training.isSome then fail d Status.busy s
      else
        let s := named.foldl (fun s i => overwriteLines (some i) (c.w 8) (c.w 8 + c.w 12 - 1) s) s
        let (n, s) := s.takeFrees (32 * named.length)
        let out := (List.range named.length).flatMap fun k =>
          (List.range 32).flatMap (fun q => le 4 (Config.freeBits 32 (n + 32 * k + q))) ++ le 8 (sat 48 (c.w 12 * c.w 16))
        done d out s

/-! ### Freeze (R391) -/

/-- The banks and interfaces of a freeze or a thaw, frozen or not. -/
def setFrozen (bankMask ifcMask : Nat) (v : Bool) (s : State) : State :=
  s.onMem fun m => { m with
    banks := m.banks.zipIdx.map fun (b, i) => if bit bankMask i then { b with frozen := v } else b
    ifcs := m.ifcs.zipIdx.map fun (x, i) => if bit ifcMask i then { x with frozen := v } else x }

/-- MEM.FREEZE: effective at acceptance; the result waits for the named resources (R391). -/
def doMemFreeze (d : Nat) (s : State) : State :=
  drawerCmd d 0x0E08 s fun c => checked d c 12 [(bit (c.q 0) 0, 0), (decide (2 ^ 12 ≤ c.w 8), 8)] s fun s =>
    if s.store.clip.isSome then fail d Status.notPermitted s else (setFrozen (c.q 0) (c.w 8) true s).begin d

/-- FREEZE_COMPLETE: every waiting freeze whose interface queues are empty completes (R391). -/
def doFreezeComplete (s : State) : State :=
  (List.range s.drawers.length).foldl (fun s d => begunCmd d 0x0E08 s fun c =>
    if (maskBits 12 (c.w 8)).all fun i => (at! s.mem.ifcs i).queue.isEmpty then raise 220 0 [] none (done d [] s) else s) s

/-- MEM.THAW (R391). -/
def doMemThaw (d : Nat) (s : State) : State :=
  drawerCmd d 0x0E09 s fun c => checked d c 12 [(decide (2 ^ 12 ≤ c.w 8), 8)] s fun s =>
    raise 221 0 [] none (done d [] (setFrozen (c.q 0) (c.w 8) false s))

/-! ### The meanings -/

/-- ARBITER_GRANT faults when a read names an address that does not exist (R358, R376); a write there is suppressed (R393). -/
def execArbiterGrant (resource : Nat) (reqs : List MemRequest) (s : State) : Out :=
  if s.live ∧ (reqs.any fun r => r.write.isNone && s.noSuch resource r) = true then .fault .noSuchAddress
  else whenLive s fun s => doArbiterGrant resource (reqs.filter fun r => !s.noSuch resource r) (badWrites resource reqs s)
def execCellarCommandSlot (ifc : Nat) (s : State) : Out := whenLive s (doCellarCommandSlot ifc)
def execRefreshDue (ifc bank : Nat) (s : State) : Out := whenLive s (doRefreshDue ifc bank)
def execMr4Poll (ifc rate : Nat) (s : State) : Out := whenLive s (doMr4Poll ifc rate)
def execDriftTracking (s : State) : Out := whenLive s doDriftTracking
def execScrubStep (bank : Nat) (s : State) : Out := whenLive s (doScrubStep bank)
def execScrubSlow (bank : Nat) (s : State) : Out := whenLive s (doScrubSlow bank)
def execActWindowEnd (s : State) : Out := whenLive s doActWindowEnd
def execThrottleExpiry (cls : Nat) (s : State) : Out := whenLive s (doThrottleExpiry cls)
def execQuotaWindowEnd (s : State) : Out := whenLive s doQuotaWindowEnd
def execAcquisitionTimeout (id : Nat) (s : State) : Out := whenLive s (doAcquisitionTimeout id)
def execAcquisitionRetry (id : Nat) (s : State) : Out := whenLive s (doAcquisitionRetry id)
def execMemGetStats (d : Nat) (s : State) : Out := whenLive s (doMemGetStats d)
def execMemGetEccLog (d : Nat) (s : State) : Out := whenLive s (doMemGetEccLog d)
def execMemClearEccLog (d : Nat) (s : State) : Out := whenLive s (doMemClearEccLog d)
def execMemRepair (d : Nat) (vddFuse : Bool) (s : State) : Out := whenLive s (doMemRepair d vddFuse)
def execMemSetMapping (d : Nat) (s : State) : Out := whenLive s (doMemSetMapping d)
def execMemTrain (d : Nat) (s : State) : Out := whenLive s (doMemTrain d)
def execMemPatternTest (d : Nat) (s : State) : Out := whenLive s (doMemPatternTest d)
def execMemFreeze (d : Nat) (s : State) : Out := whenLive s (doMemFreeze d)
def execFreezeComplete (s : State) : Out := whenLive s doFreezeComplete
def execMemThaw (d : Nat) (s : State) : Out := whenLive s (doMemThaw d)

end Sys2Proof.Machine
end

