-- ==== Sys2Proof/Machine/Boot.lean ====
section
/-! DEFINITION. Reset, boot, bring-up, the safe loop, modes and power states (18_bring_up_and_power_states.md R511 to R527, R26 to R29,
R307 to R309, R458 to R461), status and buffers (R441), DMA errors (R442), and the steps that reach several chapters' state. -/

namespace Sys2Proof.Machine

open Sys2Proof

/-! ### Cold start and warm reset (R512, R513, R522, R523, R527) -/

/-- Boot, mode, stage and power right after a cold start: fuses and the boot flash keep what they hold (R457, R514), the trip flag
survives (R501), and a PCIe boot begins with empty, volatile slots (R516). -/
def coldSys (bootSel : Bool) (celCfg : Nat) (x : SysState) : SysState :=
  let real := x.aside.getD x.flash.slots
  { bootSel := bootSel, celCfg := celCfg, ordering := x.ordering, rollback := x.rollback, tripFlag := x.tripFlag, free := x.free, drbg := x.drbg
    flash := { x.flash with slots := if bootSel then [[], []] else real }, aside := if bootSel then some real else none }

/-- Records that outlive a cold start: those on the medium, and of those on their way the ones that had reached it (R321); which ones
is a free choice (log 57). -/
def coldRecs (n : Nat) (l : List Rec) : List Rec :=
  l.zipIdx.filterMap fun (r, i) =>
    if r.st == .onMedium || (r.st == .accepted && Config.freeBool (n + i)) then some { r with st := .onMedium, fresh := false } else none

/-- The state right after a cold start: State.reset, with the straps as sampled, what the fuses, the boot flash and the members hold, and
the pins as others drive them (R512, R513, R522). -/
def coldState (bootSel : Bool) (celCfg : Nat) (s : State) : State :=
  let (n, s) := s.takeFrees s.store.recs.length
  { State.reset with
    pending := s.pending, hostMem := s.hostMem, sys := coldSys bootSel celCfg s.sys
    mem := { State.reset.mem with repairs := s.mem.repairs.filter (·.fused), badFuses := s.mem.badFuses }
    store := { State.reset.store with super := s.store.super, recs := coldRecs n s.store.recs }
    ports := s.ports.map fun q => { ck := q.ck }
    disp := { State.reset.disp with heads := s.disp.heads.map fun h => { hpd := h.hpd } } }

/-- The state right after a warm reset (the second column of Table 18-5, R523): records not on the medium are lost, and what the boot
ROM, the unit map, the Chest, the memories and the time base keep stays. -/
def warmState (s : State) : State :=
  { State.reset with
    pending := s.pending, hostMem := s.hostMem
    sys := { coldSys s.sys.bootSel s.sys.celCfg s.sys with
      flash := s.sys.flash, aside := s.sys.aside, rollbackDue := s.sys.rollbackDue, loading := s.sys.image, mrefclk := s.sys.mrefclk, cold := s.sys.cold, runSince := s.now }
    sec := { slots := s.sec.slots, identity := s.sec.identity, entropyBad := s.sec.entropyBad, debugOpen := s.sec.debugOpen, scopes := s.sec.scopes }
    units := { s.units with bench := none }
    therm := { sensors := s.therm.sensors.map fun x => { reading := x.reading, max := x.max, hot := x.hot, ignored := x.ignored } }
    time := { count := s.time.count, offset := s.time.offset, anchor := s.time.anchor, drift := s.time.drift, since := s.reading, sinceCount := s.now,
              refclkBad := s.time.refclkBad }
    mem := { State.reset.mem with
      attic := s.mem.attic, sides := s.mem.sides, cellar := s.mem.cellar, fills := s.mem.fills, lapStart := s.now
      repairs := s.mem.repairs.filter (·.fused), badFuses := s.mem.badFuses }
    store := { State.reset.store with
      super := s.store.super, recs := (s.store.recs.filter (·.st == .onMedium)).map fun r => { r with fresh := false } }
    ports := s.ports.map fun q => { ck := q.ck }
    disp := { State.reset.disp with heads := s.disp.heads.map fun h => { hpd := h.hpd } } }

/-- PORST_N_ASSERT (R512). -/
def doPorstAssert (s : State) : State := s.onSys fun x => { x with held := true }

/-- PORST_N_RELEASE (R512, R513, R501, Table 19-6): a low pulse of at least 10 µs is a cold start, one under 1 µs is ignored, and between
the two the outcome is free. -/
def doPorstRelease (bootSel : Bool) (celCfg lowNs : Nat) (s : State) : State :=
  if !s.sys.held then s
  else
    let ignored := s.onSys fun x => { x with held := false }
    if lowNs < 1000 then ignored
    else if 10000 ≤ lowNs then coldState bootSel (celCfg % 4) s
    else
      let (n, s1) := s.takeFree
      if Config.freeBool n then coldState bootSel (celCfg % 4) s1 else s1.onSys fun x => { x with held := false }

/-- SYSTEM.WARM_RESET (R436, R471, R523, R527): in every stage, mode and power state; in P3 it is the exit from P3. -/
def doSystemWarmReset (d : Nat) (s : State) : State :=
  let x := s.drawer d
  if x.st = .busy ∧ x.begun = false ∧ x.cmd.opcode = 0x0107 then
    checked d x.cmd 0 [] s fun s =>
      if s.sys.pstate = 3 then coldState s.sys.bootSel s.sys.celCfg s else warmState (endAllSessions 2 s)
  else s

/-! ### Boot and bring-up (R457 to R461, R476, R514 to R519) -/

/-- Boot slots in the order that R460 tries them: the one that the governing marker names first (R515). -/
def Flash.order (f : Flash) : List Nat :=
  let first := match f.markers.getD 0 none, f.markers.getD 1 none with
    | some a, some b => if a.2 < b.2 then b.1 else a.1
    | some a, none => a.1
    | none, some b => b.1
    | none, none => 0
  if first = 1 then [1, 0] else [0, 1]

/-- The anti-rollback value advances to that of the running image, one fuse bit per step, while VDD_FUSE is present; a step whose
read-back fails waits for a later entry to Maintenance mode (R461, R533). -/
def advanceRollback (vddFuse : Bool) (s : State) : State :=
  let v := fieldLe s.imageBytes 7 1
  if !vddFuse || !s.sys.rollbackDue || decide (v ≤ s.sys.rollback) then s
  else
    let k := v - s.sys.rollback
    let (n, s) := s.takeFrees k
    let good := ((List.range k).takeWhile fun i => Config.freeBool (n + i)).length
    let s := s.onSys fun x => { x with rollback := x.rollback + good, rollbackDue := decide (good < k) }
    raise 263 0 [s.sys.rollback] none s

/-- The Chest slots after a cold start: the sealed region's, or empty (R476). -/
def loadChest (s : State) : State :=
  if !s.sys.cold then s
  else
    let s := s.onSys fun x => { x with cold := false }
    if s.sys.bootSel then s
    else if !s.sys.flash.chestIntact then raise 268 0 [] none s
    else { s with sec := { s.sec with slots := (s.sys.flash.chest ++ List.replicate 64 none).take 64 } }

/-- An image has passed: the boot ROM has placed the identity key in the Chest (R462), firmware starts, and steps 1 to 6 of R519
begin; step 6 starts the media ports' reference clocks (R535). -/
def beginBringUp (img : BootImage) (vddFuse : Bool) (s : State) : State :=
  let n := s.sys.ifcCount
  let s := { s with sec := { s.sec with identity := some identityKey } }
  let s := s.onSys fun x => { x with
    stage := 1, image := some img, loading := none, mrefclk := true, bringUp := { running := true, trainDone := n == 0 }
    rollbackDue := x.rollbackDue || (!img.fallback && x.bootCommit.isNone) }
  let s := loadChest s
  let s := s.onMem fun m => { m with training := if n = 0 then none else some { mask := 2 ^ n - 1 } }
  let s := (List.range 4).foldl (fun s p => issueNvme p { kind := .init } s) (s.onStore fun x => { x with members := List.replicate 4 default })
  advanceRollback vddFuse s

/-- The first slot of the boot flash that holds a valid image (R460). -/
def bootFlash (vddFuse : Bool) (s : State) : State :=
  let image := fun (i : Nat) => s.sys.flash.slots.getD i []
  match s.sys.flash.order.zipIdx.find? fun (i, _) => s.imageCheck (image i) == 0 with
  | some (i, k) => beginBringUp { bytes := image i, slot := i, fallback := k == 1 } vddFuse s
  | none => s

/-- BOOT_IMAGE_CHECK (R459, R460, R516, R517, R523): the image that the boot ROM has copied into the Attic. -/
def doBootImageCheck (vddFuse : Bool) (s : State) : State :=
  if s.sys.stage ≠ 0 ∨ s.sys.pstate = 3 then s
  else match s.sys.loading with
    | some img =>
      let check := s.imageCheck img.bytes
      if check = 0 then beginBringUp img vddFuse s
      else
        let s1 := s.onSys fun x => { x with loading := none, bootCommit := none }
        match s.sys.bootCommit with
        | some (cid, _) => complete 4 cid (if check = 1 then Status.integrity else Status.notPermitted) 0 0 0xFF s1
        | none => if s1.sys.bootSel then s1 else bootFlash vddFuse s1
    | none => if s.sys.bootSel then s else bootFlash vddFuse s

/-- Steps 7 and 8 of R519, once training and every member have ended: the set is mounted when training passed and superblocks are
present. -/
def bringUpStep (s : State) : State :=
  let b := s.sys.bringUp
  if !b.running || !b.trainDone || b.mountTried || !(b.memberDone.all id) then s
  else
    let s := s.onSys fun x => { x with bringUp := { x.bringUp with mountTried := true } }
    bringUpEnd (if s.mem.passed && s.store.super.isSome then mountSet none s else s)

/-- Member `m` has been initialised or refused (R311, R519). -/
def memberEnded (m : Nat) (st : MemberSt) (ident : MemberIdentity) (s : State) : State :=
  let s := s.onStore fun x => { x with members := upd x.members m fun k => { k with st := st, ident := ident } }
  bringUpStep (s.onSys fun x => { x with bringUp := { x.bringUp with memberDone := x.bringUp.memberDone.set m true } })

/-- What a member reports suits R311. -/
def memberSuits (i : MemberIdentity) : Bool :=
  i.blockSize == 4096 && i.metadataBytes == 0 && decide (131072 ≤ i.mdts) && decide (4 ≤ i.queuePairs)

/-- NVME_COMPLETION (R311 to R313): a member completes a command; `ident` is what it reports at initialisation. -/
def doNvmeCompletion (m cmd : Nat) (ok : Bool) (ident : MemberIdentity) (s : State) : State :=
  match (at! s.store.members m).cmds.find? (·.id == cmd) with
  | none => s
  | some c =>
    let s := s.onStore fun x => { x with members := upd x.members m fun k => { k with cmds := k.cmds.filter (·.id != cmd) } }
    if c.kind != .init then mediaCompletion m c ok s
    else if !ok then memberEnded m .refused ident s
    else if memberSuits ident then memberEnded m .ready ident s
    else memberEnded m .refused ident (raise 201 0 [] none s)

/-- MEMBER_READY_TIMEOUT (R519): a member not ready within 5 s is refused. -/
def doMemberReadyTimeout (m : Nat) (s : State) : State :=
  let k := at! s.store.members m
  if s.sys.bringUp.running && k.cmds.any (fun c => c.kind == .init && decide (c.since + ms 5000 ≤ s.now)) then
    memberEnded m .refused k.ident (s.onStore fun x => { x with members := upd x.members m fun k => { k with cmds := [] } })
  else s

/-- TRAINING_COMPLETE (R383, R519). -/
def doTrainingComplete (results : List TrainResult) (s : State) : State :=
  let mine := s.sys.bringUp.running && s.mem.training.any (·.drawer.isNone)
  let s := trainingComplete results s
  if mine && s.mem.training.isNone then bringUpStep (s.onSys fun x => { x with bringUp := { x.bringUp with trainDone := true } }) else s

/-! ### Firmware faults (Table 18-4) -/

/-- LOCKSTEP_MISMATCH, FIRMWARE_TRAP and FIRMWARE_WATCHDOG (Table 18-4); a trap on an uncorrectable fetch or read is cause 1. -/
def doLockstepMismatch (s : State) : State := safeLoop 2 s
def doFirmwareTrap (fetchError : Bool) (s : State) : State := safeLoop (if fetchError then 1 else 4) s
def doFirmwareWatchdog (s : State) : State := safeLoop 3 s

/-! ### Status and mode (R26 to R29, R371, R461) -/

/-- Code of a Shelf's state (Table 2-3). -/
def ShelfSt.code (x : ShelfSt) : Nat := match x with | .empty => 0 | .loaded => 1 | .active => 2 | .draining => 3

/-- SYSTEM.GET_STATUS (Table 15-10): MODE, PSTATE, STAGE, MAC, the Shelf states packed two bits each, mounted, recording, time STATE
(log 57). -/
def State.status (s : State) : Bytes :=
  le 4 (b2n s.sys.service) ++ le 4 s.sys.pstate ++ le 4 s.sys.stage ++ le 4 0 ++ le 8 Config.mac ++
  le 4 (sumNat (s.shelves.zipIdx.map fun (x, i) => x.st.code * 4 ^ i)) ++ le 4 (b2n s.set?.isSome) ++ le 4 (b2n s.store.clip.isSome) ++
  le 4 (match s.time.st with | .unsync => 0 | .acquiring => 1 | .locked => 2 | .holdover => 3)

def doSystemGetStatus (d : Nat) (s : State) : State :=
  drawerCmd d 0x0101 s fun c => checked d c 0 [] s fun s => done d s.status s

/-- What R28 asks for: trained Cellar, a validated plan, and no Bench test, pattern generator, loopback or link injection. -/
def State.serviceReady (s : State) : Bool :=
  s.mem.passed && s.shelves.any (·.plan.isSome) && s.units.bench.isNone &&
  s.ports.all fun q => q.test.isNone && q.inject.isNone && q.bcPattern == 0

/-- SYSTEM.ENTER_SERVICE (R28). -/
def doSystemEnterService (d : Nat) (s : State) : State :=
  drawerCmd d 0x0102 s fun c => checked d c 0 [] s fun s =>
    if !s.serviceReady then fail d Status.notPermitted s
    else if s.sys.service then done d [] s
    else raise 308 0 [1] none (done d [] (s.onSys fun x => { x with service := true }))

/-- SYSTEM.ENTER_MAINTENANCE (R29): at the entry, pending fuse work is done when VDD_FUSE is present (R371, R461). -/
def doSystemEnterMaintenance (d : Nat) (vddFuse : Bool) (s : State) : State :=
  drawerCmd d 0x0103 s fun c => checked d c 0 [] s fun s =>
    if s.store.clip.isSome then fail d Status.notPermitted s
    else if !s.sys.service then done d [] s
    else
      let s := raise 308 0 [0] none (done d [] (s.onSys fun x => { x with service := false }))
      if vddFuse then blowPending (advanceRollback true s) else s

/-! ### Registered buffers in use (R441) -/

/-- Spans of host memory that a Drawer command's payload names. -/
def DrawerCmd.spans (c : DrawerCmd) : List (Nat × Nat) :=
  let op := c.opcode
  if op = 0x0E0A ∨ op = 0x0E0B then [c.buf 0, c.buf 0x10, (c.q 0x20, c.w 0x28)]
  else if op = 0x0901 then [(c.q 8, 64 * c.w 24), (c.q 16, 16 * c.w 28)]
  else if op = 0x0C04 then [c.buf 32]
  else if op = 0x0D01 then [c.buf 24]
  else if [0x0C09, 0x0D03, 0x0D04, 0x0D05, 0x0E01, 0x0E02].contains op then [c.buf 0]
  else if op = 0x0307 then (if c.w 4 = 0xF then [c.buf 8] else [])
  else if [0x0201, 0x0202, 0x0304, 0x0305, 0x0306, 0x0404, 0x0407, 0x0408, 0x0409, 0x0501, 0x0502, 0x0606, 0x0607, 0x0803, 0x0807, 0x0B07].contains op then
    [c.buf 8]
  else []

/-- Spans that a job or handle names. -/
def Job.spans (j : Job) : List (Nat × Nat) := [(j.src, j.srcLen), (j.dst, j.dstLen), (j.idx, j.idxLen)]

/-- Spans of a ring and of one that waits to replace it. -/
def ringSpans (a b : Option HostRing) : List (Nat × Nat) := (a.toList ++ b.toList).map fun r => (r.addr, r.len)

/-- Spans that a queue, a ring, the event ring, a job, a handle, or a Busy command but `d`'s uses (R441). -/
def State.spansInUse (s : State) (d : Nat) : List (Nat × Nat) :=
  (s.store.pairs.flatMap fun p => match p with | some p => [(p.sqBase, 64 * p.sqEntries), (p.cqBase, 16 * p.cqEntries)] | none => []) ++
  (s.store.cmds.filterMap fun c => if [1, 2, 0x81, 0x82, 0x85].contains c.entry.opcode then some (c.entry.buf, c.entry.length) else none) ++
  (s.sensors.flatMap fun x => ringSpans x.ring x.nextRing) ++ (s.engines.flatMap fun x => ringSpans x.ring x.nextRing) ++
  (s.ctxs.flatMap fun x => ringSpans x.ring none) ++ (s.audio.flatMap fun x => ringSpans x.ring x.nextRing) ++
  (s.hostRings.flatMap fun x => ringSpans x.ring x.nextRing) ++
  (if s.ev.enable then [(s.ev.base, 32 * s.ev.entries)] else []) ++
  s.store.jobs.flatMap Job.spans ++ (s.store.handles.flatMap fun h => h.job.spans) ++
  (s.drawers.zipIdx.flatMap fun (x, i) => if x.st == .busy && i != d then x.cmd.spans else [])

/-- SYSTEM.UNREGISTER_BUFFER (R441). -/
def doSystemUnregisterBuffer (d : Nat) (s : State) : State :=
  drawerCmd d 0x0105 s fun c => checked d c 4 [(decide (63 < c.w 0), 0)] s fun s =>
    match s.bufs.find? (·.id == c.w 0) with
    | none => invalid d 0 s
    | some b =>
      if (s.spansInUse d).any fun (a, n) => decide (0 < n) && overlap a n b.addr b.len then fail d Status.busy s
      else done d [] { s with bufs := s.bufs.filter (·.id != b.id) }

/-- DMA_ERROR (R442): the operation that the transfer serves ends with MEDIA_ERROR. -/
def doDmaError (addr : Nat) (owner : DmaOwner) (s : State) : State :=
  let report := raise 312 0 (words64 addr) none
  match owner with
  | .drawer d =>
    let x := s.drawer d
    if x.st ≠ .busy ∨ x.cmd.spans.isEmpty = true then s
    else if s.store.jobs.any (·.drawer == d) then report (failJob d s)
    else
      let drop := fun (k : Shelf) => if (k.writing.map (·.2)) = some d then { k with writing := none } else k
      report (fail d Status.mediaError { s with shelves := s.shelves.map drop })
  | .store q cid =>
    let k := qIndex q
    match s.store.cmds.find? fun c => c.q == k && c.entry.cid == cid && [1, 2, 0x81, 0x82, 0x85].contains c.entry.opcode with
    | some c => report (complete k cid Status.mediaError (if c.entry.opcode = 1 then c.accepted else 0) 0 0xFF s)
    | none => s
  | .ring => report s

/-- COALESCE_TIMER (R303, R455). -/
def doCoalesceTimer (vec : Nat) (s : State) : State := storeCoalesceTimer vec (eventCoalesceTimer vec s)

/-! ### Power states (R307 to R309, R524 to R527) -/

/-- Exit from P2 to `t` (R522, R524, R526). -/
def exitP2 (t : Nat) (s : State) : State :=
  let on := s.sys.outsBefore
  let s := s.onSys fun x => { x with pstate := t, outsBefore := 0, runSince := s.now }
  let s := s.onMem fun m => { m with
    selfRefresh := false, driftSteps := m.driftSteps + 1, lastDrift := s.now
    ifcs := m.ifcs.map fun i => { i with banks := i.banks.map fun b => { b with owed := 0, burst := false } } }
  let s := { s with
    therm := { s.therm with sensors := s.therm.sensors.map fun x => { x with learned := false, offset := 0 } }
    ctxs := s.ctxs.map fun c => if c.st == .openSt && !c.entry.decode then c.restart else c
    sdi := s.sdi.zipIdx.map fun (o, n) => if bit on n then { o with st := .starting, stopping := false, restart := none, bufs := o.bufs.restart } else o
    disp := if bit on 4 then
        { s.disp with
          st := .starting, stopping := false, restart := none, training := true, trainStart := s.now
          heads := s.disp.heads.map fun h => { h with bufs := h.bufs.restart, up := false, rejoin := false, retrain := false } }
      else s.disp }
  (List.range 4).foldl (fun s p => tryTrain p s) s

/-- POWER_STATE (R307, R308, R495, R525): an exit, or the start of an entry. -/
def doPowerState (q cid : Nat) (s : State) : State :=
  storeCmd q cid 0x87 s fun k c =>
    let t := c.entry.arg0
    let answer := fun (st : Nat) (s : State) => complete k cid st 0 0 0xFF s
    if t = s.sys.pstate then answer Status.ok s
    else if 0 < t ∧ s.store.clip.isSome then answer Status.notPermitted s
    else if s.sys.pstate < t then
      if s.mem.training.isSome || s.units.bench.isSome then answer Status.busy s
      else
        let s := (s.setCmd k cid fun c => { c with begun := true }).onStore fun x => { x with
          powerEntry := some (cid, t, 0, false), jobs := if t < 2 then x.jobs else x.jobs.map fun j => { j with power := some t } }
        (List.range 4).foldl stopPort s
    else raise 309 0 [t] none (answer Status.ok (if s.sys.pstate = 2 then exitP2 t s else s.onSys fun x => { x with pstate := t }))

/-- The actions of P2 (Table 18-6), and for P3 of the unmount. -/
def powerDownActions (cid t n : Nat) (s : State) : State :=
  let on := sumNat ((s.sdi.zipIdx.map fun (o, i) => if o.st != .stopped && (!o.stopping || o.restart.isSome) then 2 ^ i else 0)) +
    (if s.disp.st != .stopped && (!s.disp.stopping || s.disp.restart.isSome) then 16 else 0)
  let s := stopAudio (stopOutputs (s.onSys fun x => { x with outsBefore := on }))
  s.onStore fun x => { x with powerEntry := some (cid, t, n, true), jobs := x.jobs.map fun j => { j with power := some t } }

/-- The waits of R308 are over. -/
def State.entryWaitsOver (s : State) (t : Nat) : Bool :=
  s.ioOutstanding == 0 && (decide (t < 2) || (s.store.incoming.isEmpty && !s.store.recs.any (·.st == .accepted)))

/-- What the actions of P2 and P3 end with holds (Table 18-6). -/
def State.poweredDown (s : State) (t : Nat) : Bool :=
  s.sdi.all (·.st == .stopped) && s.disp.st == .stopped && s.engines.all (·.cur.isNone) && s.store.jobs.isEmpty &&
  (decide (t < 3) || (s.store.mounted.isNone && ((s.pair? 4).any fun p => p.held.isEmpty && decide (p.unreleased.length < p.cqEntries))))

/-- The state is reached: the completion, EVT.STORE.POWER_ENTRY_DELAYED and EVT.SYS.PSTATE_CHANGED (R308, R524). -/
def powerReached (cid t n : Nat) (s : State) : State :=
  let s := s.onSys fun x => { x with pstate := t }
  let s := if t = 2 then (List.range 4).foldl (fun s p => portDown p s) (s.onMem fun m => { m with selfRefresh := true }) else s
  let s := complete 4 cid Status.ok n 0 0xFF (s.onStore fun x => { x with powerEntry := none })
  let s := if n = 0 then s else raise 183 0 [0xFF, cid] none s
  let s := raise 309 0 [t] none s
  if t = 3 then
    (coldState s.sys.bootSel s.sys.celCfg (doCompletionPost 0xFF (endAllSessions 3 s))).onSys fun x => { x with pstate := 3 }
  else s

/-- POWER_ENTRY_PROCEED (R308, R524): the entry in progress goes as far as its waits allow. -/
def doPowerEntryProceed (s : State) : State :=
  match s.store.powerEntry with
  | none => s
  | some (cid, t, n, acting) =>
    if !acting then
      let s := (List.range 4).foldl stopPort s
      let quiet := (s.sensors.all fun x => !x.started && x.starting.isNone && x.stopping.isNone) && s.table.all (·.isNone)
      if !quiet || !s.entryWaitsOver t then s
      else if t = 1 then powerReached cid t n s
      else powerDownActions cid t n s
    else
      let s := if t = 3 && s.store.mounted.any (·.phase == .mounted) then
          settle (s.onSet fun m => { m with phase := .unmounting, drawer := none, report := [] })
        else s
      if s.entryWaitsOver t && s.poweredDown t then powerReached cid t n s else s

/-! ### The commands -/

/-- The pin acts whatever the core does (R512). -/
def execPorstNAssert (s : State) : Out := .next (doPorstAssert s)
def execPorstNRelease (bootSel : Bool) (celCfg lowNs : Nat) (s : State) : Out := .next (doPorstRelease bootSel celCfg lowNs s)
def execBootImageCheck (vddFuse : Bool) (s : State) : Out := whenLive s (doBootImageCheck vddFuse)
def execMemberReadyTimeout (m : Nat) (s : State) : Out := whenLive s (doMemberReadyTimeout m)
def execLockstepMismatch (s : State) : Out := whenLive s doLockstepMismatch
def execFirmwareTrap (fetchError : Bool) (s : State) : Out := whenLive s (doFirmwareTrap fetchError)
def execFirmwareWatchdog (s : State) : Out := whenLive s doFirmwareWatchdog
def execSystemGetStatus (d : Nat) (s : State) : Out := whenLive s (doSystemGetStatus d)
def execSystemEnterService (d : Nat) (s : State) : Out := whenLive s (doSystemEnterService d)
def execSystemEnterMaintenance (d : Nat) (vddFuse : Bool) (s : State) : Out := whenLive s (doSystemEnterMaintenance d vddFuse)
def execSystemUnregisterBuffer (d : Nat) (s : State) : Out := whenLive s (doSystemUnregisterBuffer d)
def execSystemWarmReset (d : Nat) (s : State) : Out := whenLive s (doSystemWarmReset d)
def execPowerState (q cid : Nat) (s : State) : Out := whenLive s (doPowerState q cid)
def execPowerEntryProceed (s : State) : Out := whenLive s doPowerEntryProceed
def execNvmeCompletion (m cmd : Nat) (ok : Bool) (ident : MemberIdentity) (s : State) : Out := whenLive s (doNvmeCompletion m cmd ok ident)
def execTrainingComplete (results : List TrainResult) (s : State) : Out := whenLive s (doTrainingComplete results)
def execCoalesceTimer (vec : Nat) (s : State) : Out := whenLive s (doCoalesceTimer vec)
def execDmaError (addr : Nat) (owner : DmaOwner) (s : State) : Out := whenLive s (doDmaError addr owner)

end Sys2Proof.Machine
end

