-- ==== Sys2Proof/Machine/TimeBase.lean ====
section
/-! DEFINITION. The time base, its PTP follower, compare and capture units, and the TIME commands
(14_time_and_audio.md, R397 to R418, R427, R428). -/

namespace Sys2Proof.Machine

open Sys2Proof

/-- The largest magnitude of DRIFT (R398). -/
def driftMax : Int := 549755813

/-- The two words of a signed 64-bit value. -/
def intWords (x : Int) : List Nat := words64 (ofInt 64 x)

/-- The values DRIFT held in the 16 s before a COUNT, oldest first: a value that a later one replaced before that span
drops out (R407). -/
def driftSpan (count : Nat) : List (Nat × Int) → List (Nat × Int)
  | a :: b :: l => if b.1 + 16000000000 ≤ count then driftSpan count (b :: l) else a :: b :: l
  | l => l

/-- OFFSET takes the reading now, ANCHOR takes COUNT, then DRIFT changes, in one step (R399). In Locked the value is kept
for the mean of R407. -/
def setDrift (v : Int) (s : State) : State :=
  let t := s.time
  let hist := if t.st == .locked then driftSpan t.count (t.driftHist ++ [(t.count, v)]) else t.driftHist
  { s with time := { t with offset := s.reading, anchor := t.count, drift := v, driftHist := hist } }

/-- Enter a state of Table 14-1. -/
def enterTime (st : TimeSt) (s : State) : State :=
  { s with time := { s.time with st := st, since := s.reading, sinceCount := s.now, lockRun := 0, lastHoldUpdate := s.now - 1000000000,
                                 driftHist := if st == .locked then [(s.now, s.time.drift)] else driftSpan s.now s.time.driftHist,
                                 firstTaken := if st == .unsync then false else s.time.firstTaken } }

/-- Unit `n` fires: pulse on its GPIO, event, disarm (R403). -/
def fireCompare (n : Nat) (s : State) : State :=
  let u := at! s.time.compares n
  let s1 := match u.gpio with
    | some g => { s with sys := { s.sys with gpio := setBit s.sys.gpio g true } }
    | none => s
  let u' : CompareUnit := { u with armed := false, pulseEnd := u.gpio.map fun _ => s.now + u.width }
  raise 238 n [] none { s1 with time := { s1.time with compares := s1.time.compares.set n u' } }

/-- An armed unit whose time has passed fires (R403). -/
def checkCompare (s : State) (n : Nat) : State :=
  let u := at! s.time.compares n
  if u.armed && passed48 u.v s.reading then fireCompare n s else s

/-- A step of Δ ticks takes effect (R263, R415, R426). -/
def applyStep (delta : Int) (s : State) : State :=
  let t := s.time
  let s1 := { s with
    time := { t with offset := ofInt 64 (t.offset + delta) }
    table := s.table.map fun e => e.map fun e => { e with shift := e.shift + delta }
    sensors := s.sensors.map fun x => { x with lastStart := x.lastStart.map fun r => ofInt 64 (r + delta) }
    audio := s.audio.map fun a => { a with discontNext := true, lastSync := a.lastSync.map fun r => ofInt 64 (r + delta) }
    sdi := s.sdi.map fun o => if o.st == .running then { o with step := o.step + delta } else o
    disp := if s.disp.st == .running then { s.disp with step := s.disp.step + delta } else s.disp
    ctxs := s.ctxs.map fun c => { c with units := c.units.map fun u => { u with readyAt := ofInt 64 (u.readyAt + delta) } }
    engines := s.engines.map fun g => { g with cur := g.cur.map fun p => { p with deadline := ofInt 48 (p.deadline + delta) } }
    mem := { s.mem with ifcs := s.mem.ifcs.map fun f => { f with queue := f.queue.map fun l => { l with deadline := ofInt 48 (l.deadline + delta) } } } }
  raise 236 0 (intWords delta) none ((List.range 8).foldl checkCompare s1)

/-- The pending step is applied: −PEND_OFFSET (R413); with a master selected the time base goes on to Acquiring
(Table 14-1). -/
def takePending (s : State) : State :=
  let delta := -s.time.pendOffset
  let s1 := { s with time := { s.time with stepPending := false, firstTaken := true } }
  let s2 := applyStep delta s1
  if s2.time.cfg.follower && s2.time.best.isSome && (s2.time.st == .unsync || s2.time.st == .holdover) then
    enterTime .acquiring s2
  else s2

/-- A correction beyond JUMP is refused (R412); ACCEPT_FIRST may accept it at once (R413). -/
def refuseStep (o : Int) (s : State) : State :=
  let t := s.time
  let first := !t.stepPending
  let moved := decide (t.cfg.jump < (o - t.pendAdvance).natAbs)
  let t1 := { t with
    stepPending := true, pendOffset := o
    stepsRefused := sat 32 (t.stepsRefused + 1)
    pendId := if first || moved then wrap 16 (t.pendId + 1) else t.pendId
    pendAdvance := if first || moved then o else t.pendAdvance }
  let s1 := { s with time := t1 }
  let s2 := if t.st == .locked then raise 233 0 [] none (enterTime .holdover s1) else s1
  let s3 := if first then raise 235 0 (t1.pendId :: intWords o) none s2 else s2
  if t.cfg.acceptFirst && t.st == .unsync && !t.firstTaken then takePending s3 else s3

/-- The servo of R410 for an offset within JUMP, with `dt` ticks since the previous accepted Sync. Quotients round
towards zero (log 9). -/
def servo (o dt : Int) (s : State) : State :=
  let t := s.time
  let c := t.cfg
  let freq := clampInt (t.freq - Int.tdiv (o * c.ki * 2 ^ 24) dt) (-driftMax) driftMax
  let slew := clampInt (Int.tdiv (-(o * c.kp * 2 ^ 24)) dt) (-(c.slew : Int)) c.slew
  setDrift (clampInt (freq + slew) (-driftMax) driftMax) { s with time := { t with freq := freq } }

/-- The state after an offset within JUMP: Acquiring, and Locked after 16 consecutive offsets within LOCK_NS (Table 14-1,
R411). -/
def lockStep (o : Int) (s : State) : State :=
  let s1 := if s.time.st == .unsync || s.time.st == .holdover then enterTime .acquiring s else s
  let run := if o.natAbs ≤ s1.time.cfg.lockNs then min 16 (s1.time.lockRun + 1) else 0
  let s2 := { s1 with time := { s1.time with lockRun := run } }
  if s2.time.st == .acquiring && run == 16 then raise 232 0 [] none (enterTime .locked s2) else s2

/-- An offset from master `o` with mean path delay (R410 to R412). -/
def takeOffset (o mpd : Int) (dt : Option Int) (s : State) : State :=
  let s1 := { s with time := { s.time with lastOffset := o, pathDelay := mpd } }
  if s1.time.cfg.jump < o.natAbs then refuseStep o s1
  else
    let s2 := { s1 with time := { s1.time with stepPending := false } }
    match dt with
    | some dt => lockStep o (servo o dt s2)
    | none =>
      let (n, s3) := s2.takeFree
      lockStep o (servo o (1 + Config.freeBits 32 n) s3)

/-- SYNC (R409, R410): the Sync of the selected master, stamped now; `t1` is its origin time and `corr` its correction. -/
def doSync (t1 corr : Int) (s : State) : State :=
  let t := s.time
  if t.cfg.follower && t.best.isSome then
    { s with time := { t with
      prevSync := t.sync.map fun x => x.2.toNat
      sync := some (t1 + corr, (s.reading : Int) + t.cfg.rxLat)
      lastSync := t.count } }
  else s

/-- DELAY_REQ (R408, R409): a Delay_Req leaves to 224.0.1.129, or to the master where UNICAST_DREQ says so; its stamp is t3, which it
carries in seconds and nanoseconds. -/
def doDelayReq (s : State) : State :=
  let t := s.time
  if t.cfg.follower && t.best.isSome then
    { s with time := { t with
      delayReq := some (t.delaySeq, (s.reading : Int) + t.cfg.txLat)
      dreqSent := some {
        seq := t.delaySeq, unicastTo := if t.cfg.unicastDreq then t.best.map (·.clockId) else none, udpChecksum := 0
        seconds := ((s.reading : Int) + t.cfg.txLat) / 1000000000, nanoseconds := ((s.reading : Int) + t.cfg.txLat) % 1000000000 }
      delaySeq := wrap 16 (t.delaySeq + 1) } }
  else s

/-- DELAY_RESP (R410): t4 and its correction answer the outstanding Delay_Req, and the offset is formed. The mean path delay
rounds down (log 9). -/
def doDelayResp (seq : Nat) (t4 corr : Int) (interval : Nat) (s : State) : State :=
  let t := s.time
  match t.cfg.follower, t.sync, t.delayReq with
  | true, some (t1, t2), some (n, t3) =>
    if n = seq then
      let mpd := ((t2 - t1) + (t4 - corr - t3)) / 2
      let dt := t.prevSync.bind fun p => if t2 = p then none else some (t2 - p)
      takeOffset (t2 - t1 - mpd) mpd dt { s with time := { t with delayReq := none, delayInterval := interval } }
    else s
  | _, _, _ => s

/-- The dataset comparison of the best master clock algorithm: `a` is better than `b` (R408). -/
def announceBetter (a b : AnnounceMsg) : Bool :=
  let key := fun (x : AnnounceMsg) => [x.gmPriority1, x.gmClass, x.gmAccuracy, x.gmVariance, x.gmPriority2, x.gmId, x.stepsRemoved, x.clockId, x.portNumber]
  decide (key a < key b)

/-- Two Announce messages come from one master. -/
def sameMaster (a b : AnnounceMsg) : Bool := a.clockId == b.clockId && a.portNumber == b.portNumber

/-- The selected master's metadata TLV, and EVT.TIME.METADATA when it changes (R408). -/
def takeTlv (a : AnnounceMsg) (s : State) : State :=
  match a.tlv with
  | none => s
  | some b =>
    let p := padTo 64 b
    if p = s.time.smpteTlv then s
    else raise 240 0 [] none { s with time := { s.time with smpteTlv := p } }

/-- ANNOUNCE (R408, R412). -/
def doAnnounce (a : AnnounceMsg) (s : State) : State :=
  let t := s.time
  if !t.cfg.follower || a.domain != t.cfg.domain then s
  else
    let select := fun (s : State) => { s with time := { s.time with
      best := some a, lastAnnounce := s.now, lastSync := s.now, sync := none, prevSync := none, delayReq := none
      master := a.clockId, grandmaster := a.gmId } }
    match t.best with
    | some b =>
      if sameMaster a b then takeTlv a { s with time := { t with best := some a, lastAnnounce := t.count, grandmaster := a.gmId } }
      else if announceBetter a b then
        let s1 := raise 237 0 [] none (select s)
        let s2 := if s1.time.stepPending then
            let s1' := { s1 with time := { s1.time with pendId := wrap 16 (s1.time.pendId + 1), pendAdvance := s1.time.pendOffset } }
            raise 235 0 (s1'.time.pendId :: intWords s1'.time.pendOffset) none s1'
          else s1
        takeTlv a s2
      else s
    | none =>
      let s1 := select s
      let s2 := if a.clockId = t.master then s1 else raise 237 0 [] none s1
      let s3 := if s2.time.stepPending && a.clockId != t.master then
          let s1' := { s2 with time := { s2.time with pendId := wrap 16 (s2.time.pendId + 1), pendAdvance := s2.time.pendOffset } }
          raise 235 0 (s1'.time.pendId :: intWords s1'.time.pendOffset) none s1'
        else s2
      takeTlv a s3

/-- The Announce or Sync timeout has expired (R406). -/
def TimeState.masterSilent (t : TimeState) : Bool :=
  match t.best with
  | none => false
  | some b => decide (t.lastAnnounce + t.cfg.announceTimeout * b.interval ≤ t.count) || decide (t.lastSync + 1000000000 ≤ t.count)

/-- MASTER_LOST (R405, R406). -/
def doMasterLost (s : State) : State :=
  if !s.time.masterSilent then s
  else
    let s1 := { s with time := { s.time with best := none, sync := none, prevSync := none, delayReq := none } }
    match s1.time.st with
    | .acquiring => enterTime .unsync s1
    | .locked => raise 233 0 [] none (enterTime .holdover s1)
    | _ => s1

/-- The lower median of a list of integers. -/
def medianInt (l : List Int) : Option Int :=
  let r := sortInts l
  r[(r.length - 1) / 2]?

/-- The die temperature in quarter degrees: the median of the sensors T0 to T23 that are not suspect (R153); of every one when more than
half of the die's are (R498). -/
def State.dieTemp (s : State) : Option Int :=
  let l := s.therm.sensors.take 24
  let good := l.filter fun x => !x.suspect
  medianInt ((if 2 * good.length < l.length then l else good).map (·.reading))

/-- Centre of holdover bin b in quarter degrees (R153). -/
def binCentre (b : Nat) : Int := 16 * b - 72

/-- The holdover table's value at a die temperature (R407); `none` when no bin is valid. -/
def holdValue (tbl : List HoldBin) (t4 : Int) : Option Int :=
  let valid := (List.range 32).filter fun b => decide (16 ≤ (at! tbl b).n)
  let lo := (valid.filter fun b => decide (binCentre b ≤ t4)).getLast?
  let hi := (valid.filter fun b => decide (t4 < binCentre b)).head?
  match lo, hi with
  | some a, some b =>
    let ra := (at! tbl a).r
    let rb := (at! tbl b).r
    some (ra + (rb - ra) * (t4 - binCentre a) / (binCentre b - binCentre a))
  | some a, none => some (at! tbl a).r
  | none, some b => some (at! tbl b).r
  | none, none => none

/-- HOLDOVER_DRIFT_UPDATE (R407). -/
def doHoldoverDriftUpdate (s : State) : State :=
  let t := s.time
  if t.st = .holdover ∧ t.lastHoldUpdate + 1000000000 ≤ t.count then
    let s1 := { s with time := { t with lastHoldUpdate := t.count } }
    let mean := if t.driftHist.isEmpty then none else some ((t.driftHist.map (·.2)).sum / t.driftHist.length)
    match (s.dieTemp.bind (holdValue s.holdTable)) <|> mean with
    | some v => setDrift (clampInt v (-driftMax) driftMax) s1
    | none => s1
  else s

/-- HOLD_MAX_EXPIRY (Table 14-1). -/
def doHoldMaxExpiry (s : State) : State :=
  if s.time.st = .holdover ∧ s.time.sinceCount + s.time.cfg.holdMax * 1000000000 ≤ s.now then
    raise 234 0 [] none (enterTime .unsync s)
  else s

/-- REFCLK_FAULT (R401). -/
def doRefclkFault (s : State) : State :=
  raise 241 0 [] none (enterTime .unsync { s with time := { s.time with refclkBad := true } })

/-- REFCLK_RECOVERY (R401): REFCLK_TB has been within tolerance for 1 s. -/
def doRefclkRecovery (s : State) : State := { s with time := { s.time with refclkBad := false } }

/-- COMPARE_PULSE_END (R403). -/
def doComparePulseEnd (n : Nat) (s : State) : State :=
  let u := at! s.time.compares n
  match u.pulseEnd, u.gpio with
  | some e, some g =>
    if e ≤ s.now then
      { s with
        sys := { s.sys with gpio := setBit s.sys.gpio g false }
        time := { s.time with compares := s.time.compares.set n { u with pulseEnd := none } } }
    else s
  | _, _ => s

/-- One capture unit sees an edge (R404). -/
def captureUnit (gpio : Nat) (rising : Bool) (s : State) (n : Nat) : State :=
  let u := at! s.time.captures n
  if u.gpio = some gpio ∧ u.rising = rising then
    let due := match u.last with
      | none => true
      | some c => decide (c + 10000 ≤ s.now)
    if due then
      raise 239 n (words64 s.reading) none { s with time := { s.time with captures := s.time.captures.set n { u with last := some s.now } } }
    else { s with time := { s.time with captures := s.time.captures.set n { u with skipped := u.skipped + 1 } } }
  else s

/-- The number of a time-base state (Table 14-3). -/
def TimeSt.code : TimeSt → Nat
  | .unsync => 0
  | .acquiring => 1
  | .locked => 2
  | .holdover => 3

/-- TIME.GET (R418). -/
def doTimeGet (d : Nat) (s : State) : State :=
  drawerCmd d 0x0A01 s fun c => checked d c 0 [] s fun s =>
    done d (le 8 s.now ++ le 8 s.reading ++ le 4 s.time.st.code) s

/-- The 128 bytes of Table 14-3. -/
def TimeState.statusBytes (t : TimeState) : Bytes :=
  le 1 (t.st.code + 4 * b2n (!t.synced) + 8 * b2n t.stepPending + 16 * b2n t.refclkBad) ++ le 1 0 ++ le 2 t.pendId ++
  le 4 (ofInt 32 t.drift) ++ le 8 (ofInt 64 t.pendOffset) ++ le 8 (ofInt 64 t.lastOffset) ++ le 8 (ofInt 64 t.pathDelay) ++
  le 8 t.master ++ le 8 t.grandmaster ++ le 8 t.since ++ le 4 t.stepsRefused ++ le 4 0 ++ padTo 64 t.smpteTlv

/-- TIME.GET_STATUS (R418): Table 14-3, and STEPS_REFUSED clears. A result holds its first 112 bytes (log 10). -/
def doTimeGetStatus (d : Nat) (s : State) : State :=
  drawerCmd d 0x0A02 s fun c => checked d c 0 [] s fun s =>
    done d s.time.statusBytes { s with time := { s.time with stepsRefused := 0 } }

/-- The configuration that a command's Table 14-2 carries. -/
def DrawerCmd.timeCfg (c : DrawerCmd) : TimeCfg :=
  let b := fieldLe c.payload 0 1
  { follower := bit b 0, acceptFirst := bit b 1, unicastDreq := bit b 2
    domain := fieldLe c.payload 1 1, announceTimeout := bits (fieldLe c.payload 2 2) 0 4
    jump := c.w 4, lockNs := c.w 8, holdMax := c.w 0x0C, kp := fieldLe c.payload 0x10 2, ki := fieldLe c.payload 0x12 2
    slew := c.w 0x14, rxLat := toInt 16 (fieldLe c.payload 0x18 2), txLat := toInt 16 (fieldLe c.payload 0x1A 2) }

/-- TIME.SET_CONFIG (R417). -/
def doTimeSetConfig (d : Nat) (s : State) : State :=
  drawerCmd d 0x0A03 s fun c =>
    let k := c.timeCfg
    let bad := [
      (decide (8 ≤ fieldLe c.payload 0 1), 0), (decide (127 < k.domain), 1),
      (decide (k.announceTimeout < 2 ∨ 10 < k.announceTimeout ∨ 16 ≤ fieldLe c.payload 2 2), 2),
      (decide (k.jump < 1000 ∨ 1000000000 < k.jump), 4), (decide (k.lockNs < 10 ∨ 1000000 < k.lockNs), 8),
      (decide (k.holdMax < 1 ∨ 86400 < k.holdMax), 0x0C), (decide (549755813 < k.slew), 0x14), (c.w 0x1C != 0, 0x1C)]
    checked d c 0x20 bad s fun s =>
      let s1 := { s with time := { s.time with cfg := k } }
      let s2 :=
        if k.follower || s.time.st == .unsync then s1
        else if s.time.st == .holdover then raise 234 0 [] none (enterTime .unsync s1)
        else enterTime .unsync s1
      let s3 := if k.follower then s2 else { s2 with time := { s2.time with best := none, sync := none, prevSync := none, delayReq := none } }
      done d [] s3

/-- TIME.SET (R414). -/
def doTimeSet (d : Nat) (s : State) : State :=
  drawerCmd d 0x0A04 s fun c => checked d c 12 [(decide (1 < c.w 8), 8)] s fun s =>
    if s.time.cfg.follower then fail d Status.notPermitted s
    else
      let delta := toInt 64 (c.q 0 + 2 ^ 64 - s.reading)
      if s.time.cfg.jump < delta.natAbs ∧ c.w 8 = 0 then fail d Status.stepRefused s
      else done d (le 8 (ofInt 64 delta)) (applyStep delta s)

/-- TIME.ACCEPT_STEP (R413). -/
def doTimeAcceptStep (d : Nat) (s : State) : State :=
  drawerCmd d 0x0A05 s fun c => checked d c 4 [(decide (0xFFFF < c.w 0), 0)] s fun s =>
    if !s.time.stepPending then fail d Status.notPermitted s
    else if c.w 0 ≠ s.time.pendId then
      postResult d Status.busy noDetail (le 4 s.time.pendId ++ le 4 0 ++ le 8 (ofInt 64 s.time.pendOffset)) s
    else done d (le 8 (ofInt 64 (-s.time.pendOffset))) (takePending s)

/-- TIME.SET_COMPARE (R403). GPIO 0xFF names none and width 0 disarms (log 11). -/
def doTimeSetCompare (d : Nat) (s : State) : State :=
  drawerCmd d 0x0A06 s fun c =>
    let n := c.w 0
    let v := c.q 8
    let g := c.w 16
    let w := c.w 20
    checked d c 24 [(decide (7 < n), 0), (decide (2 ^ 48 ≤ v), 8), (decide (31 < g ∧ g ≠ 0xFF), 16), (decide (1000000 < w), 20)] s fun s =>
      if w = 0 then done d [] { s with time := { s.time with compares := upd s.time.compares n fun u => { u with armed := false } } }
      else if passed48 v s.reading then invalid d 8 s
      else done d [] { s with
        time := { s.time with compares := upd s.time.compares n fun u =>
          { u with armed := true, v := v, gpio := if g = 0xFF then none else some g, width := w } }
        sys := if g = 0xFF then s.sys else { s.sys with gpioOut := setBit s.sys.gpioOut g true } }

/-- TIME.SET_CAPTURE (R404). GPIO 0xFF releases the unit; edge 0 is rising and 1 falling (log 11). -/
def doTimeSetCapture (d : Nat) (s : State) : State :=
  drawerCmd d 0x0A07 s fun c =>
    let n := c.w 0
    let g := c.w 4
    checked d c 12 [(decide (7 < n), 0), (decide (31 < g ∧ g ≠ 0xFF), 4), (decide (1 < c.w 8), 8)] s fun s =>
      done d [] { s with
        time := { s.time with captures := upd s.time.captures n fun u =>
          { u with gpio := if g = 0xFF then none else some g, rising := c.w 8 == 0 } }
        sys := if g = 0xFF then s.sys else { s.sys with gpioOut := setBit s.sys.gpioOut g false } }

/-! ### The commands -/

def execSync (t1 corr : Int) (s : State) : Out := whenLive s (doSync t1 corr)
def execDelayReq (s : State) : Out := whenLive s doDelayReq
def execDelayResp (seq : Nat) (t4 corr : Int) (interval : Nat) (s : State) : Out := whenLive s (doDelayResp seq t4 corr interval)
def execAnnounce (a : AnnounceMsg) (s : State) : Out := whenLive s (doAnnounce a)
def execMasterLost (s : State) : Out := whenLive s doMasterLost
def execHoldoverDriftUpdate (s : State) : Out := whenLive s doHoldoverDriftUpdate
def execHoldMaxExpiry (s : State) : Out := whenLive s doHoldMaxExpiry
def execRefclkFault (s : State) : Out := whenLive s doRefclkFault
def execRefclkRecovery (s : State) : Out := whenLive s doRefclkRecovery
/-- COMPARE_FIRE (R403). -/
def execCompareFire (n : Nat) (s : State) : Out := whenLive s fun s => checkCompare s n
def execComparePulseEnd (n : Nat) (s : State) : Out := whenLive s (doComparePulseEnd n)
/-- CAPTURE_EDGE (R404). -/
def execCaptureEdge (gpio : Nat) (rising : Bool) (s : State) : Out :=
  whenLive s fun s => (List.range 8).foldl (captureUnit gpio rising) s
def execTimeGet (d : Nat) (s : State) : Out := whenLive s (doTimeGet d)
def execTimeGetStatus (d : Nat) (s : State) : Out := whenLive s (doTimeGetStatus d)
def execTimeSetConfig (d : Nat) (s : State) : Out := whenLive s (doTimeSetConfig d)
def execTimeSet (d : Nat) (s : State) : Out := whenLive s (doTimeSet d)
def execTimeAcceptStep (d : Nat) (s : State) : Out := whenLive s (doTimeAcceptStep d)
def execTimeSetCompare (d : Nat) (s : State) : Out := whenLive s (doTimeSetCompare d)
def execTimeSetCapture (d : Nat) (s : State) : Out := whenLive s (doTimeSetCapture d)

end Sys2Proof.Machine
end

