-- ==== Sys2Proof/Machine/Calibration.lean ====
section
/-! DEFINITION. Background calibration: updates of the estimates, calibration frames, holdover learning, and the PIPE commands of
calibration (05_calibration.md, R138 to R158). -/

namespace Sys2Proof.Machine

open Sys2Proof

/-- Division of signed integers, halves away from zero (R143). -/
def roundDiv (a b : Int) : Int := if 0 ≤ a then (2 * a + b) / (2 * b) else -((-(2 * a) + b) / (2 * b))

/-- Sum of a list of integers. -/
def sumInt (l : List Int) : Int := l.foldl (· + ·) 0

/-! ### Black level (R141, R149) -/

/-- One column's black level from its sum and count: unchanged without a sample, taken directly the first time, averaged after
that. Answers the value and whether the column has now been seen. -/
def blackColumn (k : Nat) (direct : Bool) (old : Nat) (seen : Bool) (sum n : Nat) : Nat × Bool :=
  if n = 0 then (old, seen)
  else
    let m := (sum * 1024 + n / 2) / n
    if direct || !seen then (min m (2 ^ 24 - 1), true)
    else ((old + ((m : Int) - old) / 2 ^ k).toNat, true)

/-- All columns of one gain. -/
def blackGain (kbl : Nat) (direct : Bool) (old : List Nat) (seen : List Bool) (sums : List (Nat × Nat)) : List (Nat × Bool) :=
  sums.zipIdx.map fun ((sum, n), c) => blackColumn kbl direct (old.getD c 0) (seen.getD c false) sum n

/-- The estimates with the black level of a valid frame. -/
def blackUpdate (kbl : Nat) (direct : Bool) (sums : List (List (Nat × Nat))) (e : Estimates) : Estimates :=
  let cols := sums.zipIdx.map fun (l, k) => blackGain kbl direct (e.blf.getD k []) (e.seen.getD k []) l
  { e with blf := cols.map (·.map (·.1)), seen := cols.map (·.map (·.2)) }

/-- The frame is valid for black level (R141). -/
def blackValid (pp : PortPlan) (z : CalSums) : Bool :=
  let sum := 4 * sumNat (z.ob.map fun l => sumNat (l.map (·.1)))
  let n := sumNat (z.ob.map fun l => sumNat (l.map (·.2)))
  decide (2 * pp.profile.h ≤ pp.profile.obRows) && decide (100 * z.obPoison < z.obTotal) && decide (0 < n) &&
  decide (pp.cal.obMin * n ≤ sum) && decide (sum ≤ pp.cal.obMax * n)

/-- The frame mean of b[k] moves by more than BL_JUMP (R141). -/
def blackJump (cal : CalParams) (w gains : Nat) (a b : Estimates) : Bool :=
  (List.range gains).any fun k =>
    let mean := fun (e : Estimates) => sumInt ((List.range w).map fun c => e.black k c)
    decide (cal.blJump * w < (mean b - mean a).natAbs)

/-! ### Column fixed pattern (R142, R149) -/

/-- The frame is valid for fixed pattern: 90 % of its columns hold FP_MIN samples in each gain (R142). -/
def fixedValid (cal : CalParams) (w : Nat) (sums : List (List (Int × Nat))) : Bool :=
  decide (9 * w ≤ 10 * ((List.range w).filter fun c => sums.all fun l => decide (cal.fpMin ≤ (l.getD c (0, 0)).2)).length)

/-- Fixed pattern of one gain from its sums, with averaging shift `k` (R142). -/
def fixedGain (cal : CalParams) (k : Nat) (old : List Int) (l : List (Int × Nat)) : List Int :=
  let vbar := (sumInt (l.map (·.1)) * 256).tdiv (max 1 (sumNat (l.map (·.2))))
  l.zipIdx.map fun ((sum, n), c) =>
    if n < cal.fpMin then old.getD c 0
    else
      let r := (sum * 256).tdiv (max 1 n) - vbar
      clampInt (old.getD c 0 + r / 2 ^ k) (-(2 ^ 23)) (2 ^ 23 - 1)

/-- The estimates with the fixed pattern of a valid frame. -/
def fixedUpdate (cal : CalParams) (k : Nat) (sums : List (List (Int × Nat))) (e : Estimates) : Estimates :=
  { e with fpf := sums.zipIdx.map fun (l, g) => fixedGain cal k (e.fpf.getD g []) l }

/-! ### Dual-gain ratio (R143, R149) -/

/-- The frame is valid for the ratio (R143). -/
def ratioValid (cal : CalParams) (z : CalSums) : Bool :=
  let n : Int := z.n
  decide (cal.dgNmin ≤ z.n) && decide ((cal.dgVarmin : Int) * n * n ≤ n * z.sll - z.sl * z.sl)

/-- The fit of a valid frame: gf before its clamp, gf and of (R143). -/
def ratioFit (z : CalSums) : Int × Int × Int :=
  let n : Int := z.n
  let raw := roundDiv ((n * z.slh - z.sl * z.sh) * 8192) (max 1 (n * z.sll - z.sl * z.sl))
  let gf := clampInt raw 8192 131072
  (raw, gf, clampInt (roundDiv (z.sh - gf * z.sl / 8192) (max 1 n)) (-131072) 131071)

/-- The estimates with the ratio of a valid frame. -/
def ratioUpdate (k : Nat) (direct : Bool) (z : CalSums) (e : Estimates) : Estimates :=
  let (_, gf, o) := ratioFit z
  if direct || !e.ratioSeen then { e with ratio := gf.toNat, offset := o, ratioSeen := true }
  else { e with ratio := (e.ratio + (gf - e.ratio) / 2 ^ k).toNat, offset := e.offset + (o - e.offset) / 2 ^ k }

/-! ### An update (R139, R140, R145, R149) -/

/-- The estimates that a posted block forms, and the mask of those formed (R140 to R143, R149). -/
def formEstimates (pp : PortPlan) (w : CalIn) (e : Estimates) : Estimates × Nat :=
  let cal := pp.cal
  let z := w.sums
  let p := pp.profile
  if w.ticket.calframe ∧ w.discard then (e, 0)
  else if w.ticket.calframe ∧ w.ratio then
    if p.gains = 2 ∧ ratioValid cal z = true then (ratioUpdate cal.kDg true z e, 2) else (e, 0)
  else if w.ticket.calframe then
    if p.obRows = 0 then
      if z.allX.any fun l => l.any fun x => decide (0 < x.2) then
        ({ blackUpdate cal.kBl true z.allX e with fpf := e.fpf.map fun l => l.map fun _ => 0 }, 5)
      else (e, 0)
    else
      let (e1, m1) := if blackValid pp z then (blackUpdate cal.kBl true z.ob e, 1) else (e, 0)
      if fixedValid cal p.width z.all then (fixedUpdate cal 0 z.all e1, m1 + 4) else (e1, m1)
  else
    let (e1, m1) := if blackValid pp z then (blackUpdate cal.kBl false z.ob e, 1) else (e, 0)
    let (e2, m2) := if p.gains = 2 ∧ ratioValid cal z = true then (ratioUpdate cal.kDg false z e1, m1 + 2) else (e1, m1)
    if fixedValid cal p.width z.dark then (fixedUpdate cal cal.kFp z.dark e2, m2 + 4) else (e2, m2)

/-- STALE and its counters after a frame that formed the estimates of `m` (R145). -/
def staleAfter (pp : PortPlan) (frame m : Nat) (x : Sensor) : Sensor :=
  let all := staleAll pp.profile
  (List.range 3).foldl (fun x j =>
    if !bit all j then x
    else if bit m j then { x with
      failRun := x.failRun.set j 0, stale := x.stale - (x.stale &&& 2 ^ j), validOnce := x.validOnce ||| 2 ^ j, lastUpdate := x.lastUpdate.set j frame }
    else
      let n := min 64 (x.failRun.getD j 0 + 1)
      { x with failRun := x.failRun.set j n, stale := if pp.cal.staleFrames ≤ n then x.stale ||| 2 ^ j else x.stale }) x

/-- The port and the waiting block of ticket-table entry `e`. -/
def calBlock (e : Nat) (s : State) : Option (Nat × CalIn) :=
  (List.range 4).findSome? fun l => ((at! s.sensors l).calWaiting.find? (·.ticket.entry == e)).map fun w => (l, w)

/-- CALIBRATION_UPDATE (R139 to R146, R149): firmware uses a posted block. While policy 4 is held, estimates and STALE keep their
values. -/
def doCalibrationUpdate (e : Nat) (s : State) : State :=
  match calBlock e s with
  | none => s
  | some (l, w) =>
    let pp := s.portPlan l
    let x := at! s.sensors l
    let held := s.holds.getD 0 false
    let old := x.estimates pp x.copy
    let (new, m) := if held then (old, 0) else formEstimates pp w old
    match (if m = 0 then some x.copy else freeCopy l (fun k => k == x.copy) s) with
    | none => s
    | some k =>
      let s1 := s.setSensor l fun y =>
        let y : Sensor := { y with calWaiting := y.calWaiting.erase w, copies := y.copies.set k new, copy := k }
        if held then y else staleAfter pp w.ticket.frame m y
      let s2 := if bit m 0 ∧ blackJump pp.cal pp.profile.width pp.profile.gains old { old with blf := new.blf } = true then raise 86 l [] none s1 else s1
      let s3 := if bit m 1 ∧ (ratioFit w.sums).1 ≠ (ratioFit w.sums).2.1 then raise 87 l [] none s2 else s2
      if w.ticket.calframe then raise 84 l [m] none s3 else s3

/-! ### Calibration frames (R146 to R148, R154) -/

/-- Stale time of estimate `j`, which a step of the time base does not change (R146, R415). -/
def State.staleTime (s : State) (l j : Nat) : Nat :=
  let x := at! s.sensors l
  if bit x.staleSeen j then s.now - x.sinceAt.getD j 0 - x.paused.getD j 0 else 0

/-- Lower edge of a histogram bin (R125, R148). -/
def binEdge (b : Nat) : Nat :=
  if b < 256 then 4 * b
  else
    let e := (b - 256) / 96
    2 ^ (10 + e) + ceilDiv ((b - 256) % 96 * 2 ^ (10 + e)) 96

/-- The bin that holds the `k`-th sample of a histogram. -/
def binAt : List Nat → Nat → Nat → Nat
  | [], _, i => i
  | n :: r, k, i => if k < n then i else binAt r (k - n) (i + 1)

/-- MED of the last statistics block (R148): the bin of the median image sample over all channels. -/
def medianEdge (hist : List (List Nat)) : Nat :=
  let all := (List.range 1024).map fun b => sumNat (hist.map fun h => h.getD b 0)
  let n := sumNat all
  if n = 0 then 0 else binEdge (binAt all ((n - 1) / 2) 0)

/-- The exposure of a calibration frame in ticks (R148). -/
def calExposure (pp : PortPlan) (x : Sensor) (ratio : Bool) : Nat :=
  if !ratio then 0
  else
    let v := ((medianEdge x.lastHist : Int) - pp.frontEnd.ped) * 4
    let s := ((List.range 9).find? fun s => decide (2 * (v / 2 ^ s) ≤ ((pp.cal.dgLo + pp.frontEnd.t0 : Nat) : Int))).getD 8
    x.page.exposure / 2 ^ s

/-- A calibration frame is scheduled: C is that of firmware's next commit (R148). -/
def scheduleCal (l : Nat) (ratio : Bool) (drawer : Option Nat) (s : State) : State :=
  s.setSensor l fun x => { x with
    cal := { x.cal with
      state := 1, ratio := ratio, discard := false, fixed := false, drawer := drawer, exposure := calExposure (s.portPlan l) x ratio } }

/-- A clip that records from the port forbids calibration frames (R147, R154). -/
def State.clipForbids (s : State) (l : Nat) : Bool := s.feedsClip l && !(s.portPlan l).cal.calDuringRec

/-- STALE_LIMIT (R146, R147): the event, once; and firmware schedules a calibration frame when every condition holds. -/
def doStaleLimit (l j : Nat) (s : State) : State :=
  let x := at! s.sensors l
  let pp := s.portPlan l
  let lim := pp.cal.staleLimit
  if (s.portPlan? l).isNone ∨ s.holds.getD 0 false = true ∨ lim = 0 ∨ bit x.staleSeen j = false ∨ s.staleTime l j ≤ lim then s
  else
    let s1 := if x.limitRaised.getD j false then s
      else raise 82 l [] none (s.setSensor l fun y => { y with limitRaised := y.limitRaised.set j true })
    let recent := match x.cal.last with
      | some t => decide (s.now ≤ t + lim)
      | none => false
    if pp.cal.calFrames = false ∨ pp.profile.timing = .lineScan ∨ s.clipForbids l = true ∨ x.cal.state ≠ 0 ∨ recent = true then s1
    else scheduleCal l (!(bit x.staleSeen 0 || bit x.staleSeen 2)) none s1

/-- PIPE.CAL_FRAME (R154): answered when C is fixed, by firmware's next commit on the port. -/
def doPipeCalFrame (d : Nat) (s : State) : State :=
  drawerCmd d 0x0406 s fun c =>
    let l := (s.leadOf (c.w 0)).getD (c.w 0)
    let k := c.w 4
    let pp := s.portPlan l
    checked d c 8 [(decide (3 < c.w 0), 0), (decide (1 < k) || (k == 1 && (s.portPlan? l).isSome && pp.profile.gains != 2), 4)] s fun s =>
      let x := at! s.sensors l
      if s.holds.getD 0 false = true ∨ pp.profile.timing = .lineScan ∨ s.clipForbids l = true then fail d Status.notPermitted s
      else if x.cal.state ≠ 0 then fail d Status.busy s
      else (scheduleCal l (k == 1) (some d) s).begin d

/-! ### Status and loads (R155, R156) -/

/-- The 64 bytes of Table 5-3: STALE of the last ticket issue, of which a single-gain port has no bit 1, and the estimates in force. -/
def calStatus (s : State) (l : Nat) : Bytes :=
  let x := at! s.sensors l
  let e := x.inForce
  let all := match s.portPlan? l with
    | some pp => staleAll pp.profile
    | none => 7
  le 1 ((x.staleSeen &&& all) + 16 * (x.validOnce % 8)) ++ le 1 (x.cal.state + 4 * b2n x.cal.ratio) ++ le 2 0 ++ le 4 (s.calTarget l) ++
  le 8 (x.since.getD 0 0) ++ le 8 (x.since.getD 1 0) ++ le 8 (x.since.getD 2 0) ++ le 4 e.ratio ++ le 4 (ofInt 18 e.offset) ++
  le 4 (x.lastUpdate.getD 0 0) ++ le 4 (x.lastUpdate.getD 1 0) ++ le 4 (x.lastUpdate.getD 2 0) ++
  le 4 (sumNat (s.holdTable.zipIdx.map fun (b, i) => if 16 ≤ b.n then 2 ^ i else 0)) ++ padTo 8 []

/-- Length of Table 5-4 for a sensor width. -/
def calTableLen (w : Nat) : Nat := 0x200 + 8 * w

/-- The tables of Table 5-4, of the estimates in force. -/
def calTables (s : State) (l : Nat) : Bytes :=
  let pp := (s.portPlan l).profile
  let e := (at! s.sensors l).inForce
  let bl := fun k => (List.range pp.width).flatMap fun c => le 2 (if k < pp.gains then min 65535 (((e.blf.getD k []).getD c 0 + 128) / 256) else 0)
  let fp := fun k => (List.range pp.width).flatMap fun c => le 2 (if k < pp.gains then ofInt 16 (((e.fpf.getD k []).getD c 0 + 128) / 256) else 0)
  (s.holdTable.flatMap fun b => le 4 (ofInt 32 b.r) ++ le 2 b.n ++ le 2 0) ++
  padTo 32 (pp.members.flatMap fun m => (at! s.ports m).lanes.flatMap fun k => le 1 k.phase) ++ padTo 0xE0 [] ++
  bl 0 ++ bl 1 ++ fp 0 ++ fp 1

/-- PIPE.GET_CAL (R155). -/
def doPipeGetCal (d : Nat) (s : State) : State :=
  drawerCmd d 0x0407 s fun c =>
    let l := (s.leadOf (c.w 0)).getD (c.w 0)
    checked d c 24 [(decide (3 < c.w 0), 0)] s fun s =>
      if c.q 8 = 0 ∧ c.q 16 = 0 then done d (calStatus s l) s
      else withDest d (c.buf 8) (calTableLen (s.portPlan l).profile.width) s fun s =>
        done d (calStatus s l) (s.hostWrite (c.q 8) (calTables s l))

/-- The estimates that a PIPE.SET_CAL buffer holds, with fraction bits 0 (R156). -/
def loadedEstimates (p : PortProfile) (valid : Nat) (b : Bytes) : Estimates :=
  let col := fun (base k c : Nat) => fieldLe b (0x200 + base * p.width + 2 * k * p.width + 2 * c) 2
  { blf := (List.range p.gains).map fun k => (List.range p.width).map fun c => col 0 k c * 256
    fpf := (List.range p.gains).map fun k => (List.range p.width).map fun c => toInt 16 (col 4 k c) * 256
    ratio := max 8192 (min 131072 (Config.setCalRatio b)), offset := toInt 18 (Config.setCalOffset b)
    seen := List.replicate p.gains (List.replicate p.width (bit valid 0)), ratioSeen := bit valid 1 }

/-- PIPE.SET_CAL (R156). The buffer's layout is that of a sensor width, so a port that no plan drives is refused: DESIGN CHOICE
(log 62). -/
def doPipeSetCal (d : Nat) (s : State) : State :=
  drawerCmd d 0x0408 s fun c =>
    let l := (s.leadOf (c.w 0)).getD (c.w 0)
    let p := (s.portPlan l).profile
    checked d c 24 [(decide (3 < c.w 0) || (s.portPlan? l).isNone, 0), (decide (7 < c.w 4), 4), (decide (c.q 16 < calTableLen p.width), 16)] s fun s =>
      if !s.holds.getD 0 false then fail d Status.notPermitted s
      else if !s.covered (c.q 8) (c.q 16) false then fail d Status.notPermitted s
      else
        let b := s.hostRead (c.q 8) (calTableLen p.width)
        let bins := (List.range 32).map fun i => (toInt 32 (fieldLe b (8 * i) 4), fieldLe b (8 * i + 4) 2)
        done d [] (s.setSensor l fun x => { x with calLoad := some (loadedEstimates p (c.w 4) b, c.w 4, bins) })

/-! ### Holdover learning (R153) -/

/-- HOLDOVER_SAMPLE (R153, R411): one sample of freq per second while locked, by policy 4. -/
def doHoldoverSample (s : State) : State :=
  let due := match s.holdSample with
    | some t => decide (t + ms 1000 ≤ s.now)
    | none => true
  if s.time.st ≠ .locked ∨ s.holds.getD 0 false = true ∨ due = false then s
  else match s.dieTemp with
  | none => s
  | some t =>
    let b := (t + 80) / 16
    let s1 := { s with holdSample := some s.now }
    if b < 0 ∨ 31 < b then s1
    else
      let x := s.holdTable.getD b.toNat {}
      let r := if x.n = 0 then s.time.freq else x.r + (s.time.freq - x.r) / 16
      let s2 := { s1 with holdTable := s1.holdTable.set b.toNat { r := r, n := sat 16 (x.n + 1) } }
      if x.n = 15 then raise 88 0 [] none s2 else s2

/-! ### The commands -/

def execCalibrationUpdate (e : Nat) (s : State) : Out := whenLive s (doCalibrationUpdate e)
def execStaleLimit (p j : Nat) (s : State) : Out := whenLive s (doStaleLimit p j)
def execHoldoverSample (s : State) : Out := whenLive s doHoldoverSample
def execPipeCalFrame (d : Nat) (s : State) : Out := whenLive s (doPipeCalFrame d)
def execPipeGetCal (d : Nat) (s : State) : Out := whenLive s (doPipeGetCal d)
def execPipeSetCal (d : Nat) (s : State) : Out := whenLive s (doPipeSetCal d)

end Sys2Proof.Machine
end

