-- ==== Sys2Proof/Machine/RawCodec.lean ====
section
/-! DEFINITION. The raw codec: coded groups, the floor form, rate control, headers and trailers (06_raw_codec.md). -/

namespace Sys2Proof.Machine

open Sys2Proof

/-! ### Bits (R161) -/

/-- The low `n` bits of `v`, most significant first. -/
def msbBits (n v : Nat) : List Bool := (List.range n).map fun i => bit v (n - 1 - i)

/-- Bytes of a bitstream written most significant bit first, padded with zero bits; `fuel` bounds the bytes. -/
def packBits (fuel : Nat) (l : List Bool) : Bytes :=
  match fuel, l with
  | n + 1, _ :: _ =>
    BitVec.ofNat 8 ((List.range 8).foldl (fun a i => 2 * a + b2n (l.getD i false)) 0) :: packBits n (l.drop 8)
  | _, _ => []

/-- The bytes of a bitstream. -/
def bitBytes (l : List Bool) : Bytes := packBits (l.length / 8 + 1) l

/-- Zero-padded to a multiple of 4 bytes. -/
def pad4 (bs : Bytes) : Bytes := padTo (4 * ceilDiv bs.length 4) bs

/-! ### A normal group (R167 to R171) -/

/-- The four contexts: sum A and count N of each (R169). -/
abbrev RiceCtx := List (Nat × Nat)

/-- The contexts at the start of a group. -/
def riceStart : RiceCtx := List.replicate 4 (32, 1)

/-- The neighbours a, b, c, d of Table 6-6: `left` is X[y][x − 1], `prev` the row above, `first` that y is 0. -/
def neighbours (first : Bool) (prev : List Nat) (w x left : Nat) : Nat × Nat × Nat × Nat :=
  if first then (if x = 0 then (0, 0, 0, 0) else (left, left, left, left))
  else if x = 0 then (let b := at! prev 0; (b, b, b, at! prev (min 1 (w - 1))))
  else (left, at! prev x, at! prev (x - 1), at! prev (min (x + 1) (w - 1)))

/-- The median edge predictor (R167). -/
def predict (a b c : Nat) : Nat :=
  if max a b ≤ c then min a b else if c ≤ min a b then max a b else a + b - c

/-- The context of an activity (R169). -/
def riceClass (q a b c d : Nat) : Nat :=
  let act := dist d b + dist b c + dist c a
  if act < 16 * q then 0 else if act < 128 * q then 1 else if act < 1024 * q then 2 else 3

/-- The Rice parameter: the smallest k with N × 2^k ≥ A (R169). -/
def riceK (a n : Nat) : Nat := ((List.range 33).find? fun k => decide (a ≤ n * 2 ^ k)).getD 32

/-- The quantised index of a residual (R168). -/
def quantise (delta : Nat) (e : Int) : Int :=
  let q : Int := 2 * delta + 1
  if 0 ≤ e then (e + delta) / q else -(((delta : Int) - e) / q)

/-- The mapped value of an index (R168). -/
def mapIndex (qi : Int) : Nat := if 0 ≤ qi then (2 * qi).toNat else (-2 * qi - 1).toNat

/-- A context after a sample (R170). -/
def riceNext (c : Nat × Nat) (m : Nat) : Nat × Nat :=
  let (a, n) := (c.1 + m, c.2 + 1)
  if n = 64 then (a / 2, 32) else (a, n)

/-- One sample: its bits, its reconstruction and the contexts after it (R167 to R171). -/
def codeSample (delta : Nat) (ctx : RiceCtx) (nb : Nat × Nat × Nat × Nat) (t : Tok) : List Bool × Nat × RiceCtx :=
  let (a, b, c, d) := nb
  let pred := predict a b c
  let q := 2 * delta + 1
  let k := riceClass q a b c d
  let s := ctx.getD k (32, 1)
  let x := if t.poison then pred else t.v
  let qi := quantise delta ((x : Int) - pred)
  let m := mapIndex qi
  let r := riceK s.1 s.2
  let u := m / 2 ^ r
  let ctx := ctx.set k (riceNext s m)
  if u < 24 then (List.replicate u false ++ true :: msbBits r m, (clampInt ((pred : Int) + qi * q) 0 262143).toNat, ctx)
  else (List.replicate 24 false ++ msbBits 18 x, x, ctx)

/-- One row from column `x` on: bits, reconstructed row so far (newest first), contexts. -/
def codeRow (delta : Nat) (first : Bool) (prev : List Nat) (w : Nat) : List Tok → Nat → Nat → RiceCtx → List Bool × List Nat × RiceCtx
  | [], _, _, ctx => ([], [], ctx)
  | t :: r, x, left, ctx =>
    let (b, v, ctx) := codeSample delta ctx (neighbours first prev w x left) t
    let (bs, vs, ctx) := codeRow delta first prev w r (x + 1) v ctx
    (b ++ bs, v :: vs, ctx)

/-- The rows of a group from the first on. -/
def codeRows (delta w : Nat) : List (List Tok) → Bool → List Nat → RiceCtx → List Bool
  | [], _, _, _ => []
  | row :: r, first, prev, ctx =>
    let (b, vs, ctx) := codeRow delta first prev w row 0 0 ctx
    b ++ codeRows delta w r false vs ctx

/-! ### Poison runs (R166) -/

/-- Runs of poisoned samples of one row: column and count. -/
def rowRuns : List Tok → Nat → List (Nat × Nat) → List (Nat × Nat)
  | [], _, acc => acc.reverse
  | t :: r, x, acc =>
    if t.poison then
      match acc with
      | (c, n) :: rest => if c + n = x then rowRuns r (x + 1) ((c, n + 1) :: rest) else rowRuns r (x + 1) ((x, 1) :: acc)
      | [] => rowRuns r (x + 1) [(x, 1)]
    else rowRuns r (x + 1) acc

/-- The runs that a group lists: at most 64, the 64th extended to the last sample when there are more. Row, column, count. -/
def poisonRuns (w : Nat) (rows : List (List Tok)) : List (Nat × Nat × Nat) :=
  let all := rows.zipIdx.flatMap fun (r, y) => (rowRuns r 0 []).map fun (c, n) => (y, c, n)
  if all.length ≤ 64 then all
  else (all.take 63) ++ ((all.drop 63).take 1).map fun (y, c, _) => (y, c, min 65535 (rows.length * w - (y * w + c)))

/-- The bytes of a poison run (Table 6-5). -/
def runBytes (r : Nat × Nat × Nat) : Bytes := le 2 r.2.1 ++ le 2 r.2.2 ++ le 4 r.1

/-! ### Floor mode (R172, R173) -/

/-- The code of one cell. -/
def cellCode (l : List Tok) : Nat :=
  let ok := l.filter fun t => !t.poison
  let n := ok.length
  if n = 0 then 255
  else
    let v := (sumNat (ok.map (·.v)) + n / 2) / n
    if v < 16 then v else (let e := v.log2; 16 + 16 * (e - 4) + (v - 2 ^ e) / 2 ^ (e - 4))

/-- The payload of a floor group. -/
def floorPayload (w : Nat) (rows : List (List Tok)) : Bytes :=
  pad4 ((List.range (ceilDiv rows.length 4)).flatMap fun cy => (List.range (w / 4)).map fun cx =>
    BitVec.ofNat 8 (cellCode (((rows.drop (4 * cy)).take 4).flatMap fun r => (r.drop (4 * cx)).take 4)))

/-- Floors of every group after `j` (R176). -/
def reserveAfter (p : PortProfile) (j : Nat) : Nat := sumNat ((List.range (rawGroups p - (j + 1))).map fun i => planFloor p (j + 1 + i))

/-- δ of a group at ladder index `i` (R175, R177). -/
def rawDeltaAt (r : RawSec) (page i : Nat) : Nat :=
  if r.mode = 0 then 0 else if r.mode = 1 then page else min (max (ladder.getD i 255) page) r.deltaMax

/-- The highest rung not above DELTA_MAX (R177). -/
def ladderTop (dmax : Nat) : Nat := (ladder.filter fun r => decide (r ≤ dmax)).length - 1

/-- The ladder index before group `j`, from the groups committed up to j − 32 (R177). -/
def ladderStep (p : PortProfile) (r : RawSec) (f : RawFrame) (j i : Nat) : Nat :=
  if r.mode ≠ 2 ∨ j < 32 ∨ j % planesOf p ≠ 0 then i
  else
    let c := j - 32
    let c0 := c - 31
    let w := (f.done.drop c0).take (c + 1 - c0)
    let sw := sumNat (w.map (·.1))
    let nw := sumNat (w.map (·.2))
    let tw := (rawBudget p r - 96) * nw / max 1 (p.width * p.frameRows)
    if tw + tw / 16 < sw then min (i + 1) (ladderTop r.deltaMax)
    else if sw < tw - tw / 8 then i - 1 else i

/-! ### Headers and trailer (Tables 6-3, 6-4, 6-7) -/

/-- The 64-byte frame header (R163). -/
def rawHeader (pp : PortPlan) (e : Entry) : Bytes :=
  let p := pp.profile
  let t := e.ticket
  let b := le 4 0x31574152 ++ le 1 1 ++ le 1 (pp.raw.mode + 4 * planesOf p) ++ le 1 p.cfaMap ++ le 1 p.obRows ++ le 4 t.frame ++
    le 2 t.planGen ++ le 2 t.pageGen ++ le 8 t.time ++ le 2 p.width ++ le 2 t.ports ++ le 4 p.frameRows ++ le 4 (sat 32 (rawBudget p pp.raw)) ++
    le 4 (rawGroups p) ++ le 1 e.raw.deltaStart ++ le 1 pp.raw.deltaMax ++ le 1 e.page.rawDelta ++ padTo 17 []
  b ++ le 4 (crc32c b)

/-- A coded group: its 32-byte header and its payload (R165). -/
def rawGroup (frame j firstRow rows plane : Nat) (floor coarse last trunc poison : Bool) (w delta runs : Nat) (payload : Bytes) : Bytes :=
  let h := le 4 0x50524743 ++ le 4 frame ++ le 4 j ++
    le 4 (firstRow % 2 ^ 18 + rows * 2 ^ 18 + plane * 2 ^ 23 + b2n floor * 2 ^ 25 + b2n coarse * 2 ^ 26 + b2n last * 2 ^ 27 + b2n trunc * 2 ^ 28 + b2n poison * 2 ^ 29) ++
    le 4 (w + delta * 2 ^ 16 + runs * 2 ^ 24) ++ le 4 payload.length ++ le 4 0
  h ++ le 4 (crc32c (h ++ payload)) ++ payload

/-- The 32-byte frame trailer (R180). -/
def rawTrailer (t : Ticket) (f : RawFrame) (i : Nat) : Bytes :=
  let b := le 4 0x444E4552 ++ le 4 f.written ++ le 4 f.spent ++ le 4 (f.floorFrom.getD 0xFFFFFFFF) ++ le 2 f.coarseCount ++ le 2 f.late ++
    le 4 ((if t.trunc then t.lastRow % 2 ^ 18 else 0) + b2n t.trunc * 2 ^ 18 + b2n f.poison * 2 ^ 19 + b2n f.floorFrom.isSome * 2 ^ 20) ++
    le 1 i ++ le 1 f.deltaLo ++ le 1 f.deltaHi ++ le 1 0
  b ++ le 4 (crc32c b)

/-! ### Starting a group (R176 to R178) -/

/-- Samples of coded group `j`: the rows of its plane in its row group (R159, R160). -/
def groupRowsOf (p : PortProfile) (g : RowGroup) (plane : Nat) : List (List Tok) :=
  let rows := if p.mono then g.out.map (·.2) else (g.out.filter fun x => x.1 % 2 == plane / 2).map (·.2)
  if p.mono then rows else rows.map fun r => (r.zipIdx.filter fun (_, c) => c % 2 == plane % 2).map (·.1)

/-- LAST and TRUNC of coded group `j`: the last group of its plane in the frame (R165, R181). -/
def groupEnds (p : PortProfile) (e : Entry) (g : RowGroup) (plane : Nat) : Bool × Bool :=
  if g.last then (true, g.trunc)
  else match e.groups.find? (·.index == g.index + 1) with
    | some n => if n.last ∧ planeRows p (n.firstRow + n.rows) (n.index * planesOf p + plane) = 0 then (true, n.trunc) else (false, false)
    | none => (false, false)

/-- The three forms of a coded group (R166, R172, R176). -/
def stageGroup (pp : PortPlan) (e : Entry) (g : RowGroup) (j delta : Nat) : StagedGroup :=
  let p := pp.profile
  let plane := j % planesOf p
  let w := p.width / p.h
  let rows := groupRowsOf p g plane
  let runs := poisonRuns w rows
  let poison := !runs.isEmpty
  let (last, trunc) := groupEnds p e g plane
  let head := rawGroup e.ticket.frame j (16 * g.index) rows.length plane
  let form := fun (coarse : Bool) (d : Nat) =>
    head false coarse last trunc poison w d runs.length (pad4 (runs.flatMap runBytes ++ bitBytes (codeRows d w rows true [] riceStart)))
  let main := form false delta
  { j := j, delta := delta, poison := poison, main := main
    coarse := if pp.raw.mode = 2 ∧ delta ≠ pp.raw.deltaMax then form true pp.raw.deltaMax else main
    floor := head true false last trunc poison w 0 0 (floorPayload w rows) }

/-- The next coded group that a frame emits, from `j` on; `fuel` bounds the groups (R160). -/
def nextEmitted (p : PortProfile) (rows : Nat) (fuel j : Nat) : Nat :=
  match fuel with
  | 0 => j
  | n + 1 => if j < rawGroups p ∧ planeRows p rows j = 0 then nextEmitted p rows n (j + 1) else j

/-- No earlier frame of the port has groups still to start (R177, R179). -/
def rawTurn (s : State) (e : Entry) : Bool :=
  !(s.live'.any fun (_, x) => x.src == e.src && x.isSensor && !x.raw.started && decide (x.order < e.order))

/-- The ladder index of a frame so far: that at its start is the one set at its ticket issue, or the one that the frame before it left
(R177 to R179). -/
def rawIndex (s : State) (e : Entry) : Nat := e.raw.idx.getD (e.raw.init.getD (at! s.sensors e.lead).ladder)

/-- Raw coders in service, and groups that occupy one (R176). -/
def rawFree (s : State) : Bool :=
  decide (sumNat (s.live'.map fun (_, e) => e.raw.staged.length) < (s.units.units.filter fun u => u.kind == 2 && u.st != .retired).length)

/-- Coded groups that the frame emits in all, known once it has closed. -/
def rawTotal (p : PortProfile) (e : Entry) : Nat := ((List.range (rawGroups p)).filter fun j => planeRows p e.rowCount j != 0).length

/-- RAW_GROUP_START (R159, R176 to R178): a free coder takes the next group of a frame, once group j − 32 is committed. -/
def doRawGroupStart (i : Nat) (s : State) : State :=
  match s.entry? i with
  | none => s
  | some e =>
    let pp := s.entryPort e
    let p := pp.profile
    let j := nextEmitted p e.rowCount (rawGroups p) e.raw.nextStart
    let l := e.lead
    match e.groups.find? fun g => g.index == j / planesOf p && g.st == .left with
    | none => s
    | some g =>
      if !e.isSensor ∨ e.raw.trailer = true ∨ rawGroups p ≤ j ∨ e.raw.nextCommit + 32 ≤ j ∨ rawTurn s e = false ∨ rawFree s = false then s
      else
        let ix := ladderStep p pp.raw e.raw j (rawIndex s e)
        let delta := rawDeltaAt pp.raw e.page.rawDelta ix
        let s1 := s.setSensor l fun x => { x with ladder := ix }
        let next := nextEmitted p e.rowCount (rawGroups p) (j + 1)
        s1.setEntry i fun x => { x with
          raw := { x.raw with
            header := true, idx := some ix, deltaStart := if x.raw.header then x.raw.deltaStart else delta, nextStart := j + 1
            staged := x.raw.staged ++ [stageGroup pp e g j delta]
            started := x.closed && decide (rawGroups p ≤ next || x.groups.all fun k => decide (k.index < next / planesOf p)) } }

/-! ### Committing (R176, R180, R183) -/

/-- The trailer is written: the coded frame is complete, and the raw coders have finished the frame (R180, R187). -/
def finishRaw (i : Nat) (s : State) : State :=
  match s.entry? i with
  | none => s
  | some e =>
    let pp := s.entryPort e
    let ix := rawIndex s e
    let s := if e.raw.idx.isNone then s.setSensor e.lead fun x => { x with ladder := ix } else s
    let e' : Entry := { e with raw := { e.raw with deltaStart := if e.raw.header then e.raw.deltaStart else rawDeltaAt pp.raw e.page.rawDelta ix } }
    let bytes := rawHeader pp e' ++ e.raw.bytes ++ rawTrailer e.ticket e.raw ix
    let s1 := s.setEntry i fun x => { x with raw := { x.raw with bytes := bytes, staged := [], started := true, trailer := true } }
    let s2 := raiseFor 96 e.lead [e.raw.spent, e.raw.floorFrom.getD 0xFFFFFFFF, e.raw.coarseCount] i s1
    let s3 := if e.raw.poison then raiseFor 99 e.lead [] i s2 else s2
    keepRaw i (endClass i 1 s3)

/-- The form that the commit step takes, with COARSE and floor (R176). -/
def chooseForm (pp : PortPlan) (f : RawFrame) (g : StagedGroup) : Bytes × Bool × Bool :=
  let allow : Int := (rawBudget pp.profile pp.raw : Int) - f.spent - reserveAfter pp.profile g.j
  if f.floorFrom.isSome then (g.floor, false, true)
  else if (g.main.length : Int) ≤ allow then (g.main, false, false)
  else if pp.raw.mode = 2 ∧ (g.coarse.length : Int) ≤ allow then (g.coarse, true, false)
  else (g.floor, false, true)

/-- The raw frame after a group's commit. -/
def commitForm (f : RawFrame) (g : StagedGroup) (samples : Nat) (late : Bool) (form : Bytes × Bool × Bool) : RawFrame :=
  let (bs, coarse, floor) := form
  let isMain := !coarse && !floor
  { f with
    bytes := f.bytes ++ bs, spent := f.spent + bs.length, done := f.done ++ [(bs.length, samples)], nextCommit := g.j + 1
    staged := f.staged.filter (·.j != g.j), written := f.written + 1, poison := f.poison || g.poison
    floorFrom := if floor then some (f.floorFrom.getD g.j) else f.floorFrom
    coarseCount := if coarse then sat 16 (f.coarseCount + 1) else f.coarseCount, late := if late then sat 16 (f.late + 1) else f.late
    mainSeen := f.mainSeen || isMain
    deltaLo := if isMain then (if f.mainSeen then min f.deltaLo g.delta else g.delta) else f.deltaLo
    deltaHi := if isMain then max f.deltaHi g.delta else f.deltaHi }

/-- The frame is closed and every coded group that it emits is committed. -/
def rawComplete (p : PortProfile) (e : Entry) : Bool :=
  e.closed && e.raw.staged.isEmpty && e.groups.all (·.st == .left) && decide (e.raw.written = rawTotal p e)

/-- RAW_GROUP_COMMIT (R176, R180, R183): the next group in ascending j, and after the last one the trailer. -/
def doRawGroupCommit (i : Nat) (s : State) : State :=
  match s.entry? i with
  | none => s
  | some e =>
    let pp := s.entryPort e
    let p := pp.profile
    if !e.isSensor ∨ e.raw.trailer = true then s
    else match e.raw.staged with
    | [] => if rawComplete p e && rawTurn s e then finishRaw i s else s
    | g :: _ =>
      let late := late48 (e.deadline pp.deadlines 1 (g.j / planesOf p)) s.reading
      let form := chooseForm pp e.raw g
      let samples := planeRows p e.rowCount g.j * (p.width / p.h)
      let s1 := s.setEntry i fun x => { x with raw := commitForm x.raw g samples late form, rawMiss := x.rawMiss || late }
      let s2 := if form.2.1 ∧ e.raw.coarseCount = 0 then raiseFor 98 e.lead [g.j] i s1 else s1
      let s3 := if form.2.2 ∧ e.raw.floorFrom.isNone = true then raiseFor 97 e.lead [g.j] i s2 else s2
      let s4 := if late && !e.rawMiss then raiseFor 100 e.lead [] i s3 else s3
      match s4.entry? i with
      | some x => if rawComplete p x then finishRaw i s4 else s4
      | none => s4

/-! ### The commands -/

def execRawGroupStart (e : Nat) (s : State) : Out := whenLive s (doRawGroupStart e)
def execRawGroupCommit (e : Nat) (s : State) : Out := whenLive s (doRawGroupCommit e)

end Sys2Proof.Machine
end

