-- ==== Sys2Proof/Machine/Deliver.lean ====
section
/-! DEFINITION. Where rendition frames go: the formats of memory destinations (R340, R444), host rings, and the completion of a
rendition frame (07_colour_and_renditions.md R199, R208 to R217, 11_media_layout.md R339, R340, 15_mailbox_and_events.md R443,
R444). -/

namespace Sys2Proof.Machine

open Sys2Proof

/-- Bits [8:0] of offset 0x18 of a slot in Table 7-2. -/
def RendFrame.format (f : RendFrame) : Nat :=
  f.tf + 4 * f.ycc + 16 * b2n f.fullRange + 32 * (if f.bits = 10 then 0 else if f.bits = 12 then 1 else 2) + 128 * f.sub

/-- Samples of a frame: 4:4:4 interleaved by pixel, others plane by plane (R444). -/
def RendFrame.samples (f : RendFrame) : List Nat :=
  if f.sub = 0 then (List.range (f.width * f.height)).flatMap fun i => (List.range 3).map fun k => (at! f.planes k).getD i 0
  else f.planes.flatten

/-- The header of Table 15-8. -/
def RendFrame.header (f : RendFrame) (bytes : Nat) : Bytes :=
  f.ticket.bytes ++ le 2 f.width ++ le 2 f.height ++
  le 4 (f.format + 512 * f.slot + 8192 * b2n f.filled + 16384 * b2n f.poisoned) ++ le 4 bytes ++ le 4 0 ++ le 8 f.doneTime ++ le 8 0

/-- A row's bits, ended with zero bits up to a multiple of 32 (R340). -/
def rowBits (n : Nat) (l : List Nat) : Bytes := pad4 (bitBytes (l.flatMap (msbBits n)))

/-- Rows of `w` elements. -/
def rowsOf (w : Nat) (h : Nat) (l : List Nat) : List (List Nat) := (List.range h).map fun y => (l.drop (y * w)).take w

/-- The packed samples of a stored frame (R340). -/
def RendFrame.packed (f : RendFrame) : Bytes :=
  let p := fun k => at! f.planes k
  if f.sub = 0 then
    (List.range f.height).flatMap fun y => rowBits f.bits ((List.range f.width).flatMap fun x => (List.range 3).map fun k => (p k).getD (y * f.width + x) 0)
  else if f.sub = 1 then
    (List.range f.height).flatMap fun y => rowBits f.bits ((List.range (f.width / 2)).flatMap fun x =>
      [(p 1).getD (y * (f.width / 2) + x) 0, (p 0).getD (y * f.width + 2 * x) 0, (p 2).getD (y * (f.width / 2) + x) 0, (p 0).getD (y * f.width + 2 * x + 1) 0])
  else
    ((rowsOf f.width f.height (p 0)) ++ (rowsOf (f.width / 2) (f.height / 2) (p 1)) ++ (rowsOf (f.width / 2) (f.height / 2) (p 2))).flatMap (rowBits f.bits)

/-- An uncompressed frame as a Store Room stream or a review slot holds it (R340). -/
def RendFrame.stored (f : RendFrame) : Bytes :=
  let b := f.packed
  f.header b.length ++ b

/-- Bytes of a frame-ring slot for the largest frame of a slot (R444). -/
def ringSlot (g : GraphSlot) : Nat :=
  let n := if g.sub = 0 then 3 * g.outW * g.outH else if g.sub = 1 then 2 * g.outW * g.outH else g.outW * g.outH + 2 * (g.outW / 2 * (g.outH / 2))
  4096 * ceilDiv (64 + 2 * n) 4096

/-- A frame goes to a host frame ring (R443, R444). -/
def hostFrame (ring : Nat) (f : RendFrame) (s : State) : State :=
  let k := at! s.hostRings ring
  match (if k.nextRing.isSome then k.nextRing else k.ring) with
  | none => s
  | some r =>
    if r.kind ≠ 0 then s
    else
      let smp := f.samples
      let bs := f.header (2 * smp.length) ++ smp.flatMap (le 2)
      match s.ringPut r bs with
      | none => raise 313 ring [] (some f.ticket) { s with hostRings := upd s.hostRings ring fun _ => { ring := some { r with inUse := true }, nextRing := none } }
      | some (r', s1) => { s1 with hostRings := upd s1.hostRings ring fun _ => { ring := some r', nextRing := none } }

/-- PIPE.SET_HOST_RING (R443 to R445). -/
def doPipeSetHostRing (d : Nat) (s : State) : State :=
  drawerCmd d 0x0409 s fun c =>
    let r := c.w 0
    let kind := c.w 4
    let n := c.w 24
    let g := s.boundSlot 3 (· == r)
    let coded := s.activePlans.any fun p => p.hevc.any fun h => h.enable && !h.decode && h.outKind == 3 && h.outId == r
    let slot := (g.map ringSlot).getD 0
    checked d c 28 [(decide (15 < r), 0), (!((kind == 0 && g.isSome) || (kind == 1 && coded)), 4),
      (decide (c.q 16 < 4096 + (if kind = 0 then n * slot else n)), 16),
      (!(isPow2 n && (if kind = 0 then within n 2 64 else within n 65536 (2 ^ 30))), 24)] s fun s =>
      if !s.covered (c.q 8) (c.q 16) true then fail d Status.notPermitted s
      else done d [] { s with hostRings := upd s.hostRings r fun x => { x with
        nextRing := some { kind := kind, addr := c.q 8, len := c.q 16, entries := n, slot := slot } } }

/-- A rendition frame reaches its destination (R199, Table 7-3). -/
def deliverFrame (x : Entry) (g : GraphSlot) (f : RendFrame) (s : State) : State :=
  match g.destKind with
  | 0 => commitSdi g.destId f.ticket f.planes s
  | 1 => commitDisp g.destId f.ticket f.width f.planes s
  | 2 => codePicture g.destId f s
  | 3 => hostFrame g.destId f s
  | 4 => match x.clip with
    | some k => keepStream g.destId k f.ticket x.isSensor f.stored none s
    | none => s
  | _ => reviewPut g.destId {
      width := f.width, height := f.height, sub := f.sub, ycc := f.ycc, fullRange := f.fullRange, bits := f.bits, planes := f.planes
      concealed := f.ticket.concealed } s

/-- RENDITION_FRAME_COMPLETE (R208, R213, R216, R257): the colour path has the whole frame, or the source is a picture. -/
def doRenditionFrameComplete (slot e : Nat) (s : State) : State :=
  match s.entry? e with
  | none => s
  | some x =>
    if !x.pendingDest.contains slot || !(x.picture.isSome || x.colour.finished) then s
    else
      let g := (s.entryPlan x).graph.getD slot default
      let (f, filled, bad) := renderSlot s slot e x
      -- the rows late for certain, and a free number of those that may be
      let (lo, hi) := lateRows s g x
      let (n, s) := s.takeFree
      let late := lo + Config.freeBits 16 n % (hi + 1 - lo)
      let s1 := s.setEntry e fun x => { x with pendingDest := x.pendingDest.filter (· != slot) }
      let s2 := deliverFrame x g f s1
      let s3 := if filled = 0 then s2 else raiseFor 112 slot [filled] e s2
      let s4 := if bad = 0 then s3 else raiseFor 111 slot [bad] e s3
      let s5 := if late = 0 then s4 else raiseFor 110 slot [late] e s4
      let left := ((s5.entry? e).map (·.pendingDest)).getD []
      sweepCoding (if left.isEmpty then endClass e 3 s5 else s5)

/-! ### The commands -/

def execRenditionFrameComplete (slot e : Nat) (s : State) : Out := whenLive s (doRenditionFrameComplete slot e)
def execPipeSetHostRing (d : Nat) (s : State) : Out := whenLive s (doPipeSetHostRing d)

end Sys2Proof.Machine
end

