-- ==== Sys2Proof/Machine/Pins.lean ====
section
/-! DEFINITION. What the device drives on the balls of the VDD_IO domain and on the media ports' reference clocks
(19_electrical_and_package.md R535 to R538). -/

namespace Sys2Proof.Machine

open Sys2Proof

/-- Balls whose drive R535 to R538 give. -/
inductive Ball where
  | gpio (n : Nat)
  | i2c (n : Nat)
  | tdm
  | debug
  | qspiCs
  | pdmClk
  | mrefclk (n : Nat)
  | mperst (n : Nat)
  | thermtrip
  deriving DecidableEq, Repr, Inhabited

/-- What is driven on a ball: nothing, a level, or the signal of the function that firmware has configured. -/
inductive Drive where
  | highZ
  | low
  | high
  | signal
  deriving DecidableEq, Repr, Inhabited

/-- A level. -/
def Drive.level (b : Bool) : Drive := if b then .high else .low

/-- What the device drives on a ball. Until firmware configures them GPIO, I2C, TDM and debug balls are high-impedance inputs, QSPI_CS_N is
high and PDM_CLK low (R537); a GPIO is configured by TIME.SET_COMPARE as an output and by TIME.SET_CAPTURE as an input, the audio balls by
AUDIO.SET_PORT, and the debug balls by opening the debug access port. THERMTRIP_N is open-drain (R538). MREFCLKn runs from step 6 of R519 until P3, and
MPERST_Nn is low while it does not (R535). -/
def State.drive (s : State) : Ball → Drive
  | .gpio n => if bit s.sys.gpioOut n then Drive.level (bit s.sys.gpio n) else .highZ
  | .i2c _ => .highZ
  | .tdm => if (at! s.audio 1).slots + (at! s.audio 2).slots = 0 then .highZ else .signal
  | .debug => if s.sec.debugOpen then .signal else .highZ
  | .qspiCs => .high
  | .pdmClk => if (at! s.audio 0).pdmClk = 0 then .low else .signal
  | .mrefclk _ => if s.sys.mrefclk then .signal else .low
  | .mperst _ => Drive.level s.sys.mrefclk
  | .thermtrip => if s.sys.tripped then .low else .highZ

end Sys2Proof.Machine
end

