-- ==== Sys2Proof/Machine/RawDecode.lean ====
section
/-! DEFINITION. What a decoder of coded raw makes of a coded frame: group validity, normal and floor groups, and where a sample goes
(06_raw_codec.md R172, R184 to R186). -/

namespace Sys2Proof.Machine

open Sys2Proof

/-! ### Reading bits (R161) -/

/-- Zero bits up to the 1 bit that ends them, which is consumed, or `n` zero bits (R185). -/
def readUnary : Nat → List Bool → Option (Nat × List Bool)
  | 0, l => some (0, l)
  | _ + 1, [] => none
  | _ + 1, true :: l => some (0, l)
  | n + 1, false :: l => (readUnary n l).map fun (u, r) => (u + 1, r)

/-- `n` bits, most significant first. -/
def readBits (n : Nat) (l : List Bool) : Option (Nat × List Bool) :=
  if l.length < n then none else some ((l.take n).foldl (fun a b => 2 * a + b2n b) 0, l.drop n)

/-! ### A normal group (R185) -/

/-- The index that a mapped value stands for (R168, R185). -/
def unmapIndex (m : Nat) : Int := if m % 2 = 0 then (m / 2 : Nat) else -(((m + 1) / 2 : Nat) : Int)

/-- One sample: its reconstruction, the contexts after it and the bits that follow (R185). -/
def decodeSample (delta : Nat) (ctx : RiceCtx) (nb : Nat × Nat × Nat × Nat) (l : List Bool) : Option (Nat × RiceCtx × List Bool) :=
  let (a, b, c, d) := nb
  let pred := predict a b c
  let q := 2 * delta + 1
  let t := riceClass q a b c d
  let s := ctx.getD t (32, 1)
  let k := riceK s.1 s.2
  match readUnary 24 l with
  | none => none
  | some (u, l) =>
    if u = 24 then
      (readBits 18 l).map fun (x, l) => (x, ctx.set t (riceNext s (mapIndex (quantise delta ((x : Int) - pred)))), l)
    else
      (readBits k l).map fun (low, l) =>
        let m := u * 2 ^ k + low
        ((clampInt ((pred : Int) + unmapIndex m * q) 0 262143).toNat, ctx.set t (riceNext s m), l)

/-- `n` samples of a row from column `x` on. -/
def decodeRow (delta : Nat) (first : Bool) (prev : List Nat) (w : Nat) : Nat → Nat → Nat → RiceCtx → List Bool →
    Option (List Nat × RiceCtx × List Bool)
  | 0, _, _, ctx, l => some ([], ctx, l)
  | n + 1, x, left, ctx, l => do
    let (v, ctx, l) ← decodeSample delta ctx (neighbours first prev w x left) l
    let (vs, ctx, l) ← decodeRow delta first prev w n (x + 1) v ctx l
    some (v :: vs, ctx, l)

/-- `n` rows of a group, and the bits that follow. -/
def decodeRows (delta w : Nat) : Nat → Bool → List Nat → RiceCtx → List Bool → Option (List (List Nat) × List Bool)
  | 0, _, _, _, l => some ([], l)
  | n + 1, first, prev, ctx, l => do
    let (row, ctx, l) ← decodeRow delta first prev w w 0 0 ctx l
    let (rows, l) ← decodeRows delta w n false row ctx l
    some (row :: rows, l)

/-! ### A floor group (R172, R173) -/

/-- The value of every sample of a cell (R172). -/
def cellValue (c : Nat) : Nat :=
  if c < 16 then c
  else
    let e := 4 + (c - 16) / 16
    2 ^ e + (c - 16) % 16 * 2 ^ (e - 4) + 2 ^ (e - 4) / 2

/-- The rows of a floor group from its cell codes. -/
def floorRows (w rows : Nat) (codes : Bytes) : List (List Nat) :=
  (List.range rows).map fun y => (List.range w).map fun x => cellValue (codes.getD (y / 4 * (w / 4) + x / 4) 0).toNat

/-! ### Coded groups (R165, R184) -/

/-- A coded group as its header and payload spell it (Table 6-4). -/
structure CodedGroup where
  frame : Nat
  index : Nat
  firstRow : Nat
  rows : Nat
  plane : Nat
  floor : Bool
  width : Nat
  delta : Nat
  runs : Nat
  payload : Bytes
  deriving DecidableEq, Repr, Inhabited

/-- A decoded group: its samples by row, and which of them carry no image information (R186). -/
structure DecodedGroup where
  group : CodedGroup
  samples : List (List Nat)
  poisoned : List (List Bool)
  deriving DecidableEq, Repr, Inhabited

/-- The group at the start of some bytes, when SYNC and GCRC match (check 1 of R184). -/
def readGroup (bs : Bytes) : Option CodedGroup :=
  let n := fieldLe bs 0x14 4
  let v := fieldLe bs 0x0C 4
  let w := fieldLe bs 0x10 4
  let payload := slice bs 32 n
  if fieldLe bs 0 4 = 0x50524743 ∧ payload.length = n ∧ crc32c (slice bs 0 0x1C ++ payload) = fieldLe bs 0x1C 4 then
    some {
      frame := fieldLe bs 4 4, index := fieldLe bs 8 4, firstRow := bits v 0 18, rows := bits v 18 5, plane := bits v 23 2
      floor := bit v 25, width := bits w 0 16, delta := bits w 16 8, runs := bits w 24 7, payload := payload }
  else none

/-- The poison runs of a group: row, column and count (Table 6-5). -/
def CodedGroup.runList (g : CodedGroup) : List (Nat × Nat × Nat) :=
  (List.range g.runs).map fun i => (bits (fieldLe g.payload (8 * i + 4) 4) 0 4, fieldLe g.payload (8 * i) 2, fieldLe g.payload (8 * i + 2) 2)

/-- A sample lies in a poison run; the extended 64th goes on across rows (R166). -/
def CodedGroup.inRun (g : CodedGroup) (y x : Nat) : Bool :=
  g.runList.any fun (r, c, n) => within (y * g.width + x) (r * g.width + c) (r * g.width + c + n - 1) && n != 0

/-- The bits of a payload, most significant first. -/
def payloadBits (bs : Bytes) : List Bool := bs.flatMap fun b => msbBits 8 b.toNat

/-- The cells of a group, one byte each in its floor form (R173). -/
def CodedGroup.cells (g : CodedGroup) : Nat := g.width / 4 * ceilDiv g.rows 4

/-- Checks 5 and 6 of R184 and the samples of the group. -/
def CodedGroup.decode (g : CodedGroup) : Option DecodedGroup :=
  if g.floor then
    if g.payload.length = 4 * ceilDiv g.cells 4 ∧ ((g.payload.take g.cells).all fun c => !within c.toNat 240 254) = true then
      some {
        group := g, samples := floorRows g.width g.rows g.payload
        poisoned := (List.range g.rows).map fun y => (List.range g.width).map fun x =>
          g.payload.getD (y / 4 * (g.width / 4) + x / 4) 0 == 0xFF }
    else none
  else
    match decodeRows g.delta g.width g.rows true [] riceStart (payloadBits (g.payload.drop (8 * g.runs))) with
    | some (rows, rest) =>
      if rest.length < 32 ∧ rest.all (!·) = true then
        some { group := g, samples := rows
               poisoned := (List.range g.rows).map fun y => (List.range g.width).map (g.inRun y) }
      else none
    | none => none

/-- What the checks of R184 hold a group to: FRAME, planes P, plane width, and the INDEX of the previous valid group. -/
structure GroupPlace where
  frame : Nat
  planes : Nat
  width : Nat
  last : Option Nat
  deriving DecidableEq, Repr, Inhabited

/-- Checks 2 to 4 of R184. A group that the frame does not emit leaves a gap, so an INDEX follows when it is larger: DEDUCED (log 63). -/
def GroupPlace.fits (p : GroupPlace) (g : CodedGroup) : Bool :=
  g.frame == p.frame && (p.last.all fun n => decide (n < g.index)) && g.firstRow == 16 * (g.index / p.planes) &&
  g.plane == g.index % p.planes && g.width == p.width && within g.rows 1 16

/-- The valid groups of a coded frame from an offset on. A decoder that loses its place scans forward, 4 bytes at a time (R184). -/
def decodeGroups (p : GroupPlace) (bs : Bytes) : Nat → Nat → List DecodedGroup
  | 0, _ => []
  | n + 1, o =>
    if bs.length ≤ o + 32 then []
    else match readGroup (bs.drop o) with
      | none => decodeGroups p bs n (o + 4)
      | some g =>
        let next := o + 32 + g.payload.length
        match if p.fits g then g.decode else none with
        | some d => d :: decodeGroups { p with last := some g.index } bs n next
        | none => decodeGroups p bs n next

/-- The valid groups of a coded frame (Table 6-1, R184). -/
def decodeRaw (bs : Bytes) : List DecodedGroup :=
  let planes := bits (fieldLe bs 5 1) 2 3
  let h := if planes = 4 then 2 else 1
  decodeGroups { frame := fieldLe bs 8 4, planes := max 1 planes, width := fieldLe bs 0x18 2 / h, last := none } bs (bs.length / 4) 64

/-- The sensor row and column of plane sample (y, x) of a group, with H = 2 for a 2 × 2 CFA and 1 for a monochrome sensor (R186). -/
def CodedGroup.position (g : CodedGroup) (h y x : Nat) : Nat × Nat :=
  (h * (g.firstRow + y) + g.plane / 2, h * x + g.plane % 2)

end Sys2Proof.Machine
end

