-- ==== Sys2Proof/Machine/Dispatch.lean ====
section
/-! DEFINITION. One arm per command: the meaning of each row of the table. -/

namespace Sys2Proof.Machine

open Sys2Proof

/-- What a command does to everything but the queue. -/
def exec (i : Instr) (s : State) : Host.Outcome State Fault Refusal :=
  match i with
  | .porstNAssert => Sys2Proof.Machine.execPorstNAssert s
  | .porstNRelease bootSel celCfg lowNs => Sys2Proof.Machine.execPorstNRelease bootSel celCfg lowNs s
  | .bootImageCheck vddFuse => Sys2Proof.Machine.execBootImageCheck vddFuse s
  | .memberReadyTimeout m => Sys2Proof.Machine.execMemberReadyTimeout m s
  | .lockstepMismatch => Sys2Proof.Machine.execLockstepMismatch s
  | .firmwareTrap fetchError => Sys2Proof.Machine.execFirmwareTrap fetchError s
  | .firmwareWatchdog => Sys2Proof.Machine.execFirmwareWatchdog s
  | .systemGetStatus d => Sys2Proof.Machine.execSystemGetStatus d s
  | .systemEnterService d => Sys2Proof.Machine.execSystemEnterService d s
  | .systemEnterMaintenance d vddFuse => Sys2Proof.Machine.execSystemEnterMaintenance d vddFuse s
  | .systemRegisterBuffer d => Sys2Proof.Machine.execSystemRegisterBuffer d s
  | .systemUnregisterBuffer d => Sys2Proof.Machine.execSystemUnregisterBuffer d s
  | .systemSetNetwork d => Sys2Proof.Machine.execSystemSetNetwork d s
  | .systemWarmReset d => Sys2Proof.Machine.execSystemWarmReset d s
  | .planLoad d image => Sys2Proof.Machine.execPlanLoad d image s
  | .planValidation d => Sys2Proof.Machine.execPlanValidation d s
  | .planEdit d image => Sys2Proof.Machine.execPlanEdit d image s
  | .planActivate d => Sys2Proof.Machine.execPlanActivate d s
  | .planRelease d => Sys2Proof.Machine.execPlanRelease d s
  | .planGetShelves d => Sys2Proof.Machine.execPlanGetShelves d s
  | .sensorStart d => Sys2Proof.Machine.execSensorStart d s
  | .sensorStop d => Sys2Proof.Machine.execSensorStop d s
  | .sensorSetExposure d => Sys2Proof.Machine.execSensorSetExposure d s
  | .sensorLoadDefects d => Sys2Proof.Machine.execSensorLoadDefects d s
  | .sensorSetShading d => Sys2Proof.Machine.execSensorSetShading d s
  | .sensorGetLinkStats d => Sys2Proof.Machine.execSensorGetLinkStats d s
  | .sensorTest d => Sys2Proof.Machine.execSensorTest d s
  | .sensorInject d => Sys2Proof.Machine.execSensorInject d s
  | .sensorBcWrite d => Sys2Proof.Machine.execSensorBcWrite d s
  | .sensorBcRead d => Sys2Proof.Machine.execSensorBcRead d s
  | .ckPresent p => Sys2Proof.Machine.execCkPresent p s
  | .ckLoss p => Sys2Proof.Machine.execCkLoss p s
  | .trainingTimeout p => Sys2Proof.Machine.execTrainingTimeout p s
  | .alignmentMarker p lane m => Sys2Proof.Machine.execAlignmentMarker p lane m s
  | .alignmentLoss p lane => Sys2Proof.Machine.execAlignmentLoss p lane s
  | .frameStart p k => Sys2Proof.Machine.execFrameStart p k s
  | .rowData p k => Sys2Proof.Machine.execRowData p k s
  | .frameEnd p k => Sys2Proof.Machine.execFrameEnd p k s
  | .sleep p k => Sys2Proof.Machine.execSleep p k s
  | .embedded p k => Sys2Proof.Machine.execEmbedded p k s
  | .reply p k => Sys2Proof.Machine.execReply p k s
  | .bcReplyTimeout p => Sys2Proof.Machine.execBcReplyTimeout p s
  | .sleepOverrun p => Sys2Proof.Machine.execSleepOverrun p s
  | .backChannelSleep p => Sys2Proof.Machine.execBackChannelSleep p s
  | .trigger p => Sys2Proof.Machine.execTrigger p s
  | .eyeWindowEnd p lane e => Sys2Proof.Machine.execEyeWindowEnd p lane e s
  | .patternTestEnd p lane errors => Sys2Proof.Machine.execPatternTestEnd p lane errors s
  | .sourceTicketIssue src => Sys2Proof.Machine.execSourceTicketIssue src s
  | .perforationEdge gpio rising => Sys2Proof.Machine.execPerforationEdge gpio rising s
  | .entryRetire e => Sys2Proof.Machine.execEntryRetire e s
  | .firmwarePageCommit p out => Sys2Proof.Machine.execFirmwarePageCommit p out s
  | .pipeCommitPage d => Sys2Proof.Machine.execPipeCommitPage d s
  | .pipeHoldPolicy d => Sys2Proof.Machine.execPipeHoldPolicy d s
  | .pipeReleasePolicy d => Sys2Proof.Machine.execPipeReleasePolicy d s
  | .pipeSetStatsRing d => Sys2Proof.Machine.execPipeSetStatsRing d s
  | .pipeGetUnits d => Sys2Proof.Machine.execPipeGetUnits d s
  | .pipeCalFrame d => Sys2Proof.Machine.execPipeCalFrame d s
  | .pipeGetCal d => Sys2Proof.Machine.execPipeGetCal d s
  | .pipeSetCal d => Sys2Proof.Machine.execPipeSetCal d s
  | .pipeSetHostRing d => Sys2Proof.Machine.execPipeSetHostRing d s
  | .groupDeal pos => Sys2Proof.Machine.execGroupDeal pos s
  | .groupLeave e => Sys2Proof.Machine.execGroupLeave e s
  | .calibrationUpdate e => Sys2Proof.Machine.execCalibrationUpdate e s
  | .staleLimit p j => Sys2Proof.Machine.execStaleLimit p j s
  | .holdoverSample => Sys2Proof.Machine.execHoldoverSample s
  | .rawGroupStart e => Sys2Proof.Machine.execRawGroupStart e s
  | .rawGroupCommit e => Sys2Proof.Machine.execRawGroupCommit e s
  | .colourGroupDeal pos => Sys2Proof.Machine.execColourGroupDeal pos s
  | .renditionSetLut d => Sys2Proof.Machine.execRenditionSetLut d s
  | .renditionSetCurves d => Sys2Proof.Machine.execRenditionSetCurves d s
  | .renditionSwitchBank d => Sys2Proof.Machine.execRenditionSwitchBank d s
  | .renditionFrameComplete slot e => Sys2Proof.Machine.execRenditionFrameComplete slot e s
  | .codeOpen d => Sys2Proof.Machine.execCodeOpen d s
  | .codeClose d => Sys2Proof.Machine.execCodeClose d s
  | .codeForceIdr d => Sys2Proof.Machine.execCodeForceIdr d s
  | .codePinLtr d => Sys2Proof.Machine.execCodePinLtr d s
  | .codeUnpinLtr d => Sys2Proof.Machine.execCodeUnpinLtr d s
  | .codeSetBitstreamRing d => Sys2Proof.Machine.execCodeSetBitstreamRing d s
  | .codeSetStatsRing d => Sys2Proof.Machine.execCodeSetStatsRing d s
  | .codeGetContext d => Sys2Proof.Machine.execCodeGetContext d s
  | .pictureBoundary engine => Sys2Proof.Machine.execPictureBoundary engine s
  | .decodeWatchdog engine c => Sys2Proof.Machine.execDecodeWatchdog engine c s
  | .bitstreamCopy engine c => Sys2Proof.Machine.execBitstreamCopy engine c s
  | .byteRingWrite ring => Sys2Proof.Machine.execByteRingWrite ring s
  | .outputStart d => Sys2Proof.Machine.execOutputStart d s
  | .outputStop d => Sys2Proof.Machine.execOutputStop d s
  | .outputSetTimecode d => Sys2Proof.Machine.execOutputSetTimecode d s
  | .outputGetStatus d => Sys2Proof.Machine.execOutputGetStatus d s
  | .latch out => Sys2Proof.Machine.execLatch out s
  | .sdiUnderrun n => Sys2Proof.Machine.execSdiUnderrun n s
  | .dispUnderrun head => Sys2Proof.Machine.execDispUnderrun head s
  | .lineMatch => Sys2Proof.Machine.execLineMatch s
  | .frameDone => Sys2Proof.Machine.execFrameDone s
  | .displayStart d => Sys2Proof.Machine.execDisplayStart d s
  | .displayStop d => Sys2Proof.Machine.execDisplayStop d s
  | .displayWriteBuffer d => Sys2Proof.Machine.execDisplayWriteBuffer d s
  | .displayCommit d => Sys2Proof.Machine.execDisplayCommit d s
  | .displaySetLineMatch d => Sys2Proof.Machine.execDisplaySetLineMatch d s
  | .displaySetEvents d => Sys2Proof.Machine.execDisplaySetEvents d s
  | .displayGetEdid d => Sys2Proof.Machine.execDisplayGetEdid d s
  | .displayTrainingEnd headA headB => Sys2Proof.Machine.execDisplayTrainingEnd headA headB s
  | .hpdDeassert head => Sys2Proof.Machine.execHpdDeassert head s
  | .hpdAssert head edid => Sys2Proof.Machine.execHpdAssert head edid s
  | .hpdIrq head linkOk => Sys2Proof.Machine.execHpdIrq head linkOk s
  | .sqTailDoorbell q v => Sys2Proof.Machine.execSqTailDoorbell q v s
  | .cqHeadDoorbell q v => Sys2Proof.Machine.execCqHeadDoorbell q v s
  | .entryFetch q => Sys2Proof.Machine.execEntryFetch q s
  | .completionPost q => Sys2Proof.Machine.execCompletionPost q s
  | .writeRecord q cid => Sys2Proof.Machine.execWriteRecord q cid s
  | .readRecord q cid => Sys2Proof.Machine.execReadRecord q cid s
  | .verifyRecord q cid => Sys2Proof.Machine.execVerifyRecord q cid s
  | .trimClip q cid => Sys2Proof.Machine.execTrimClip q cid s
  | .flush q cid => Sys2Proof.Machine.execFlush q cid s
  | .abort q cid => Sys2Proof.Machine.execAbort q cid s
  | .recordAccept => Sys2Proof.Machine.execRecordAccept s
  | .recordOnMedium => Sys2Proof.Machine.execRecordOnMedium s
  | .identify q cid => Sys2Proof.Machine.execIdentify q cid s
  | .getLogPage q cid => Sys2Proof.Machine.execGetLogPage q cid s
  | .getFeatures q cid => Sys2Proof.Machine.execGetFeatures q cid s
  | .setFeatures q cid => Sys2Proof.Machine.execSetFeatures q cid s
  | .firmwareDownload q cid => Sys2Proof.Machine.execFirmwareDownload q cid s
  | .firmwareCommit q cid => Sys2Proof.Machine.execFirmwareCommit q cid s
  | .firmwareServes => Sys2Proof.Machine.execFirmwareServes s
  | .activationHoldExpiry => Sys2Proof.Machine.execActivationHoldExpiry s
  | .powerState q cid => Sys2Proof.Machine.execPowerState q cid s
  | .powerEntryProceed => Sys2Proof.Machine.execPowerEntryProceed s
  | .storeCreateQueue d => Sys2Proof.Machine.execStoreCreateQueue d s
  | .storeDeleteQueue d => Sys2Proof.Machine.execStoreDeleteQueue d s
  | .storeReset d => Sys2Proof.Machine.execStoreReset d s
  | .storeResetDone => Sys2Proof.Machine.execStoreResetDone s
  | .storeFormSet d => Sys2Proof.Machine.execStoreFormSet d s
  | .storeMount d => Sys2Proof.Machine.execStoreMount d s
  | .storeUnmount d => Sys2Proof.Machine.execStoreUnmount d s
  | .storeClipStart d => Sys2Proof.Machine.execStoreClipStart d s
  | .storeClipClose d => Sys2Proof.Machine.execStoreClipClose d s
  | .storeGetClip d => Sys2Proof.Machine.execStoreGetClip d s
  | .storePlay d => Sys2Proof.Machine.execStorePlay d s
  | .nvmeCompletion m cmd ok ident => Sys2Proof.Machine.execNvmeCompletion m cmd ok ident s
  | .nvmeCommandTimeout m cmd => Sys2Proof.Machine.execNvmeCommandTimeout m cmd s
  | .nvmeAbortTimeout m cmd resetOk => Sys2Proof.Machine.execNvmeAbortTimeout m cmd resetOk s
  | .memberFlushTimer m => Sys2Proof.Machine.execMemberFlushTimer m s
  | .checkpointTimer => Sys2Proof.Machine.execCheckpointTimer s
  | .superblockTimer => Sys2Proof.Machine.execSuperblockTimer s
  | .memCompress d => Sys2Proof.Machine.execMemCompress d s
  | .memDecompress d => Sys2Proof.Machine.execMemDecompress d s
  | .memJobCancel d => Sys2Proof.Machine.execMemJobCancel d s
  | .compressionFrame => Sys2Proof.Machine.execCompressionFrame s
  | .handleExpiry h => Sys2Proof.Machine.execHandleExpiry h s
  | .arbiterGrant resource reqs => Sys2Proof.Machine.execArbiterGrant resource reqs s
  | .cellarCommandSlot ifc => Sys2Proof.Machine.execCellarCommandSlot ifc s
  | .refreshDue ifc bank => Sys2Proof.Machine.execRefreshDue ifc bank s
  | .mr4Poll ifc rate => Sys2Proof.Machine.execMr4Poll ifc rate s
  | .driftTracking => Sys2Proof.Machine.execDriftTracking s
  | .scrubStep bank => Sys2Proof.Machine.execScrubStep bank s
  | .actWindowEnd => Sys2Proof.Machine.execActWindowEnd s
  | .throttleExpiry cls => Sys2Proof.Machine.execThrottleExpiry cls s
  | .quotaWindowEnd => Sys2Proof.Machine.execQuotaWindowEnd s
  | .acquisitionTimeout id => Sys2Proof.Machine.execAcquisitionTimeout id s
  | .acquisitionRetry id => Sys2Proof.Machine.execAcquisitionRetry id s
  | .memGetStats d => Sys2Proof.Machine.execMemGetStats d s
  | .memGetEccLog d => Sys2Proof.Machine.execMemGetEccLog d s
  | .memClearEccLog d => Sys2Proof.Machine.execMemClearEccLog d s
  | .memRepair d vddFuse => Sys2Proof.Machine.execMemRepair d vddFuse s
  | .memSetMapping d => Sys2Proof.Machine.execMemSetMapping d s
  | .memTrain d => Sys2Proof.Machine.execMemTrain d s
  | .trainingComplete results => Sys2Proof.Machine.execTrainingComplete results s
  | .memPatternTest d => Sys2Proof.Machine.execMemPatternTest d s
  | .memFreeze d => Sys2Proof.Machine.execMemFreeze d s
  | .freezeComplete => Sys2Proof.Machine.execFreezeComplete s
  | .memThaw d => Sys2Proof.Machine.execMemThaw d s
  | .sync t1 corr => Sys2Proof.Machine.execSync t1 corr s
  | .delayResp seq t4 corr interval => Sys2Proof.Machine.execDelayResp seq t4 corr interval s
  | .announce a => Sys2Proof.Machine.execAnnounce a s
  | .delayReq => Sys2Proof.Machine.execDelayReq s
  | .masterLost => Sys2Proof.Machine.execMasterLost s
  | .holdoverDriftUpdate => Sys2Proof.Machine.execHoldoverDriftUpdate s
  | .holdMaxExpiry => Sys2Proof.Machine.execHoldMaxExpiry s
  | .refclkFault => Sys2Proof.Machine.execRefclkFault s
  | .refclkRecovery => Sys2Proof.Machine.execRefclkRecovery s
  | .compareFire n => Sys2Proof.Machine.execCompareFire n s
  | .captureEdge gpio rising => Sys2Proof.Machine.execCaptureEdge gpio rising s
  | .timeGet d => Sys2Proof.Machine.execTimeGet d s
  | .timeGetStatus d => Sys2Proof.Machine.execTimeGetStatus d s
  | .timeSetConfig d => Sys2Proof.Machine.execTimeSetConfig d s
  | .timeSet d => Sys2Proof.Machine.execTimeSet d s
  | .timeAcceptStep d => Sys2Proof.Machine.execTimeAcceptStep d s
  | .timeSetCompare d => Sys2Proof.Machine.execTimeSetCompare d s
  | .timeSetCapture d => Sys2Proof.Machine.execTimeSetCapture d s
  | .audioSetPort d => Sys2Proof.Machine.execAudioSetPort d s
  | .audioStart d => Sys2Proof.Machine.execAudioStart d s
  | .audioStop d => Sys2Proof.Machine.execAudioStop d s
  | .audioMute d => Sys2Proof.Machine.execAudioMute d s
  | .audioSetGain d => Sys2Proof.Machine.execAudioSetGain d s
  | .audioSetSlots d => Sys2Proof.Machine.execAudioSetSlots d s
  | .audioSetRing d => Sys2Proof.Machine.execAudioSetRing d s
  | .audioGetStatus d => Sys2Proof.Machine.execAudioGetStatus d s
  | .audioFrame dir samples => Sys2Proof.Machine.execAudioFrame dir samples s
  | .audioClockStop dir => Sys2Proof.Machine.execAudioClockStop dir s
  | .zcTimeout dir => Sys2Proof.Machine.execZcTimeout dir s
  | .doorbell mask => Sys2Proof.Machine.execDoorbell mask s
  | .drawerRelease mask => Sys2Proof.Machine.execDrawerRelease mask s
  | .eqEnable v => Sys2Proof.Machine.execEqEnable v s
  | .eqHead v => Sys2Proof.Machine.execEqHead v s
  | .registerWrite addr width v => Sys2Proof.Machine.execRegisterWrite addr width v s
  | .readClear addr recurs => Sys2Proof.Machine.execReadClear addr recurs s
  | .coalesceTimer vec => Sys2Proof.Machine.execCoalesceTimer vec s
  | .dmaError addr owner => Sys2Proof.Machine.execDmaError addr owner s
  | .remoteDatagram g => Sys2Proof.Machine.execRemoteDatagram g s
  | .remoteSessionIdle session => Sys2Proof.Machine.execRemoteSessionIdle session s
  | .netLink up => Sys2Proof.Machine.execNetLink up s
  | .arpRequest target => Sys2Proof.Machine.execArpRequest target s
  | .icmpEcho g => Sys2Proof.Machine.execIcmpEcho g s
  | .diagCapture d => Sys2Proof.Machine.execDiagCapture d s
  | .diagBenchRun d => Sys2Proof.Machine.execDiagBenchRun d s
  | .benchDone mismatches digest => Sys2Proof.Machine.execBenchDone mismatches digest s
  | .diagGetFaults d => Sys2Proof.Machine.execDiagGetFaults d s
  | .diagGetThermal d => Sys2Proof.Machine.execDiagGetThermal d s
  | .diagGetSlack d => Sys2Proof.Machine.execDiagGetSlack d s
  | .chestSessionOpen d => Sys2Proof.Machine.execChestSessionOpen d s
  | .chestSessionFinish d => Sys2Proof.Machine.execChestSessionFinish d s
  | .chestSessionClose d => Sys2Proof.Machine.execChestSessionClose d s
  | .chestAttest d => Sys2Proof.Machine.execChestAttest d s
  | .chestGetCert d => Sys2Proof.Machine.execChestGetCert d s
  | .chestImportKey d => Sys2Proof.Machine.execChestImportKey d s
  | .chestListKeys d => Sys2Proof.Machine.execChestListKeys d s
  | .chestDeleteKey d => Sys2Proof.Machine.execChestDeleteKey d s
  | .chestDebugUnlock d => Sys2Proof.Machine.execChestDebugUnlock d s
  | .sessionHandshakeTimeout session => Sys2Proof.Machine.execSessionHandshakeTimeout session s
  | .entropyFail => Sys2Proof.Machine.execEntropyFail s
  | .residueMismatch unit e group tok => Sys2Proof.Machine.execResidueMismatch unit e group tok s
  | .thermalSample readings => Sys2Proof.Machine.execThermalSample readings s
  | .slackWindowEnd samples => Sys2Proof.Machine.execSlackWindowEnd samples s
  | .headerError p k => Sys2Proof.Machine.execHeaderError p k s
  | .colourGroupLeave e => Sys2Proof.Machine.execColourGroupLeave e s
  | .scrubSlow bank => Sys2Proof.Machine.execScrubSlow bank s
  | .comparePulseEnd n => Sys2Proof.Machine.execComparePulseEnd n s
  | .entropyPass => Sys2Proof.Machine.execEntropyPass s

end Sys2Proof.Machine
end

