-- ==== Sys2Proof/WellFormed.lean ====
section
/-! DEFINITION. Which commands are well formed: every number of a port, lane, queue, unit or other part lies in the range that the spec
gives the part. A Drawer's number is left open, since R449 gives the running command of a freed remote Drawer an entry of its own
(log 16); operands that arrive as data have no ill-formed value. -/

namespace Sys2Proof

/-- A frame source names a port, a decode context or a review ring that exists (R63, R218, R339). -/
def SourceId.wf (x : SourceId) : Bool :=
  match x with
  | .sensor l => decide (l < 4)
  | .decode e c => decide (e < 2) && decide (c < 32)
  | .review r => decide (r < 16)

/-- An output is SDI0 to SDI3 or the display pair (R255, R269). -/
def OutputId.wf (x : OutputId) : Bool :=
  match x with
  | .sdi n => decide (n < 4)
  | .display => true

/-- The command is well formed. -/
def Instr.wf (i : Instr) : Bool :=
  match i with
  | .porstNAssert => true
  | .porstNRelease _ celCfg _ => decide (celCfg < 4)
  | .bootImageCheck _ => true
  | .memberReadyTimeout m => decide (m < 4)
  | .lockstepMismatch => true
  | .firmwareTrap _ => true
  | .firmwareWatchdog => true
  | .systemGetStatus _ => true
  | .systemEnterService _ => true
  | .systemEnterMaintenance _ _ => true
  | .systemRegisterBuffer _ => true
  | .systemUnregisterBuffer _ => true
  | .systemSetNetwork _ => true
  | .systemWarmReset _ => true
  | .planLoad _ _ => true
  | .planValidation _ => true
  | .planEdit _ _ => true
  | .planActivate _ => true
  | .planRelease _ => true
  | .planGetShelves _ => true
  | .sensorStart _ => true
  | .sensorStop _ => true
  | .sensorSetExposure _ => true
  | .sensorLoadDefects _ => true
  | .sensorSetShading _ => true
  | .sensorGetLinkStats _ => true
  | .sensorTest _ => true
  | .sensorInject _ => true
  | .sensorBcWrite _ => true
  | .sensorBcRead _ => true
  | .ckPresent p => decide (p < 4)
  | .ckLoss p => decide (p < 4)
  | .trainingTimeout p => decide (p < 4)
  | .alignmentMarker p lane _ => decide (p < 4) && decide (lane < 8)
  | .alignmentLoss p lane => decide (p < 4) && decide (lane < 8)
  | .frameStart p _ => decide (p < 4)
  | .rowData p _ => decide (p < 4)
  | .frameEnd p _ => decide (p < 4)
  | .sleep p _ => decide (p < 4)
  | .embedded p _ => decide (p < 4)
  | .reply p _ => decide (p < 4)
  | .bcReplyTimeout p => decide (p < 4)
  | .sleepOverrun p => decide (p < 4)
  | .backChannelSleep p => decide (p < 4)
  | .trigger p => decide (p < 4)
  | .eyeWindowEnd p lane _ => decide (p < 4) && decide (lane < 8)
  | .patternTestEnd p lane _ => decide (p < 4) && decide (lane < 8)
  | .sourceTicketIssue src => src.wf
  | .perforationEdge gpio _ => decide (gpio < 32)
  | .entryRetire e => decide (e < 16)
  | .firmwarePageCommit p _ => decide (p < 4)
  | .pipeCommitPage _ => true
  | .pipeHoldPolicy _ => true
  | .pipeReleasePolicy _ => true
  | .pipeSetStatsRing _ => true
  | .pipeGetUnits _ => true
  | .pipeCalFrame _ => true
  | .pipeGetCal _ => true
  | .pipeSetCal _ => true
  | .pipeSetHostRing _ => true
  | .groupDeal pos => decide (pos < 16)
  | .groupLeave e => decide (e < 16)
  | .calibrationUpdate e => decide (e < 16)
  | .staleLimit p j => decide (p < 4) && decide (j < 3)
  | .holdoverSample => true
  | .rawGroupStart e => decide (e < 16)
  | .rawGroupCommit e => decide (e < 16)
  | .colourGroupDeal pos => decide (pos < 24)
  | .renditionSetLut _ => true
  | .renditionSetCurves _ => true
  | .renditionSwitchBank _ => true
  | .renditionFrameComplete slot e => decide (slot < 16) && decide (e < 16)
  | .codeOpen _ => true
  | .codeClose _ => true
  | .codeForceIdr _ => true
  | .codePinLtr _ => true
  | .codeUnpinLtr _ => true
  | .codeSetBitstreamRing _ => true
  | .codeSetStatsRing _ => true
  | .codeGetContext _ => true
  | .pictureBoundary engine => decide (engine < 2)
  | .decodeWatchdog engine c => decide (engine < 2) && decide (c < 32)
  | .bitstreamCopy engine c => decide (engine < 2) && decide (c < 32)
  | .byteRingWrite ring => decide (ring < 16)
  | .outputStart _ => true
  | .outputStop _ => true
  | .outputSetTimecode _ => true
  | .outputGetStatus _ => true
  | .latch out => out.wf
  | .sdiUnderrun n => decide (n < 4)
  | .dispUnderrun head => decide (head < 2)
  | .lineMatch => true
  | .frameDone => true
  | .displayStart _ => true
  | .displayStop _ => true
  | .displayWriteBuffer _ => true
  | .displayCommit _ => true
  | .displaySetLineMatch _ => true
  | .displaySetEvents _ => true
  | .displayGetEdid _ => true
  | .displayTrainingEnd _ _ => true
  | .hpdDeassert head => decide (head < 2)
  | .hpdAssert head _ => decide (head < 2)
  | .hpdIrq head _ => decide (head < 2)
  | .sqTailDoorbell q v => decide (q < 4 ∨ q = 255) && decide (v.value < 2 ^ 32)
  | .cqHeadDoorbell q v => decide (q < 4 ∨ q = 255) && decide (v < 2 ^ 32)
  | .entryFetch q => decide (q < 4 ∨ q = 255)
  | .completionPost q => decide (q < 4 ∨ q = 255)
  | .writeRecord q cid => decide (q < 4 ∨ q = 255) && decide (cid < 65536)
  | .readRecord q cid => decide (q < 4 ∨ q = 255) && decide (cid < 65536)
  | .verifyRecord q cid => decide (q < 4 ∨ q = 255) && decide (cid < 65536)
  | .trimClip q cid => decide (q < 4 ∨ q = 255) && decide (cid < 65536)
  | .flush q cid => decide (q < 4 ∨ q = 255) && decide (cid < 65536)
  | .abort q cid => decide (q < 4 ∨ q = 255) && decide (cid < 65536)
  | .recordAccept => true
  | .recordOnMedium => true
  | .identify q cid => decide (q < 4 ∨ q = 255) && decide (cid < 65536)
  | .getLogPage q cid => decide (q < 4 ∨ q = 255) && decide (cid < 65536)
  | .getFeatures q cid => decide (q < 4 ∨ q = 255) && decide (cid < 65536)
  | .setFeatures q cid => decide (q < 4 ∨ q = 255) && decide (cid < 65536)
  | .firmwareDownload q cid => decide (q < 4 ∨ q = 255) && decide (cid < 65536)
  | .firmwareCommit q cid => decide (q < 4 ∨ q = 255) && decide (cid < 65536)
  | .firmwareServes => true
  | .activationHoldExpiry => true
  | .powerState q cid => decide (q < 4 ∨ q = 255) && decide (cid < 65536)
  | .powerEntryProceed => true
  | .storeCreateQueue _ => true
  | .storeDeleteQueue _ => true
  | .storeReset _ => true
  | .storeResetDone => true
  | .storeFormSet _ => true
  | .storeMount _ => true
  | .storeUnmount _ => true
  | .storeClipStart _ => true
  | .storeClipClose _ => true
  | .storeGetClip _ => true
  | .storePlay _ => true
  | .nvmeCompletion m _ _ _ => decide (m < 4)
  | .nvmeCommandTimeout m _ => decide (m < 4)
  | .nvmeAbortTimeout m _ _ => decide (m < 4)
  | .memberFlushTimer m => decide (m < 4)
  | .checkpointTimer => true
  | .superblockTimer => true
  | .memCompress _ => true
  | .memDecompress _ => true
  | .memJobCancel _ => true
  | .compressionFrame => true
  | .handleExpiry _ => true
  | .arbiterGrant resource _ => decide (resource < 64 ∨ (128 ≤ resource ∧ resource < 140))
  | .cellarCommandSlot ifc => decide (ifc < 12)
  | .refreshDue ifc bank => decide (ifc < 12) && decide (bank < 16)
  | .mr4Poll ifc rate => decide (ifc < 12) && decide (rate < 32)
  | .driftTracking => true
  | .scrubStep bank => decide (bank < 64)
  | .actWindowEnd => true
  | .throttleExpiry cls => decide (cls < 8)
  | .quotaWindowEnd => true
  | .acquisitionTimeout _ => true
  | .acquisitionRetry _ => true
  | .memGetStats _ => true
  | .memGetEccLog _ => true
  | .memClearEccLog _ => true
  | .memRepair _ _ => true
  | .memSetMapping _ => true
  | .memTrain _ => true
  | .trainingComplete _ => true
  | .memPatternTest _ => true
  | .memFreeze _ => true
  | .freezeComplete => true
  | .memThaw _ => true
  | .sync _ _ => true
  | .delayResp _ _ _ _ => true
  | .announce _ => true
  | .delayReq => true
  | .masterLost => true
  | .holdoverDriftUpdate => true
  | .holdMaxExpiry => true
  | .refclkFault => true
  | .refclkRecovery => true
  | .compareFire n => decide (n < 8)
  | .captureEdge gpio _ => decide (gpio < 32)
  | .timeGet _ => true
  | .timeGetStatus _ => true
  | .timeSetConfig _ => true
  | .timeSet _ => true
  | .timeAcceptStep _ => true
  | .timeSetCompare _ => true
  | .timeSetCapture _ => true
  | .audioSetPort _ => true
  | .audioStart _ => true
  | .audioStop _ => true
  | .audioMute _ => true
  | .audioSetGain _ => true
  | .audioSetSlots _ => true
  | .audioSetRing _ => true
  | .audioGetStatus _ => true
  | .audioFrame dir _ => decide (dir < 3)
  | .audioClockStop dir => decide (dir < 3)
  | .zcTimeout dir => decide (dir < 3)
  | .doorbell mask => decide (mask.value < 2 ^ 32)
  | .drawerRelease mask => decide (mask < 2 ^ 32)
  | .eqEnable v => decide (v < 2 ^ 32)
  | .eqHead v => decide (v < 2 ^ 32)
  | .registerWrite addr width v => decide (addr < 2 ^ 16) && decide (width = 1 ∨ width = 2 ∨ width = 4 ∨ width = 8) && decide (v < 2 ^ 64)
  | .readClear _ _ => true
  | .coalesceTimer vec => decide (vec < 64)
  | .dmaError _ _ => true
  | .remoteDatagram _ => true
  | .remoteSessionIdle _ => true
  | .netLink _ => true
  | .arpRequest _ => true
  | .icmpEcho _ => true
  | .diagCapture _ => true
  | .diagBenchRun _ => true
  | .benchDone _ _ => true
  | .diagGetFaults _ => true
  | .diagGetThermal _ => true
  | .diagGetSlack _ => true
  | .chestSessionOpen _ => true
  | .chestSessionFinish _ => true
  | .chestSessionClose _ => true
  | .chestAttest _ => true
  | .chestGetCert _ => true
  | .chestImportKey _ => true
  | .chestListKeys _ => true
  | .chestDeleteKey _ => true
  | .chestDebugUnlock _ => true
  | .sessionHandshakeTimeout _ => true
  | .entropyFail => true
  | .residueMismatch unit e _ _ => decide (unit.kind < 5) && decide (e < 16)
  | .thermalSample readings => decide (readings.length = 28)
  | .slackWindowEnd _ => true
  | .headerError p _ => decide (p < 4)
  | .colourGroupLeave e => decide (e < 16)
  | .scrubSlow bank => decide (bank < 64)
  | .comparePulseEnd n => decide (n < 8)
  | .entropyPass => true

end Sys2Proof
end

