-- ==== Sys2Proof/Safety.lean ====
section
/-! DEFINITION. The words in which statements speak: a command that may run, and the invariants that every step keeps. -/

namespace Sys2Proof.Machine

open Sys2Proof

/-- On a running core, Drawer `d` holds the accepted command `c`, whose opcode is `op` and which has not begun; no activation is between its
handover and the new firmware (R433, R436). -/
def State.accepted (s : State) (d op : Nat) (c : DrawerCmd) : Bool :=
  s.live && decide ((s.drawer d).st = .busy) && !(s.drawer d).begun && decide ((s.drawer d).cmd = c) && decide (c.opcode = op) && !s.sys.handover

/-- Payload bytes from `n` up to LENGTH are 0 (R437). -/
def DrawerCmd.endsAt (c : DrawerCmd) (n : Nat) : Bool := allZero (c.payload.drop n)

/-! ### The commands that a Drawer carries, with their opcodes (Table 15-10 onward) -/

/-- SYSTEM commands. -/
def systemCmds (d : Nat) (v : Bool) : List (Instr × Nat) :=
  [(.systemGetStatus d, 0x0101), (.systemEnterService d, 0x0102), (.systemEnterMaintenance d v, 0x0103), (.systemRegisterBuffer d, 0x0104),
   (.systemUnregisterBuffer d, 0x0105), (.systemSetNetwork d, 0x0106), (.systemWarmReset d, 0x0107)]

/-- PLAN commands. -/
def planCmds (d : Nat) (img : PlanImage) : List (Instr × Nat) :=
  [(.planLoad d img, 0x0201), (.planEdit d img, 0x0202), (.planActivate d, 0x0203), (.planRelease d, 0x0204), (.planGetShelves d, 0x0205)]

/-- SENSOR commands. -/
def sensorCmds (d : Nat) : List (Instr × Nat) :=
  [(.sensorStart d, 0x0301), (.sensorStop d, 0x0302), (.sensorSetExposure d, 0x0303), (.sensorLoadDefects d, 0x0304),
   (.sensorSetShading d, 0x0305), (.sensorGetLinkStats d, 0x0306), (.sensorTest d, 0x0307), (.sensorInject d, 0x0308),
   (.sensorBcWrite d, 0x0309), (.sensorBcRead d, 0x030A)]

/-- PIPE commands. -/
def pipeCmds (d : Nat) : List (Instr × Nat) :=
  [(.pipeCommitPage d, 0x0401), (.pipeHoldPolicy d, 0x0402), (.pipeReleasePolicy d, 0x0403), (.pipeSetStatsRing d, 0x0404),
   (.pipeGetUnits d, 0x0405), (.pipeCalFrame d, 0x0406), (.pipeGetCal d, 0x0407), (.pipeSetCal d, 0x0408), (.pipeSetHostRing d, 0x0409)]

/-- RENDITION commands. -/
def renditionCmds (d : Nat) : List (Instr × Nat) :=
  [(.renditionSetLut d, 0x0501), (.renditionSetCurves d, 0x0502), (.renditionSwitchBank d, 0x0503)]

/-- CODE commands. -/
def codeCmds (d : Nat) : List (Instr × Nat) :=
  [(.codeOpen d, 0x0601), (.codeClose d, 0x0602), (.codeForceIdr d, 0x0603), (.codePinLtr d, 0x0604), (.codeUnpinLtr d, 0x0605),
   (.codeSetBitstreamRing d, 0x0606), (.codeSetStatsRing d, 0x0607), (.codeGetContext d, 0x0608)]

/-- OUTPUT commands. -/
def outputCmds (d : Nat) : List (Instr × Nat) :=
  [(.outputStart d, 0x0701), (.outputStop d, 0x0702), (.outputSetTimecode d, 0x0703), (.outputGetStatus d, 0x0704)]

/-- DISPLAY commands. -/
def displayCmds (d : Nat) : List (Instr × Nat) :=
  [(.displayStart d, 0x0801), (.displayStop d, 0x0802), (.displayWriteBuffer d, 0x0803), (.displayCommit d, 0x0804),
   (.displaySetLineMatch d, 0x0805), (.displaySetEvents d, 0x0806), (.displayGetEdid d, 0x0807)]

/-- STORE commands. -/
def storeCmds (d : Nat) : List (Instr × Nat) :=
  [(.storeCreateQueue d, 0x0901), (.storeDeleteQueue d, 0x0902), (.storeReset d, 0x0903), (.storeFormSet d, 0x0904),
   (.storeMount d, 0x0905), (.storeUnmount d, 0x0906), (.storeClipStart d, 0x0907), (.storeClipClose d, 0x0908),
   (.storeGetClip d, 0x0909), (.storePlay d, 0x090A)]

/-- TIME commands. -/
def timeCmds (d : Nat) : List (Instr × Nat) :=
  [(.timeGet d, 0x0A01), (.timeGetStatus d, 0x0A02), (.timeSetConfig d, 0x0A03), (.timeSet d, 0x0A04), (.timeAcceptStep d, 0x0A05),
   (.timeSetCompare d, 0x0A06), (.timeSetCapture d, 0x0A07)]

/-- AUDIO commands. -/
def audioCmds (d : Nat) : List (Instr × Nat) :=
  [(.audioSetPort d, 0x0B01), (.audioStart d, 0x0B02), (.audioStop d, 0x0B03), (.audioMute d, 0x0B04), (.audioSetGain d, 0x0B05),
   (.audioSetSlots d, 0x0B06), (.audioSetRing d, 0x0B07), (.audioGetStatus d, 0x0B08)]

/-- CHEST commands. -/
def chestCmds (d : Nat) : List (Instr × Nat) :=
  [(.chestSessionOpen d, 0x0C01), (.chestSessionFinish d, 0x0C02), (.chestSessionClose d, 0x0C03), (.chestAttest d, 0x0C04),
   (.chestGetCert d, 0x0C05), (.chestImportKey d, 0x0C06), (.chestListKeys d, 0x0C07), (.chestDeleteKey d, 0x0C08),
   (.chestDebugUnlock d, 0x0C09)]

/-- DIAG commands. -/
def diagCmds (d : Nat) : List (Instr × Nat) :=
  [(.diagCapture d, 0x0D01), (.diagBenchRun d, 0x0D02), (.diagGetFaults d, 0x0D03), (.diagGetThermal d, 0x0D04), (.diagGetSlack d, 0x0D05)]

/-- MEM commands. -/
def memCmds (d : Nat) (v : Bool) : List (Instr × Nat) :=
  [(.memGetStats d, 0x0E01), (.memGetEccLog d, 0x0E02), (.memClearEccLog d, 0x0E03), (.memRepair d v, 0x0E04), (.memSetMapping d, 0x0E05),
   (.memTrain d, 0x0E06), (.memPatternTest d, 0x0E07), (.memFreeze d, 0x0E08), (.memThaw d, 0x0E09), (.memCompress d, 0x0E0A),
   (.memDecompress d, 0x0E0B), (.memJobCancel d, 0x0E0C)]

/-- Every command that Drawer `d` may carry, with its opcode; `v` and `img` are the operands that arrive beside it. -/
def drawerCmds (d : Nat) (v : Bool) (img : PlanImage) : List (Instr × Nat) :=
  systemCmds d v ++ planCmds d img ++ sensorCmds d ++ pipeCmds d ++ renditionCmds d ++ codeCmds d ++ outputCmds d ++
  displayCmds d ++ storeCmds d ++ timeCmds d ++ audioCmds d ++ chestCmds d ++ diagCmds d ++ memCmds d v

/-! ### Store commands and invariants -/

/-- On a running core, `c` is the outstanding Store command of queue `q` and CID, its opcode is `op` and it has not begun (R280). -/
def State.outstanding (s : State) (q cid op : Nat) (c : StoreCmd) : Bool :=
  s.live && decide ((s.store.cmds.find? fun x => x.q == qIndex q && x.entry.cid == cid) = some c) && decide (c.entry.opcode = op) && !c.begun

/-- Boot and power hold legal values: STAGE 0 to 2 and PSTATE 0 to 3 (Table 15-2); and no power-state entry under way, and no outstanding Power State
command, names a state above P3 (R307). -/
def State.legal (s : State) : Bool :=
  decide (s.sys.stage ≤ 2) && decide (s.sys.pstate ≤ 3) && s.store.powerEntry.all (fun e => decide (e.2.1 ≤ 3)) &&
  s.store.cmds.all (fun c => c.entry.opcode != 0x87 || decide (c.entry.arg0 ≤ 3))

/-- The tables have the sizes that the spec gives them: ports and their sensors (R63), audio directions (R419), HEVC contexts and engines (R218, R224), outputs (R255),
display heads (R269), host rings (R443), rendition slots (R197), Shelves (R33), Attic banks and Cellar interfaces (R358, R373), slack records (R506). -/
def State.sized (s : State) : Bool :=
  decide (s.ports.length = 4) && decide (s.sensors.length = 4) && decide (s.audio.length = 3) && decide (s.ctxs.length = 64) &&
  decide (s.engines.length = 2) && decide (s.sdi.length = 4) && decide (s.disp.heads.length = 2) && decide (s.hostRings.length = 16) &&
  decide (s.rend.length = 16) && decide (s.shelves.length = 8) && decide (s.mem.banks.length = 64) && decide (s.mem.ifcs.length = 12) &&
  decide (s.slack.length = 5)

/-- Every waiting command is well formed. -/
def State.queueWf (s : State) : Bool := s.pending.all Instr.wf

end Sys2Proof.Machine
end

