-- ==== Sys2Proof/Certificates/Slice0/Obligations.lean ====
section
/-! DEFINITION. The statements about the model: for each group of commands, what they leave in the state and what they leave alone, under conditions on
the state and the operands. A Drawer command is taken as accepted (`State.accepted`), a Store command as outstanding (`State.outstanding`).
`Completes` at the end of a docstring names the commands for which the statement concludes that exec answers a next state with the command's own effect. -/

open Sys2Proof Sys2Proof.Machine

/-! ### The block -/

/-- A step runs the command at the front of the queue on the state with the queue's rest. -/
def Obligations.StepRunsTheFrontCommand : Prop :=
  ∀ (s : State) (c : Instr) (rest : List Instr), s.pending = c :: rest → step s = exec c { s with pending := rest }

/-- On an empty queue one tick passes: COUNT advances by one modulo 2⁶⁴ (R397) and nothing else changes. That a step without a command is one tick is
the model's choice (log 1). A core that PORST_N holds or that the thermal trip holds (R501, R512) is changed by nothing but PORST_N: every other
command leaves the state as it is. -/
def Obligations.AStepWithoutEffect : Prop :=
  (∀ s : State, s.pending = [] → ∃ t, step s = .next t ∧ t.time.count = (s.time.count + 1) % 2 ^ 64 ∧
    t = { s with time := { s.time with count := t.time.count } }) ∧
  (∀ (s : State) (c : Instr), s.live = false → c ≠ .porstNAssert → (∀ b n l, c ≠ .porstNRelease b n l) →
    exec c s = .next s)

/-- The machine right after reset holds what the spec states: Maintenance mode, P0 and STAGE 0 (R26, R522), no session (R468), no queue pair (R278),
no registered buffer (R441), every Shelf Empty and the generation counter 1 (R37), every Drawer Free (R433), COUNT, OFFSET, ANCHOR and DRIFT 0 and
Unsynchronised (R400), every unit in service with GEN 0 (R494), every port Down (R93), every context Closed (R224), an empty holdover table (R153), an
empty error log (R368) and an empty command queue. The state at reset meets the invariants: canonical host memory, an empty queue, legal boot and
power values, and tables of the sizes that the spec gives. -/
def Obligations.ResetHoldsTheStatedValues : Prop :=
  (let s := State.reset
  s.sys.service = false ∧ s.sys.pstate = 0 ∧ s.sys.stage = 0 ∧ s.sec.sessions = [] ∧ s.store.pairs = List.replicate 5 none ∧ s.bufs = [] ∧
  s.shelves.map (·.st) = List.replicate 8 .empty ∧ s.planCtr = 1 ∧ s.drawers.map (·.st) = List.replicate 20 .free ∧
  s.time.count = 0 ∧ s.time.offset = 0 ∧ s.time.anchor = 0 ∧ s.time.drift = 0 ∧ s.time.st = .unsync ∧
  (s.units.units.map (·.st)).count .active = 90 ∧ s.units.feGen = List.replicate 16 0 ∧ s.units.csGen = List.replicate 24 0 ∧
  s.ports.map (·.st) = List.replicate 4 .down ∧ s.ctxs.map (·.st) = List.replicate 64 .closed ∧ (s.holdTable.map (·.n)).sum = 0 ∧
  s.mem.eccLog = [] ∧ s.pending = []) ∧
  (State.reset.hostMem.wf = true ∧ State.reset.pending = [] ∧ State.reset.queueWf = true ∧ State.reset.legal = true ∧ State.reset.sized = true)

/-! ### Reset, boot and power -/

/-- A released low pulse of at least 10 µs is a cold start, with the straps sampled (R512, R513); a pulse under 1 µs is ignored (Table 19-6); asserting
PORST_N holds the core and changes nothing else. A warm reset posts no result and leaves the second column of Table 18-5: Maintenance at STAGE 0
with every Drawer Free and BAR0 at its reset values, sessions, buffers, pairs and plans gone, while Chest slots, unit states, COUNT and the
readings, fused repairs, and the records on the medium stay (R523). In P3 it is the exit from P3 (R527). The boot ROM boots the slot that the
governing marker names when its image is valid, else the other slot, else it stays at STAGE 0 (R459, R460, R515): here with QSPI boot and no image
loaded. A booted image runs at STAGE 1 while bring-up initialises the four members and trains the Cellar (R519). Completes: porstNAssert,
porstNRelease, systemWarmReset, bootImageCheck. -/
def Obligations.ResetsAndBoot : Prop :=
  ((∀ s : State, exec .porstNAssert s = .next { s with sys := { s.sys with held := true } }) ∧
  (∀ (s : State) (b : Bool) (n l : Nat), s.sys.held = true → l < 1000 →
    exec (.porstNRelease b n l) s = .next { s with sys := { s.sys with held := false } }) ∧
  (∀ (s : State) (b : Bool) (n l : Nat), s.sys.held = true → n < 4 → 10000 ≤ l → ∃ t, exec (.porstNRelease b n l) s = .next t ∧
    t.sys.held = false ∧ t.sys.tripped = false ∧ t.sys.tripFlag = s.sys.tripFlag ∧ t.sys.bootSel = b ∧ t.sys.celCfg = n ∧
    t.sys.stage = 0 ∧ t.sys.pstate = 0 ∧ t.sys.service = false ∧ t.sys.rollback = s.sys.rollback ∧ t.sys.image = none ∧
    t.sec = State.reset.sec ∧ t.units = State.reset.units ∧ t.therm = State.reset.therm ∧ t.drawers = State.reset.drawers ∧
    t.ev = State.reset.ev ∧ t.bufs = [] ∧ t.net = State.reset.net ∧ t.time = State.reset.time ∧ t.holdTable = State.reset.holdTable ∧
    t.shelves = State.reset.shelves ∧ t.planCtr = 1 ∧ t.sensors = State.reset.sensors ∧ t.table = State.reset.table ∧
    t.rend = State.reset.rend ∧ t.ctxs = State.reset.ctxs ∧ t.sdi = State.reset.sdi ∧ t.store.pairs = State.reset.store.pairs ∧
    t.store.mounted = none ∧ t.store.super = s.store.super ∧ t.mem.eccLog = [] ∧ t.mem.repairs = s.mem.repairs.filter (·.fused) ∧
    t.hostMem = s.hostMem ∧ t.pending = s.pending)) ∧
  (∀ (s : State) (d : Nat) (c : DrawerCmd), s.live = true → (s.drawer d).st = .busy → (s.drawer d).begun = false → (s.drawer d).cmd = c →
    c.opcode = 0x0107 → c.endsAt 0 = true → ∃ t, exec (.systemWarmReset d) s = .next t ∧
    t.sys.stage = 0 ∧ t.sys.pstate = 0 ∧ t.sys.service = false ∧ t.drawers = State.reset.drawers ∧ t.ev = State.reset.ev ∧ t.bufs = [] ∧
    t.sec.sessions = [] ∧ t.shelves = State.reset.shelves ∧ t.planCtr = 1 ∧ t.store.pairs = State.reset.store.pairs ∧ t.store.mounted = none ∧
    t.ports.map (·.st) = s.ports.map (fun _ => LinkSt.down) ∧ t.ctxs = State.reset.ctxs ∧ t.rend = State.reset.rend ∧
    t.holdTable = State.reset.holdTable ∧ t.mem.eccLog = [] ∧ t.mem.repairs = s.mem.repairs.filter (·.fused) ∧ t.pending = s.pending ∧
    (s.sys.pstate ≠ 3 → t.sec.slots = s.sec.slots ∧ t.units.units = s.units.units ∧ t.units.feGen = s.units.feGen ∧
      t.units.csGen = s.units.csGen ∧ t.time.count = s.time.count ∧ (∀ k, t.time.readingAt k = s.time.readingAt k) ∧ t.time.st = .unsync ∧
      t.store.recs.map (·.seq) = (s.store.recs.filter (·.st == .onMedium)).map (·.seq) ∧ t.sys.loading = s.sys.image) ∧
    (s.sys.pstate = 3 → t.units = State.reset.units ∧ t.time = State.reset.time ∧ t.sec.slots = State.reset.sec.slots)) ∧
  (∀ (s : State) (v : Bool) (a b : Nat), s.live = true → s.sys.stage = 0 → s.sys.pstate ≠ 3 → s.sys.bootSel = false → s.sys.loading = none →
    s.sys.flash.order = [a, b] →
    let image := fun i => s.sys.flash.slots.getD i []
    ∃ t, exec (.bootImageCheck v) s = .next t ∧
    (s.imageCheck (image a) = 0 → t.sys.image = some { bytes := image a, slot := a, fallback := false }) ∧
    (s.imageCheck (image a) ≠ 0 → s.imageCheck (image b) = 0 → t.sys.image = some { bytes := image b, slot := b, fallback := true }) ∧
    (s.imageCheck (image a) = 0 ∨ s.imageCheck (image b) = 0 →
      t.sys.stage = 1 ∧ t.sys.bringUp.running = true ∧ t.store.members.map (fun m => m.cmds.map (·.kind)) = List.replicate 4 [NvmeKind.init] ∧
      t.mem.training = (if s.sys.ifcCount = 0 then none else some { mask := 2 ^ s.sys.ifcCount - 1 })) ∧
    (s.imageCheck (image a) ≠ 0 → s.imageCheck (image b) ≠ 0 → t = s))

/-- A member that is not ready 5 s after bring-up asked for it is refused; the last of the four ends the wait, and with no superblocks bring-up ends at
STAGE 2 (R519). Members ready or refused before, Cellar training over. The safe loop (R520, R521): firmware that serves falls to STAGE 1 with the
cause of Table 18-4; every output and the display stop at their next latch; every Busy Drawer is answered; a clip stays open; and no port goes on
without a stop. NVME_COMPLETION during bring-up (R311, R519): a member that reports block size 4,096, no metadata, an MDTS of at least 131,072 bytes
and four queue pairs is ready, any other is refused; while another member is awaited nothing more happens. DMA_ERROR (R442): a failed transfer of a
ring raises EVT.SYS.DMA_ERROR with the address, and one of a Drawer command with a buffer also ends that command with MEDIA_ERROR. Completes:
memberReadyTimeout, nvmeCompletion, dmaError, lockstepMismatch, firmwareWatchdog, firmwareTrap. -/
def Obligations.BringUpAndFailures : Prop :=
  (∀ (s : State) (m : Nat) (c : NvmeCmd), s.live = true → m < 4 → s.store.members.length = 4 → s.sys.bringUp.running = true →
    (s.store.members.getD m default).cmds = [c] → c.kind = .init → c.since + 5000000000 ≤ s.now → s.sys.bringUp.memberDone.length = 4 →
    ∃ t, exec (.memberReadyTimeout m) s = .next t ∧ (t.store.members.getD m default).st = .refused ∧ (t.store.members.getD m default).cmds = [] ∧
    (s.sys.bringUp.trainDone = true → s.sys.bringUp.mountTried = false → (∀ k, k ≠ m → k < 4 → s.sys.bringUp.memberDone.getD k false = true) →
      s.store.super = none → s.store.mounted = none → t.sys.stage = 2 ∧ t.sys.service = false ∧ t.sys.bringUp.running = false)) ∧
  (∀ (s : State) (i : Instr) (k : Nat), (i, k) ∈ [(Instr.lockstepMismatch, 2), (.firmwareWatchdog, 3), (.firmwareTrap false, 4), (.firmwareTrap true, 1)] →
    s.live = true → s.sys.stage = 2 → s.sensors.length = 4 → ∃ t, exec i s = .next t ∧ t.sys.stage = 1 ∧ t.sys.safeCause = k ∧
    (∀ o ∈ t.sdi, o.st = .stopped ∨ o.stopping = true) ∧ (t.disp.st = .stopped ∨ t.disp.stopping = true) ∧
    (∀ x ∈ t.drawers, x.st ≠ .busy) ∧ t.store.clip.map (·.num) = s.store.clip.map (·.num) ∧
    (∀ x ∈ t.sensors, x.started = true → x.stopping.isSome = true) ∧ t.store.jobs = []) ∧
  (∀ (s : State) (m n k : Nat) (c : NvmeCmd) (i : MemberIdentity), s.live = true → m < s.store.members.length → c.kind = .init → c.id = n →
    (at! s.store.members m).cmds = [c] → k ≠ m → k < s.sys.bringUp.memberDone.length → s.sys.bringUp.memberDone.getD k true = false →
    (i.blockSize = 4096 → i.metadataBytes = 0 → 131072 ≤ i.mdts → 4 ≤ i.queuePairs →
      ∃ t, exec (.nvmeCompletion m n true i) s = .next t ∧ (at! t.store.members m).st = .ready ∧ (at! t.store.members m).ident = i ∧
      (at! t.store.members m).cmds = [] ∧ t.ev = s.ev ∧ t = { s with store := t.store, sys := t.sys } ∧ t.sys.stage = s.sys.stage) ∧
    (i.blockSize ≠ 4096 ∨ i.metadataBytes ≠ 0 ∨ i.mdts < 131072 ∨ i.queuePairs < 4 →
      ∃ t, exec (.nvmeCompletion m n true i) s = .next t ∧ (at! t.store.members m).st = .refused)) ∧
  ((∀ (s : State) (a : Nat), s.live = true → exec (.dmaError a .ring) s = .next (raise 312 0 (words64 a) none s)) ∧
  ∀ (s : State) (a d : Nat), s.live = true → (s.drawer d).st = .busy → (s.drawer d).cmd.spans ≠ [] → (∀ j ∈ s.store.jobs, j.drawer ≠ d) →
    (∀ k ∈ s.shelves, k.writing = none) → exec (.dmaError a (.drawer d)) s = .next (raise 312 0 (words64 a) none (fail d Status.mediaError s)))

/-- SYSTEM.GET_STATUS answers MODE, PSTATE, STAGE and the MAC in the order of Table 15-10; the packing of each field is the model's choice (log 57).
SYSTEM.ENTER_SERVICE sets Service mode when the Cellar is trained, a plan is loaded and no Bench test, pattern generator or loopback runs, and
raises EVT.SYS.MODE_CHANGED; when one of these fails the result is NOT_PERMITTED (R28). SYSTEM.ENTER_MAINTENANCE from Service mode with no open clip
leaves Service mode and raises EVT.SYS.MODE_CHANGED (R29); with VDD_FUSE present the fuse work that waits is done as well; an open clip makes it
NOT_PERMITTED. SYSTEM.REGISTER_BUFFER registers a span of whole 4 KiB pages under a free number when it overlaps no other, and answers INVALID_FIELD
otherwise (R441). A span of length above 0 is covered only inside one registered buffer that permits the access. SYSTEM.UNREGISTER_BUFFER forgets a
buffer that no queue, ring, job, handle or other Busy command uses; one that is used is BUSY (R441). Completes: systemGetStatus, systemEnterService,
systemEnterMaintenance, systemRegisterBuffer, systemUnregisterBuffer. -/
def Obligations.SystemCommands : Prop :=
  ((∀ (s : State) (d : Nat) (c : DrawerCmd), s.accepted d 0x0101 c = true → c.endsAt 0 = true →
    exec (.systemGetStatus d) s = .next (done d s.status s)) ∧
  ∀ s : State, s.status.take 24 = le 4 (b2n s.sys.service) ++ le 4 s.sys.pstate ++ le 4 s.sys.stage ++ le 4 0 ++ le 8 Config.mac) ∧
  (∀ (s : State) (d : Nat) (c : DrawerCmd), s.accepted d 0x0102 c = true → c.endsAt 0 = true →
    let ready := s.mem.passed = true ∧ (∃ x ∈ s.shelves, x.plan.isSome = true) ∧ s.units.bench = none ∧
      (∀ q ∈ s.ports, q.test = none ∧ q.inject = none ∧ q.bcPattern = 0)
    (ready → s.sys.service = false → exec (.systemEnterService d) s =
      .next (raise 308 0 [1] none (done d [] { s with sys := { s.sys with service := true } }))) ∧
    (ready → s.sys.service = true → exec (.systemEnterService d) s = .next (done d [] s)) ∧
    (¬ ready → exec (.systemEnterService d) s = .next (fail d Status.notPermitted s))) ∧
  (∀ (s : State) (d : Nat) (v : Bool) (c : DrawerCmd), s.accepted d 0x0103 c = true → c.endsAt 0 = true →
    (s.store.clip = none → s.sys.service = true → exec (.systemEnterMaintenance d false) s =
      .next (raise 308 0 [0] none (done d [] { s with sys := { s.sys with service := false } }))) ∧
    (s.store.clip = none → s.sys.service = true → ∃ t, exec (.systemEnterMaintenance d v) s = .next t ∧ t.sys.service = false ∧
      (t.drawer d).st ≠ .busy ∧ t.pending = s.pending) ∧
    (s.store.clip ≠ none → exec (.systemEnterMaintenance d v) s = .next (fail d Status.notPermitted s))) ∧
  ((∀ (s : State) (d : Nat) (c : DrawerCmd), s.accepted d 0x0104 c = true → c.endsAt 28 = true → c.w 0 < 64 → c.q 8 % 4096 = 0 → c.q 16 % 4096 = 0 →
    4096 ≤ c.q 16 → c.q 16 ≤ 2 ^ 40 → c.w 24 ≤ 1 → c.q 8 + c.q 16 ≤ 2 ^ 64 →
    ((∀ b ∈ s.bufs, b.id ≠ c.w 0 ∧ (b.addr + b.len ≤ c.q 8 ∨ c.q 8 + c.q 16 ≤ b.addr)) → exec (.systemRegisterBuffer d) s =
      .next (done d [] { s with bufs := s.bufs ++ [{ id := c.w 0, addr := c.q 8, len := c.q 16, write := c.w 24 == 1 }] })) ∧
    ((∃ b ∈ s.bufs, b.id = c.w 0) → exec (.systemRegisterBuffer d) s = .next (invalid d 0 s)) ∧
    ((∀ b ∈ s.bufs, b.id ≠ c.w 0) → (∃ b ∈ s.bufs, c.q 8 < b.addr + b.len ∧ b.addr < c.q 8 + c.q 16) →
      exec (.systemRegisterBuffer d) s = .next (invalid d 8 s))) ∧
  (∀ (s : State) (a n : Nat) (w : Bool), s.covered a n w = true ↔
    n = 0 ∨ ∃ b ∈ s.bufs, b.addr ≤ a ∧ a + n ≤ b.addr + b.len ∧ (w = true → b.write = true))) ∧
  (∀ (s : State) (d : Nat) (c : DrawerCmd) (b : HostBuf), s.accepted d 0x0105 c = true → c.endsAt 4 = true → c.w 0 ≤ 63 →
    s.bufs.find? (fun x => x.id == c.w 0) = some b →
    ((∀ x ∈ s.spansInUse d, 0 < x.2 → overlap x.1 x.2 b.addr b.len = false) →
      exec (.systemUnregisterBuffer d) s = .next (done d [] { s with bufs := s.bufs.filter fun x => x.id != b.id })) ∧
    ((∃ x ∈ s.spansInUse d, 0 < x.2 ∧ overlap x.1 x.2 b.addr b.len = true) →
      exec (.systemUnregisterBuffer d) s = .next (fail d Status.busy s)))

/-- POWER_STATE (R307, R308): the state that holds completes OK at once; an exit from P1 to P0 changes PSTATE, completes and raises
EVT.SYS.PSTATE_CHANGED; with a clip open P1 to P3 are NOT_PERMITTED; an entry is held as in progress until its waits are over. POWER_ENTRY_PROCEED
(R308, R524): an entry to P1 that nothing delays any more sets PSTATE 1, ends the POWER_STATE command and raises EVT.SYS.PSTATE_CHANGED. Completes:
powerState, powerEntryProceed. -/
def Obligations.PowerStatesEnterAndExit : Prop :=
  (∀ (s : State) (q cid : Nat) (c : StoreCmd), s.outstanding q cid 0x87 c = true →
    (c.entry.arg0 = s.sys.pstate → exec (.powerState q cid) s = .next (complete (qIndex q) cid Status.ok 0 0 0xFF s)) ∧
    (0 < c.entry.arg0 → c.entry.arg0 ≠ s.sys.pstate → s.store.clip ≠ none →
      exec (.powerState q cid) s = .next (complete (qIndex q) cid Status.notPermitted 0 0 0xFF s)) ∧
    (s.sys.pstate = 1 → c.entry.arg0 = 0 → exec (.powerState q cid) s =
      .next (raise 309 0 [0] none (complete (qIndex q) cid Status.ok 0 0 0xFF { s with sys := { s.sys with pstate := 0 } }))) ∧
    (s.sys.pstate < c.entry.arg0 → s.store.clip = none → s.mem.training = none → s.units.bench = none → (∀ x ∈ s.sensors, x.started = false) →
      ∃ t, exec (.powerState q cid) s = .next t ∧ t.store.powerEntry = some (cid, c.entry.arg0, 0, false) ∧ t.sys = s.sys ∧ t.table = s.table ∧
      t.drawers = s.drawers ∧ t.hostMem = s.hostMem ∧ t.sensors = s.sensors ∧ t.pending = s.pending)) ∧
  (∀ (s : State) (cid : Nat), s.live = true → s.store.powerEntry = some (cid, 1, 0, false) →
    (∀ x ∈ s.sensors, x.started = false ∧ x.starting = none ∧ x.stopping = none) → (∀ x ∈ s.table, x = none) → s.ioOutstanding = 0 →
    exec .powerEntryProceed s = .next (raise 309 0 [1] none (complete 4 cid Status.ok 0 0 0xFF
      { s with sys := { s.sys with pstate := 1 }, store := { s.store with powerEntry := none } })))

/-! ### The time base -/

/-- A reading is OFFSET plus COUNT − ANCHOR at the rate 2⁴⁰ + DRIFT, shifted right by 40 and taken modulo 2⁶⁴ (R398), and changing DRIFT moves OFFSET
and ANCHOR so that the reading now does not jump (R399). -/
def Obligations.ReadingFollowsDriftWithoutAJump : Prop :=
  (∀ (t : TimeState) (c : Nat), t.readingAt c =
    (((t.offset : Int) + (((c : Int) - t.anchor) * (2 ^ 40 + t.drift)) / 2 ^ 40) % 2 ^ 64).toNat) ∧
  (∀ (s : State) (v : Int), (setDrift v s).reading = s.reading ∧ (setDrift v s).time.anchor = s.time.count ∧
    (setDrift v s).time.offset = s.reading ∧ (setDrift v s).time.drift = v ∧ (setDrift v s).time.count = s.time.count) ∧
  ({ anchor := 0, drift := 13743895 } : TimeState).readingAt 2000000000 = 2000024999

/-- Acquiring becomes Locked at the sixteenth consecutive offset within LOCK_NS of an accepted Sync, and any other offset restarts the run (R411):
DELAY_RESP forms the offset. An offset within JUMP leads from Holdover or Unsynchronised to Acquiring (Table 14-1). In Locked, HOLDOVER_SAMPLE takes
the sample of R153 from freq: the first of a bin is freq, and each later one moves the bin a sixteenth of the way to freq. Completes: delayResp,
holdoverSample. -/
def Obligations.SixteenGoodOffsetsLock : Prop :=
  (∀ (o : Int) (s : State), s.time.st = .acquiring → o.natAbs ≤ s.time.cfg.lockNs → 15 ≤ s.time.lockRun → (lockStep o s).time.st = .locked) ∧
  (∀ (o : Int) (s : State), s.time.st = .acquiring → o.natAbs ≤ s.time.cfg.lockNs → s.time.lockRun < 15 →
    (lockStep o s).time.st = .acquiring ∧ (lockStep o s).time.lockRun = s.time.lockRun + 1) ∧
  (∀ (o : Int) (s : State), s.time.st = .acquiring → s.time.cfg.lockNs < o.natAbs → (lockStep o s).time.st = .acquiring ∧ (lockStep o s).time.lockRun = 0) ∧
  (∀ (o : Int) (s : State), s.time.st = .holdover ∨ s.time.st = .unsync → (lockStep o s).time.st = .acquiring) ∧
  (∀ (s : State) (n p i : Nat) (t1 t2 t3 t4 corr o : Int), s.live = true → s.time.cfg.follower = true → s.time.sync = some (t1, t2) →
    s.time.delayReq = some (n, t3) → o = t2 - t1 - ((t2 - t1) + (t4 - corr - t3)) / 2 → s.time.prevSync = some p → t2 ≠ (p : Int) →
    o.natAbs ≤ s.time.cfg.jump → s.time.st = .acquiring → ∃ t, exec (.delayResp n t4 corr i) s = .next t ∧
    (o.natAbs ≤ s.time.cfg.lockNs → 15 ≤ s.time.lockRun → t.time.st = .locked) ∧
    (o.natAbs ≤ s.time.cfg.lockNs → s.time.lockRun < 15 → t.time.st = .acquiring ∧ t.time.lockRun = s.time.lockRun + 1) ∧
    (s.time.cfg.lockNs < o.natAbs → t.time.st = .acquiring ∧ t.time.lockRun = 0)) ∧
  (∀ (s : State) (x b : Int), s.live = true → s.time.st = .locked → s.holds.getD 0 false = false → s.holdSample = none → s.dieTemp = some x →
    b = (x + 80) / 16 → 0 ≤ b → b ≤ 31 → s.holdTable.length = 32 → ∃ t, exec .holdoverSample s = .next t ∧
    ((s.holdTable.getD b.toNat {}).n = 0 → (t.holdTable.getD b.toNat {}).r = s.time.freq) ∧
    ((s.holdTable.getD b.toNat {}).n ≠ 0 → (t.holdTable.getD b.toNat {}).r =
      (s.holdTable.getD b.toNat {}).r + (s.time.freq - (s.holdTable.getD b.toNat {}).r) / 16))

/-- MASTER_LOST loses the selected master exactly when no Announce from it has arrived for ANNOUNCE_TIMEOUT announce intervals or no Sync from it has
been accepted for 1 s; with no master selected it changes nothing (R406). Completes: masterLost. -/
def Obligations.TheMasterIsLostAfterSilence : Prop :=
  (∀ (s : State) (b : AnnounceMsg), s.live = true → s.time.best = some b → ∃ t, exec .masterLost s = .next t ∧
    (t.time.best = none ↔
      s.time.lastAnnounce + s.time.cfg.announceTimeout * b.interval ≤ s.time.count ∨ s.time.lastSync + 1000000000 ≤ s.time.count) ∧
    (t.time.best ≠ none → t = s)) ∧
  (∀ s : State, s.live = true → s.time.best = none → exec .masterLost s = .next s)

/-- SYNC stamps the Sync of the selected master with RX_LAT added; DELAY_REQ stamps the departing Delay_Req with TX_LAT added as t3, which it carries in
seconds and nanoseconds to the multicast address or to the master as UNICAST_DREQ says (R408, R409); DELAY_RESP forms the mean path delay and the
offset o from master (R410). An o within JUMP changes DRIFT by the servo of R410 under R399 and clears STEP_PENDING; an o beyond JUMP keeps DRIFT,
OFFSET and the readings, and stands in PEND_OFFSET (R412). Quotients round towards zero and the mean path delay rounds down, which is the model's
choice (log 9). ANNOUNCE: a message of another domain changes nothing; one of the selected master refreshes its Announce; with no master selected
one is selected, and EVT.TIME.MASTER_CHANGED tells of a master other than the last (R406, R408). MASTER_LOST: 1 s without a Sync, or
ANNOUNCE_TIMEOUT intervals without an Announce, lead from Locked to Holdover with EVT.TIME.LOST and from Acquiring to Unsynchronised (R405, R406).
Holdover sets DRIFT once per second to the holdover table's value at the die temperature, or with no valid bin to the mean of the last 16 s in
Locked (R407); HOLD_MAX elapsed leads to Unsynchronised with EVT.TIME.UNSYNC (Table 14-1); a fault of REFCLK_TB leads to Unsynchronised with
REFCLK_BAD, which its recovery clears (R401). Completes: sync, delayReq, delayResp, announce, masterLost, holdoverDriftUpdate, holdMaxExpiry,
refclkFault, refclkRecovery. -/
def Obligations.PtpExchangesAndMasters : Prop :=
  ((∀ (s : State) (a : AnnounceMsg) (t1 corr : Int), s.live = true → s.time.cfg.follower = true → s.time.best = some a →
    exec (.sync t1 corr) s = .next { s with time := { s.time with
      prevSync := s.time.sync.map fun x => x.2.toNat, sync := some (t1 + corr, (s.reading : Int) + s.time.cfg.rxLat), lastSync := s.time.count } }) ∧
  (∀ (s : State) (a : AnnounceMsg), s.live = true → s.time.cfg.follower = true → s.time.best = some a →
    exec .delayReq s = .next { s with time := { s.time with
      delayReq := some (s.time.delaySeq, (s.reading : Int) + s.time.cfg.txLat), delaySeq := (s.time.delaySeq + 1) % 65536
      dreqSent := some {
        seq := s.time.delaySeq, unicastTo := if s.time.cfg.unicastDreq then some a.clockId else none, udpChecksum := 0
        seconds := ((s.reading : Int) + s.time.cfg.txLat) / 1000000000, nanoseconds := ((s.reading : Int) + s.time.cfg.txLat) % 1000000000 } } }) ∧
  (∀ (s : State) (n p i : Nat) (t1 t2 t3 t4 corr o mpd : Int), s.live = true → s.time.cfg.follower = true → s.time.sync = some (t1, t2) →
    s.time.delayReq = some (n, t3) → mpd = ((t2 - t1) + (t4 - corr - t3)) / 2 → o = t2 - t1 - mpd → s.time.prevSync = some p → t2 ≠ (p : Int) →
    (o.natAbs ≤ s.time.cfg.jump →
      let dt := t2 - (p : Int)
      let freq := clampInt (s.time.freq - Int.tdiv (o * s.time.cfg.ki * 2 ^ 24) dt) (-549755813) 549755813
      let slew := clampInt (Int.tdiv (-(o * s.time.cfg.kp * 2 ^ 24)) dt) (-(s.time.cfg.slew : Int)) s.time.cfg.slew
      ∃ t, exec (.delayResp n t4 corr i) s = .next t ∧ t.time.freq = freq ∧ t.time.drift = clampInt (freq + slew) (-549755813) 549755813 ∧
      t.time.lastOffset = o ∧ t.time.pathDelay = mpd ∧ t.time.stepPending = false ∧ t.time.delayReq = none ∧ t.time.offset = s.reading ∧
      t.time.anchor = s.time.count ∧ t.time.count = s.time.count ∧ t = { s with time := t.time, ev := t.ev, hostMem := t.hostMem }) ∧
    (s.time.cfg.jump < o.natAbs → s.time.cfg.acceptFirst = false →
      ∃ t, exec (.delayResp n t4 corr i) s = .next t ∧ t.time.pendOffset = o ∧ t.time.stepPending = true ∧ t.time.lastOffset = o ∧
      t.time.drift = s.time.drift ∧ t.time.offset = s.time.offset ∧ t.time.anchor = s.time.anchor ∧ t.reading = s.reading ∧
      (s.time.st = .locked → t.time.st = .holdover) ∧ (s.time.st ≠ .locked → t.time.st = s.time.st) ∧
      (s.time.stepPending = false → t.time.pendId = (s.time.pendId + 1) % 65536) ∧
      t = { s with time := t.time, ev := t.ev, hostMem := t.hostMem }))) ∧
  ((∀ (s : State) (a : AnnounceMsg), s.live = true → a.domain ≠ s.time.cfg.domain → exec (.announce a) s = .next s) ∧
  (∀ (s : State) (a b : AnnounceMsg), s.live = true → s.time.cfg.follower = true → a.domain = s.time.cfg.domain → a.tlv = none →
    s.time.best = some b → a.clockId = b.clockId → a.portNumber = b.portNumber →
    exec (.announce a) s = .next { s with time := { s.time with best := some a, lastAnnounce := s.time.count, grandmaster := a.gmId } }) ∧
  (∀ (s : State) (a : AnnounceMsg), s.live = true → s.time.cfg.follower = true → a.domain = s.time.cfg.domain → a.tlv = none →
    s.time.best = none → s.time.stepPending = false → ∃ t, exec (.announce a) s = .next t ∧ t.time.best = some a ∧ t.time.master = a.clockId ∧
    t.time.grandmaster = a.gmId ∧ t.time.lastAnnounce = s.time.count ∧ t.time.drift = s.time.drift ∧ t.time.st = s.time.st ∧
    (a.clockId = s.time.master → t.ev = s.ev)) ∧
  (∀ (s : State) (b : AnnounceMsg), s.live = true → s.time.best = some b →
    s.time.lastSync + 1000000000 ≤ s.time.count ∨ s.time.lastAnnounce + s.time.cfg.announceTimeout * b.interval ≤ s.time.count →
    ∃ t, exec .masterLost s = .next t ∧ t.time.best = none ∧ t.reading = s.reading ∧ t.time.drift = s.time.drift ∧
    (s.time.st = .locked → t.time.st = .holdover ∧ t.time.since = s.reading) ∧ (s.time.st = .acquiring → t.time.st = .unsync) ∧
    (s.time.st = .holdover ∨ s.time.st = .unsync → t.time.st = s.time.st) ∧ t = { s with time := t.time, ev := t.ev, hostMem := t.hostMem }) ∧
  (∀ (s : State) (b : AnnounceMsg), s.live = true → s.time.best = some b → s.time.count < s.time.lastSync + 1000000000 →
    s.time.count < s.time.lastAnnounce + s.time.cfg.announceTimeout * b.interval → exec .masterLost s = .next s)) ∧
  ((∀ (s : State) (x t4 : Int), s.live = true → s.time.st = .holdover → s.time.lastHoldUpdate + 1000000000 ≤ s.time.count →
    (s.dieTemp = some t4 ∧ holdValue s.holdTable t4 = some x) ∨
      ((∀ b ∈ s.holdTable, b.n < 16) ∧ s.time.driftHist ≠ [] ∧ x = (s.time.driftHist.map (·.2)).sum / s.time.driftHist.length) →
    ∃ t, exec .holdoverDriftUpdate s = .next t ∧ t.time.drift = clampInt x (-549755813) 549755813 ∧ t.reading = s.reading ∧
    t.time.lastHoldUpdate = s.time.count ∧ t.time.st = .holdover ∧ t = { s with time := t.time }) ∧
  (∀ s : State, s.live = true → s.time.st = .holdover → s.time.sinceCount + s.time.cfg.holdMax * 1000000000 ≤ s.time.count →
    ∃ t, exec .holdMaxExpiry s = .next t ∧ t.time.st = .unsync ∧ t.time.since = s.reading ∧ t.time.drift = s.time.drift ∧ t.reading = s.reading ∧
    t = { s with time := t.time, ev := t.ev, hostMem := t.hostMem }) ∧
  (∀ s : State, s.live = true → ∃ t, exec .refclkFault s = .next t ∧ t.time.st = .unsync ∧ t.time.refclkBad = true ∧ t.time.count = s.time.count ∧
    t = { s with time := t.time, ev := t.ev, hostMem := t.hostMem }) ∧
  (∀ s : State, s.live = true → exec .refclkRecovery s = .next { s with time := { s.time with refclkBad := false } }))

/-- An armed compare unit fires at the first reading at which V has passed: its GPIO goes high until the pulse width ends, EVT.TIME.COMPARE is raised
and the unit disarms (R403); an edge on a capture unit's GPIO raises EVT.TIME.CAPTURE with the 64-bit reading, and within 10 µs of the last report
it is only counted (R404). TIME.GET returns COUNT, the reading and STATE; TIME.GET_STATUS returns Table 14-3 and clears STEPS_REFUSED (R418);
TIME.SET_CONFIG writes the fields of Table 14-2, and in free-running MODE leaves Locked, Acquiring and Holdover for Unsynchronised (R417). TIME.SET
in free-running MODE steps by the requested reading less the present one when that lies within JUMP or FORCE is set, and is STEP_REFUSED otherwise;
in follower MODE it is NOT_PERMITTED (R414). TIME.ACCEPT_STEP with the current PEND_ID steps by −PEND_OFFSET, with another answers BUSY and the
current values, and with no step pending NOT_PERMITTED (R413). A step adds Δ to OFFSET (R415). TIME.SET_COMPARE arms a unit with a V that has not
passed, replaces the time of an armed one, disarms with width 0 and answers INVALID_FIELD for a V that has passed (R403); TIME.SET_CAPTURE binds a
unit to a GPIO and an edge (R404). The ball is an output for the one and an input for the other. That 0xFF names no GPIO, that width 0 disarms and
the edge's coding are the model's choice (log 11). Completes: compareFire, comparePulseEnd, captureEdge, timeGet, timeGetStatus, timeSetConfig,
timeSet, timeAcceptStep, timeSetCompare, timeSetCapture. -/
def Obligations.TimeCommandsAndUnits : Prop :=
  ((∀ (s : State) (n g : Nat) (u : CompareUnit), s.live = true → n < s.time.compares.length → at! s.time.compares n = u → u.armed = true →
    passed48 u.v s.reading = true → u.gpio = some g → exec (.compareFire n) s = .next (raise 238 n [] none
      { s with
        sys := { s.sys with gpio := setBit s.sys.gpio g true }
        time := { s.time with compares := s.time.compares.set n { u with armed := false, pulseEnd := some (s.time.count + u.width) } } })) ∧
  (∀ (s : State) (n : Nat), s.live = true → (at! s.time.compares n).armed = false ∨ passed48 (at! s.time.compares n).v s.reading = false →
    exec (.compareFire n) s = .next s) ∧
  (∀ (s : State) (n g e : Nat), s.live = true → (at! s.time.compares n).pulseEnd = some e → (at! s.time.compares n).gpio = some g → e ≤ s.time.count →
    exec (.comparePulseEnd n) s = .next { s with
        sys := { s.sys with gpio := setBit s.sys.gpio g false }
        time := { s.time with compares := s.time.compares.set n { (at! s.time.compares n) with pulseEnd := none } } }) ∧
  (∀ (s : State) (n g : Nat) (r : Bool), s.live = true → n < 8 → s.time.captures.length = 8 → (at! s.time.captures n).gpio = some g →
    (at! s.time.captures n).rising = r → (∀ k, k ≠ n → (at! s.time.captures k).gpio ≠ some g) →
    ((at! s.time.captures n).last = none → exec (.captureEdge g r) s = .next (raise 239 n (words64 s.reading) none
      { s with time := { s.time with captures := s.time.captures.set n { (at! s.time.captures n) with last := some s.time.count } } })) ∧
    (∀ c, (at! s.time.captures n).last = some c → s.time.count < c + 10000 → exec (.captureEdge g r) s = .next
      { s with time := { s.time with captures := s.time.captures.set n { (at! s.time.captures n) with skipped := (at! s.time.captures n).skipped + 1 } } }))) ∧
  ((∀ (s : State) (d : Nat) (c : DrawerCmd), s.accepted d 0x0A01 c = true → c.endsAt 0 = true →
    exec (.timeGet d) s = .next (done d (le 8 s.time.count ++ le 8 s.reading ++ le 4 s.time.st.code) s)) ∧
  (∀ (s : State) (d : Nat) (c : DrawerCmd), s.accepted d 0x0A02 c = true → c.endsAt 0 = true →
    exec (.timeGetStatus d) s = .next (done d s.time.statusBytes { s with time := { s.time with stepsRefused := 0 } })) ∧
  ∀ (s : State) (d : Nat) (c : DrawerCmd), s.accepted d 0x0A03 c = true → c.endsAt 0x20 = true → fieldLe c.payload 0 1 < 8 →
    c.timeCfg.domain ≤ 127 → 2 ≤ c.timeCfg.announceTimeout → c.timeCfg.announceTimeout ≤ 10 → fieldLe c.payload 2 2 < 16 →
    1000 ≤ c.timeCfg.jump → c.timeCfg.jump ≤ 1000000000 → 10 ≤ c.timeCfg.lockNs → c.timeCfg.lockNs ≤ 1000000 → 1 ≤ c.timeCfg.holdMax →
    c.timeCfg.holdMax ≤ 86400 → c.timeCfg.slew ≤ 549755813 → c.w 0x1C = 0 → ∃ t, exec (.timeSetConfig d) s = .next t ∧ t.time.cfg = c.timeCfg ∧
    (c.timeCfg.follower = true → t = done d [] { s with time := { s.time with cfg := c.timeCfg } }) ∧
    (c.timeCfg.follower = false → t.time.st = .unsync ∧ t.time.best = none) ∧ t.time.count = s.time.count ∧ t.reading = s.reading) ∧
  ((∀ (s : State) (d : Nat) (c : DrawerCmd), s.accepted d 0x0A04 c = true → c.endsAt 12 = true → c.w 8 ≤ 1 →
    let delta := toInt 64 (c.q 0 + 2 ^ 64 - s.reading)
    (s.time.cfg.follower = true → exec (.timeSet d) s = .next (fail d Status.notPermitted s)) ∧
    (s.time.cfg.follower = false → s.time.cfg.jump < delta.natAbs → c.w 8 = 0 → exec (.timeSet d) s = .next (fail d Status.stepRefused s)) ∧
    (s.time.cfg.follower = false → delta.natAbs ≤ s.time.cfg.jump ∨ c.w 8 = 1 →
      exec (.timeSet d) s = .next (done d (le 8 (ofInt 64 delta)) (applyStep delta s)))) ∧
  (∀ (s : State) (d : Nat) (c : DrawerCmd), s.accepted d 0x0A05 c = true → c.endsAt 4 = true → c.w 0 ≤ 0xFFFF →
    (s.time.stepPending = false → exec (.timeAcceptStep d) s = .next (fail d Status.notPermitted s)) ∧
    (s.time.stepPending = true → c.w 0 ≠ s.time.pendId → exec (.timeAcceptStep d) s =
      .next (postResult d Status.busy noDetail (le 4 s.time.pendId ++ le 4 0 ++ le 8 (ofInt 64 s.time.pendOffset)) s)) ∧
    (s.time.stepPending = true → c.w 0 = s.time.pendId → ∃ t, exec (.timeAcceptStep d) s = .next t ∧ t.time.stepPending = false ∧
      t.time.offset = ofInt 64 ((s.time.offset : Int) - s.time.pendOffset) ∧ t.time.anchor = s.time.anchor ∧ t.time.drift = s.time.drift ∧
      (t.drawer d).st ≠ .busy)) ∧
  (∀ (x : Int) (s : State), (applyStep x s).time.offset = ofInt 64 ((s.time.offset : Int) + x) ∧ (applyStep x s).time.anchor = s.time.anchor ∧
    (applyStep x s).time.drift = s.time.drift ∧ (applyStep x s).time.count = s.time.count ∧ (applyStep x s).drawers = s.drawers ∧
    (applyStep x s).store = s.store)) ∧
  ((∀ (s : State) (d : Nat) (c : DrawerCmd), s.accepted d 0x0A06 c = true → c.endsAt 24 = true → c.w 0 < 8 → c.q 8 < 2 ^ 48 →
    c.w 16 < 32 ∨ c.w 16 = 0xFF → c.w 20 ≤ 1000000 →
    (c.w 20 = 0 → exec (.timeSetCompare d) s = .next (done d []
      { s with time := { s.time with compares := upd s.time.compares (c.w 0) fun u => { u with armed := false } } })) ∧
    (c.w 20 ≠ 0 → passed48 (c.q 8) s.reading = true → exec (.timeSetCompare d) s = .next (invalid d 8 s)) ∧
    (c.w 20 ≠ 0 → passed48 (c.q 8) s.reading = false → exec (.timeSetCompare d) s = .next (done d []
      { s with time := { s.time with compares := upd s.time.compares (c.w 0) fun u =>
        { u with armed := true, v := c.q 8, gpio := if c.w 16 = 0xFF then none else some (c.w 16), width := c.w 20 } },
               sys := if c.w 16 = 0xFF then s.sys else { s.sys with gpioOut := setBit s.sys.gpioOut (c.w 16) true } }))) ∧
  ∀ (s : State) (d : Nat) (c : DrawerCmd), s.accepted d 0x0A07 c = true → c.endsAt 12 = true → c.w 0 < 8 → c.w 4 < 32 ∨ c.w 4 = 0xFF → c.w 8 ≤ 1 →
    exec (.timeSetCapture d) s = .next (done d []
      { s with time := { s.time with captures := upd s.time.captures (c.w 0) fun u =>
        { u with gpio := if c.w 4 = 0xFF then none else some (c.w 4), rising := c.w 8 == 0 } },
               sys := if c.w 4 = 0xFF then s.sys else { s.sys with gpioOut := setBit s.sys.gpioOut (c.w 4) false } }))

/-! ### The mailbox -/

/-- Every write of host memory keeps the canonical form, reads back what was written, and leaves every other byte alone. Register writes (R429, R430):
an aligned write of 1, 2, 4 or 8 bytes to a Drawer's command area stores its bytes there and nowhere else; a 32-bit write of EV_MASK_k sets that
mask, one of EQ_ENTRIES is ignored while EQ_ENABLE is 1 (R451); a write to a register of another width, or not aligned, is ignored. READ_CLEAR of
REJECTS and EQ_LOST returns the value and clears it, what recurs in the access staying counted (R9). The identity block reads the PCI vendor, 0x9624
and 0xB2 (R2, R3, Table 15-2), and a read of another width, or not aligned, reads 0 (R429). Completes: readClear, registerWrite. -/
def Obligations.RegistersAndHostMemory : Prop :=
  (∀ (m : Memory) (a : Nat) (bs : Bytes), m.wf = true → (m.writeBytes a bs).wf = true ∧ (m.writeBytes a bs).readBytes a bs.length = bs ∧
    ∀ x, x < a ∨ a + bs.length ≤ x → (m.writeBytes a bs).read x = m.read x) ∧
  ((∀ (s : State) (d o w v : Nat), s.live = true → d < 16 → o + w ≤ 128 → w = 1 ∨ w = 2 ∨ w = 4 ∨ w = 8 → o % w = 0 →
    exec (.registerWrite (0x1000 + 0x100 * d + o) w v) s =
      .next (s.setDrawer d fun x => { x with area := splice (padTo 128 x.area) o (le w v) })) ∧
  (∀ (s : State) (k v : Nat), s.live = true → s.sys.stage ≠ 0 → k < 10 → exec (.registerWrite (0x220 + 4 * k) 4 v) s =
    .next { s with ev := { s.ev with masks := s.ev.masks.set k (BitVec.ofNat 32 (v % 2 ^ 32)) } }) ∧
  (∀ (s : State) (v : Nat), s.live = true → s.sys.stage ≠ 0 → exec (.registerWrite 0x208 4 v) s =
    .next (if s.ev.enable then s else { s with ev := { s.ev with entries := v % 2 ^ 32 } })) ∧
  (∀ (s : State) (a w v : Nat), s.live = true → a < 0x1000 ∨ 0x2000 ≤ a → w ≠ 4 ∧ w ≠ 8 ∨ a % w ≠ 0 → exec (.registerWrite a w v) s = .next s) ∧
  (∀ (s : State) (n : Nat), s.live = true → exec (.readClear 0x110 n) s = .next { s with readData := s.rejects, rejects := sat 32 n }) ∧
  (∀ (s : State) (n : Nat), s.live = true → exec (.readClear 0x214 n) s = .next { s with readData := s.ev.lost, ev := { s.ev with lost := sat 32 n } }) ∧
  (∀ s : State, s.bar0Read 0 4 = Config.caerneVid % 65536 + 65536 * 0x9624 ∧ s.bar0Read 4 4 % 256 = 0xB2 ∧
    ∀ a w, w ≠ 4 ∧ w ≠ 8 ∨ a % w ≠ 0 → s.bar0Read a w = 0))

/-- A doorbell on a Free Drawer takes the copy of the command area as the command, and the Drawer becomes Busy (R433): here in clear, with a legal
header (check 1 of R547), a defined opcode of role H, at STAGE 2 outside P3. An undefined opcode completes with INVALID_FIELD (R450, R547). A
doorbell on a Busy or Done Drawer is ignored: REJECTS advances and EVT.MBX.DOORBELL_REJECT is raised. Posting a result moves a Busy Drawer to Done
with the status, the accepted SEQ, the payload's length and DETAIL (R433, R434), in clear for a command in clear; the other Drawers, and everything
but events, their memory, the reply of a remote Drawer and the keys of ended sessions, stay. Without NOTIFY no event tells of it. A Busy command
whose Drawer R449 has freed has its result discarded. A doorbell brings what the host has stored in its memory (the model's choice, log 8).
DRAWER_RELEASE moves Done to Free, and the result area then reads 0; releasing a Free or Busy Drawer has no effect (R433, R434). Completes:
doorbell, drawerRelease. -/
def Obligations.DrawersAreAcceptedDoneAndFreed : Prop :=
  (∀ (s u : State) (d : Nat) (h : List HostStore), s.live = true → d < 16 → d < s.drawers.length → u = s.hostStores h → (
    let area := (s.drawer d).area
    let c : DrawerCmd := { opcode := fieldLe area 0 2, seq := fieldLe area 2 2, enc := false, notify := decide (fieldLe area 4 1 = 2)
                           length := fieldLe area 6 2, session := 0, payload := slice area 16 (min 112 (fieldLe area 6 2)) }
    (s.drawer d).st = .free → fieldLe area 4 1 = 0 ∨ fieldLe area 4 1 = 2 → fieldLe area 5 1 = 0 → fieldLe area 6 2 ≤ 112 → fieldLe area 8 4 = 0 →
    fieldLe area 12 4 = 0 →
    (opcodeRole c.opcode = some .h → s.sys.stage = 2 → s.sys.pstate ≠ 3 → exec (.doorbell ⟨2 ^ d, h⟩) s = .next (u.setDrawer d fun x =>
      { x with st := .busy, cmd := c, begun := false, num := d, res := {} })) ∧
    (opcodeRole c.opcode = none → (s.drawer d).orphan = false → ∃ t, exec (.doorbell ⟨2 ^ d, h⟩) s = .next t ∧
      (t.drawer d).st = .done ∧ (t.drawer d).res.status = 0x0010 ∧ (t.drawer d).res.detail = 0 ∧ (t.drawer d).res.seq = c.seq)) ∧
  ((s.drawer d).st ≠ .free → exec (.doorbell ⟨2 ^ d, h⟩) s = .next (raise 305 d [] none { u with rejects := sat 32 (s.rejects + 1) }))) ∧
  (∀ (s : State) (d st det : Nat) (pl : Bytes), (s.drawer d).st = .busy → (s.drawer d).cmd.enc = false →
    ((s.drawer d).orphan = false → ∃ t, postResult d st det pl s = t ∧ (t.drawer d).st = .done ∧ (t.drawer d).res.status = st ∧
      (t.drawer d).res.detail = det ∧ (t.drawer d).res.seq = (s.drawer d).cmd.seq ∧ (t.drawer d).res.payload = pl.take 112 ∧
      (t.drawer d).res.length = min 112 pl.length ∧ (∀ k, k ≠ d → t.drawer k = s.drawer k) ∧
      t = { s with drawers := t.drawers, ev := t.ev, hostMem := t.hostMem, net := t.net, sec := t.sec } ∧
      t.sec = { s.sec with ended := t.sec.ended } ∧ t.net = { s.net with reply := t.net.reply } ∧
      ((s.drawer d).cmd.notify = false → t.ev = s.ev ∧ t.hostMem = s.hostMem)) ∧
    ((s.drawer d).orphan = true → postResult d st det pl s = s.setDrawer d fun _ => {})) ∧
  (∀ (s : State) (d : Nat), s.live = true → d < 16 →
    ((s.drawer d).st ≠ .done → exec (.drawerRelease (2 ^ d)) s = .next s) ∧
    ((s.drawer d).st = .done → ∃ t, exec (.drawerRelease (2 ^ d)) s = .next t ∧ (t.drawer d).st = .free ∧ (t.drawer d).resultArea = {} ∧
      (t.drawer d).area = (s.drawer d).area ∧ (∀ k, k ≠ d → t.drawer k = s.drawer k) ∧ t = { s with drawers := t.drawers }))

/-- Raising an event: a masked one, and any at STAGE 0, changes nothing and takes no SEQ; while EQ_ENABLE is 0 an unmasked one is kept, the oldest of
more than 64 counting in EQ_LOST (R453, R454); with the ring enabled and at least one entry free after it, it takes the next SEQ, its 32 bytes stand
at the posting index with the present phase, and the index advances round the ring, where the phase inverts (R452). An event refused for lack of
room counts in EQ_LOST, and the first such refusal posts EVT.SYS.EVENT_OVERFLOW with ARG0 1 into the last free entry (R453). EQ_ENABLE: writing 1
with a legal ring inside a writable buffer sets the posting index to 0 and the phase to 1, and posts the kept events first; with an illegal ring the
write is ignored; writing 0 disables (R451, R454). EQ_HEAD releases the entries before the index written; an index not below EQ_ENTRIES, or past the
last posted entry, is ignored (R454). COALESCE_TIMER signals the vector whose entries have waited COAL_TIME since the first of them, and no other
(R303, R455): an unmasked vector sends its message, a masked one sets its pending bit. Here no Store queue uses the vector. Completes: eqEnable,
eqHead, coalesceTimer. -/
def Obligations.EventsTakeTheirPlace : Prop :=
  (∀ (s : State) (n i : Nat) (args : List Nat),
    let r : EventRec := { num := n, inst := i % 65536, seq := s.ev.seq, time := s.reading, args := args.map (wrap 32) }
    let t := raise n i args none s
    (s.sys.stage = 0 ∨ s.ev.isMasked n = true → t = s) ∧
    (s.sys.stage ≠ 0 → s.ev.isMasked n = false → s.ev.enable = false → t.hostMem = s.hostMem ∧ t.ev.seq = (s.ev.seq + 1) % 2 ^ 32 ∧
      (s.ev.kept.length < 64 → t.ev.kept = s.ev.kept ++ [r] ∧ t.ev.lost = s.ev.lost) ∧
      (s.ev.kept.length = 64 → t.ev.kept = s.ev.kept.drop 1 ++ [r] ∧ t.ev.lost = sat 32 (s.ev.lost + 1))) ∧
    (s.sys.stage ≠ 0 → s.ev.isMasked n = false → s.ev.enable = true → s.ev.overflow = false → s.ev.used + 2 ≤ s.ev.entries →
      s.ev.idx < s.ev.entries → t.ev.seq = (s.ev.seq + 1) % 2 ^ 32 ∧ t.ev.used = s.ev.used + 1 ∧ t.ev.lost = s.ev.lost ∧
      t.ev.idx = (s.ev.idx + 1) % s.ev.entries ∧ t.ev.phase = (if s.ev.idx + 1 = s.ev.entries then !s.ev.phase else s.ev.phase) ∧
      (s.hostMem.wf = true → t.hostMem.readBytes (s.ev.base + 32 * s.ev.idx) 32 = r.bytes s.ev.phase ∧
        ∀ a, a < s.ev.base + 32 * s.ev.idx ∨ s.ev.base + 32 * s.ev.idx + 32 ≤ a → t.hostMem.read a = s.hostMem.read a)) ∧
    t = { s with ev := t.ev, hostMem := t.hostMem }) ∧
  (∀ (s : State) (n i : Nat) (args : List Nat), s.sys.stage ≠ 0 → s.ev.isMasked n = false → s.ev.enable = true → s.ev.entries < s.ev.used + 2 →
    let t := raise n i args none s
    t.ev.lost = sat 32 (s.ev.lost + 1) ∧
    (s.ev.overflow = true → t.hostMem = s.hostMem ∧ t.ev.used = s.ev.used ∧ t.ev.refused = s.ev.refused + 1 ∧ t.ev.seq = (s.ev.seq + 1) % 2 ^ 32) ∧
    (s.ev.overflow = false → t.ev.overflow = true ∧ t.ev.used = s.ev.used + 1 ∧ t.ev.refused = 0 ∧ (s.hostMem.wf = true →
      t.hostMem.readBytes (s.ev.base + 32 * s.ev.idx) 32 =
        ({ num := 311, seq := (s.ev.seq + 1) % 2 ^ 32, time := s.reading, args := [1] } : EventRec).bytes s.ev.phase))) ∧
  ((∀ s : State, s.live = true → s.sys.stage ≠ 0 → s.ev.enable = false → s.ev.base % 4096 = 0 → 64 ≤ s.ev.entries → s.ev.entries ≤ 65536 →
    isPow2 s.ev.entries = true → s.covered s.ev.base (s.ev.entries * 32) true = true →
    exec (.eqEnable 1) s = .next (s.ev.kept.foldl postKept { s with ev := { s.ev with
      enable := true, idx := 0, phase := true, used := 0, head := 0, overflow := false, refused := 0, kept := [] } })) ∧
  (∀ s : State, s.live = true → s.ev.enable = false → s.ev.base % 4096 ≠ 0 ∨ s.ev.entries < 64 ∨ 65536 < s.ev.entries ∨ isPow2 s.ev.entries = false ∨
    s.covered s.ev.base (s.ev.entries * 32) true = false → exec (.eqEnable 1) s = .next s) ∧
  (∀ s : State, s.live = true → s.sys.stage ≠ 0 → exec (.eqEnable 0) s = .next { s with ev := { s.ev with enable := false } }) ∧
  (∀ (s : State) (v : Nat), s.live = true → s.ev.enable = true → s.ev.entries ≤ v ∨ s.ev.used < (v + s.ev.entries - s.ev.head) % s.ev.entries →
    exec (.eqHead v) s = .next s) ∧
  (∀ (s : State) (v : Nat), s.live = true → s.ev.enable = true → v < s.ev.entries → (v + s.ev.entries - s.ev.head) % s.ev.entries ≤ s.ev.used →
    s.ev.overflow = false → exec (.eqHead v) s = .next { s with ev := { s.ev with
      head := v, used := s.ev.used - (v + s.ev.entries - s.ev.head) % s.ev.entries } })) ∧
  (∀ (s : State) (v : Nat) (g : CoalGroup), s.live = true → s.ev.groups.find? (fun x => x.vec == v) = some g → (∀ p, some p ∈ s.store.pairs → p.vector = v → p.unsignalled = 0) →
    (s.time.count < g.first + 1000 * s.ev.coalTime → exec (.coalesceTimer v) s = .next s) ∧
    (g.first + 1000 * s.ev.coalTime ≤ s.time.count → ∃ t, exec (.coalesceTimer v) s = .next t ∧ t.ev.groups = s.ev.groups.filter (fun x => x.vec != v) ∧
      ((at! s.ev.msix v).masked = false → t.ev.sent = upd s.ev.sent v (· + 1) ∧ t.ev.pba = s.ev.pba) ∧
      ((at! s.ev.msix v).masked = true → t.ev.pba = setBit s.ev.pba v true ∧ t.ev.sent = s.ev.sent) ∧
      t = { s with ev := t.ev } ∧ t.ev = { s.ev with groups := t.ev.groups, sent := t.ev.sent, pba := t.ev.pba }))

/-- SYSTEM.SET_NETWORK takes its settings and restarts the link with EVT.SYS.NET_LINK (R446); the link comes up only after it (R519); ARP requests for
the own address and ICMP echoes are answered while the link is up, and nothing else changes (R446). REMOTE_DATAGRAM (R447 to R449): with the remote
Drawers closed nothing happens; a datagram of the wrong length is dropped, and the drop counted; CHEST.SESSION_OPEN in clear for a Free Drawer is
accepted and answered PENDING, and its repeat is answered with the held result and not executed again. Completes: systemSetNetwork, netLink,
remoteDatagram, arpRequest, icmpEcho. -/
def Obligations.TheNetworkPort : Prop :=
  ((∀ (s : State) (d : Nat) (c : DrawerCmd), s.accepted d 0x0106 c = true → c.endsAt 32 = true → 8 ≤ c.w 4 → c.w 4 ≤ 30 → c.w 12 ≤ 4094 → c.w 16 ≤ 7 →
    c.w 20 ≤ 1 → c.w 24 ≤ c.w 20 → c.w 28 ≤ 1 → exec (.systemSetNetwork d) s = .next (raise 314 0 [0] none (done d [] { s with net := { s.net with
      address := c.w 0, maskLen := c.w 4, gateway := c.w 8, vlan := c.w 12, pcp := c.w 16, speed := c.w 20, fec := c.w 24
      remote := c.w 28 == 1, configured := true, up := false } }))) ∧
  (∀ s : State, s.live = true → s.net.configured = true → s.net.up = false →
    exec (.netLink true) s = .next (raise 314 0 [1] none { s with net := { s.net with up := true } })) ∧
  (∀ (s : State) (b : Bool), s.live = true → s.net.configured = false → exec (.netLink b) s = .next s) ∧
  (∀ s : State, s.live = true → s.net.up = true → exec (.arpRequest s.net.address) s =
    .next { s with net := { s.net with arpAnswers := s.net.arpAnswers + 1 } }) ∧
  (∀ (s : State) (g : Datagram), s.live = true → s.net.up = true → exec (.icmpEcho g) s =
    .next { s with net := { s.net with echoAnswers := s.net.echoAnswers + 1, reply := some g } })) ∧
  ((∀ (s : State) (g : Datagram), s.live = true → s.net.up = false ∨ s.net.remote = false → exec (.remoteDatagram g) s = .next s) ∧
  (∀ (s : State) (g : Datagram), s.live = true → s.net.up = true → s.net.remote = true → g.data.length ≠ 136 → ∃ t, exec (.remoteDatagram g) s = .next t ∧
    t.net = { s.net with drops := s.net.drops + 1 } ∧ t = { s with net := t.net, ev := t.ev, hostMem := t.hostMem }) ∧
  ∀ (s : State) (g : Datagram) (k d : Nat), s.live = true → s.net.up = true → s.net.remote = true → g.data.length = 136 → k < 4 →
    s.net.map.getD k (16 + k) = d → d < s.drawers.length →
    g.data.take 8 = le 2 0x5244 ++ le 1 (16 + k) ++ le 1 0 ++ le 4 0 → (
    let area := g.data.drop 8
    fieldLe area 0 2 = 0x0C01 → fieldLe area 4 1 = 0 → fieldLe area 5 1 = 0 → fieldLe area 6 2 ≤ 112 → fieldLe area 8 4 = 0 → fieldLe area 12 4 = 0 →
    ((s.drawer d).st = .free → s.sys.stage = 2 → s.sys.pstate ≠ 3 → ∃ t, exec (.remoteDatagram g) s = .next t ∧ (t.drawer d).st = .busy ∧
      (t.drawer d).cmd.opcode = 0x0C01 ∧ (t.drawer d).cmd.seq = fieldLe area 2 2 ∧ (t.drawer d).num = 16 + k ∧
      t.net.reply = some (replyDatagram (16 + k) g.srcAddr g.srcPort (DrawerRes.bytes { status := 1, seq := fieldLe area 2 2 }))) ∧
    ((s.drawer d).st = .done → (s.drawer d).cmd.session = 0 → (s.drawer d).cmd.seq = fieldLe area 2 2 → ∃ t, exec (.remoteDatagram g) s = .next t ∧
      (t.drawer d).st = .done ∧ (t.drawer d).res = (s.drawer d).res ∧ t.ev = s.ev ∧
      t.net.reply = some (replyDatagram (16 + k) g.srcAddr g.srcPort (s.drawer d).res.bytes))))

/-! ### Security -/

/-- CHEST.SESSION_OPEN opens a half-open session with a fresh non-zero SESSION and an ephemeral key from the random source (R466, R477); after
ENTROPY_FAIL, or with eight sessions, it is BUSY (R468, R477); a Production session is NOT_PERMITTED with debug open (R482). CHEST.SESSION_FINISH
(R466, R467): PARTs 0 to 3 in order gather the certificate; a PART out of order is INVALID_FIELD; PART 4 completes the session, with its ephemeral
private key erased and EVT.SEC.SESSION_OPENED, when every condition of R467 holds, and otherwise ends it with NOT_PERMITTED. A session ends, with
EVT.SEC.SESSION_CLOSED, by CHEST.SESSION_CLOSE under it (R471), and by the handshake timeout when PART 4 has not been answered within 10 s of its
opening (R468); a session whose datagrams have stopped for 60 s ends with EVT.MBX.SESSION_END, and its Done remote Drawers are Free (R449).
Completes: chestSessionOpen, chestSessionFinish, chestSessionClose, sessionHandshakeTimeout, remoteSessionIdle. -/
def Obligations.Sessions : Prop :=
  (∀ (s : State) (d : Nat) (c : DrawerCmd), s.accepted d 0x0C01 c = true → c.endsAt 104 = true → 1 ≤ c.w 0 → c.w 0 ≤ 3 →
    (s.sec.debugOpen = true → c.w 0 = 2 → exec (.chestSessionOpen d) s = .next (fail d Status.notPermitted s)) ∧
    (s.sec.debugOpen = false ∨ c.w 0 ≠ 2 → s.sec.entropyBad = true ∨ 8 ≤ s.sec.sessions.length →
      exec (.chestSessionOpen d) s = .next (fail d Status.busy s)) ∧
    (s.sec.debugOpen = false ∨ c.w 0 ≠ 2 → s.sec.entropyBad = false → s.sec.sessions.length < 8 → ∃ id pub priv, id ≠ 0 ∧ id < 2 ^ 32 ∧
      exec (.chestSessionOpen d) s = .next (done d (le 4 id ++ le 4 0 ++ padTo 96 pub) { s with
        sys := { s.sys with drbg := s.sys.drbg + 2 }
        sec := { s.sec with sessions := s.sec.sessions ++
          [{ id := id, role := c.w 0, opened := s.time.count, hostKey := slice c.payload 8 96, devKey := pub, devPriv := priv }] } }))) ∧
  (∀ (s : State) (d : Nat) (c : DrawerCmd) (k : Session), s.accepted d 0x0C02 c = true → c.w 4 ≤ 4 → c.endsAt (if c.w 4 = 3 then 24 else 104) = true →
    s.sec.sessions.find? (fun x => x.id == c.w 0 && x.half) = some k →
    (k.part ≠ c.w 4 → exec (.chestSessionFinish d) s = .next (invalid d 4 s)) ∧
    (k.part = c.w 4 → c.w 4 < 4 → exec (.chestSessionFinish d) s = .next (done d [] (s.setSession (c.w 0) fun x =>
      { x with part := c.w 4 + 1, cert := x.cert ++ slice c.payload 8 (if c.w 4 = 3 then 16 else 96) }))) ∧
    (k.part = c.w 4 → c.w 4 = 4 → ∃ t, exec (.chestSessionFinish d) s = .next t ∧
      if s.finishOk k (slice c.payload 8 96) = true then
        t.sec.sessions = s.sec.sessions.map (fun x => if x.id = c.w 0 then x.complete else x) ∧ (t.drawer d).st ≠ .busy
      else t.sec.sessions = s.sec.sessions.filter (fun x => x.id != k.id) ∧ (t.drawer d).st ≠ .busy) ∧
    k.complete.devPriv = [] ∧ k.complete.half = false) ∧
  ((∀ (s : State) (d : Nat) (c : DrawerCmd), s.accepted d 0x0C03 c = true → c.endsAt 0 = true → ∃ t, exec (.chestSessionClose d) s = .next t ∧
    t.sec.sessions = s.sec.sessions.filter (fun x => x.id != c.session) ∧ t.sec.slots = s.sec.slots ∧ (t.drawer d).st ≠ .busy) ∧
  (∀ (s : State) (k : Session), s.live = true → k ∈ s.sec.sessions → k.half = true → k.opened + 10000000000 ≤ s.time.count →
    exec (.sessionHandshakeTimeout k.id) s = .next (endSession k.id 1 s)) ∧
  (∀ (s : State) (n : Nat), s.live = true → (∀ k ∈ s.sec.sessions, k.id = n → k.half = false ∨ s.time.count < k.opened + 10000000000) →
    exec (.sessionHandshakeTimeout n) s = .next s) ∧
  (∀ (s : State) (k : Session) (n : Nat), s.live = true → k ∈ s.sec.sessions → k.lastRemote = some n → n + 60000000000 ≤ s.time.count →
    ∃ t, exec (.remoteSessionIdle k.id) s = .next t ∧ t.sec.sessions = s.sec.sessions.filter (fun x => x.id != k.id) ∧
    (∀ i, i < 4 → s.net.map = [16, 17, 18, 19] → (s.drawer (16 + i)).st = .done → (s.drawer (16 + i)).cmd.session = k.id →
      (s.drawer (16 + i)).cmd.enc = true → (t.drawer (16 + i)).st = .free)) ∧
  (∀ (s : State) (n c : Nat), (endSession n c s).sec.sessions = s.sec.sessions.filter (fun x => x.id != n) ∧ (endSession n c s).drawers = s.drawers ∧
    (endSession n c s).sec.slots = s.sec.slots))

/-- CHEST.IMPORT_KEY unwraps a key under the session's wrap key into an empty slot (R474): BUSY when the slot holds a key, INTEGRITY when the unwrap
fails; CHEST.DELETE_KEY empties a slot that no working key uses (R475); CHEST.LIST_KEYS answers the entries from FIRST on, as many as the result
holds (log 19), and CHEST.GET_CERT a part of the identity certificate; both change nothing. A device booted from QSPI also rewrites the sealed
region (R476). CHEST.ATTEST writes the report of Table 16-4 and its signature to the host's buffer and raises EVT.SEC.ATTESTED; from a remote Drawer
it is NOT_PERMITTED (R464, R465). ENTROPY_FAIL raises EVT.SEC.ENTROPY_FAIL once and ENTROPY_PASS ends it (R477). CHEST.DEBUG_UNLOCK on PCIe in
Maintenance mode with no open clip and a valid token opens debug, erases every Chest key and working key, ends every session and raises
EVT.SEC.DEBUG_UNLOCKED; an invalid token is INTEGRITY and changes nothing else (R481, R482). Completes: chestImportKey, chestDeleteKey,
chestListKeys, chestGetCert, chestAttest, entropyFail, entropyPass, chestDebugUnlock. -/
def Obligations.KeysAndAttestation : Prop :=
  ((∀ (s : State) (d : Nat) (c : DrawerCmd) (k : Session), s.accepted d 0x0C06 c = true → c.endsAt 72 = true → c.w 0 < 64 → s.sec.slots.length = 64 →
    1 ≤ c.w 4 → c.w 4 ≤ 7 → c.w 8 = 0xFF → s.sec.keysOf c.session = some k →
    ((at! s.sec.slots (c.w 0)).isSome = true → exec (.chestImportKey d) s = .next (fail d Status.busy s)) ∧
    (at! s.sec.slots (c.w 0) = none → s.slotOfId (slice c.payload 16 16) = none → ∃ t, exec (.chestImportKey d) s = .next t ∧
      match Config.keyUnwrap k.kWrap (slice c.payload 32 40) with
      | some key => at! t.sec.slots (c.w 0) = some { key := key, id := slice c.payload 16 16, usage := c.w 4 } ∧
        (∀ n, n ≠ c.w 0 → at! t.sec.slots n = at! s.sec.slots n) ∧ (t.drawer d).st ≠ .busy
      | none => t = fail d Status.integrity s)) ∧
  (∀ (s : State) (d : Nat) (c : DrawerCmd), s.accepted d 0x0C08 c = true → c.endsAt 4 = true → c.w 0 < 64 →
    (at! s.sec.slots (c.w 0) = none → exec (.chestDeleteKey d) s = .next (invalid d 0 s)) ∧
    ((at! s.sec.slots (c.w 0)).isSome = true → (∃ w ∈ s.sec.working, w.slot = some (c.w 0)) → exec (.chestDeleteKey d) s = .next (fail d Status.busy s)) ∧
    ((at! s.sec.slots (c.w 0)).isSome = true → (∀ w ∈ s.sec.working, w.slot ≠ some (c.w 0)) → exec (.chestDeleteKey d) s =
      .next (raise 261 0 [c.w 0] none (done d [] (sealChest { s with sec := { s.sec with slots := s.sec.slots.set (c.w 0) none } }))))) ∧
  (∀ (s : State) (d : Nat) (c : DrawerCmd), s.accepted d 0x0C07 c = true → c.endsAt 4 = true → c.w 0 < 64 →
    let n := min (if c.enc then 3 else 4) (64 - c.w 0)
    exec (.chestListKeys d) s = .next (done d (le 4 n ++ le 4 0 ++
      (List.range n).flatMap fun i => chestEntry (c.w 0 + i) (at! s.sec.slots (c.w 0 + i))) s)) ∧
  (∀ (s : State) (d : Nat) (c : DrawerCmd), s.accepted d 0x0C05 c = true → c.endsAt 4 = true → c.w 0 ≤ 3 →
    exec (.chestGetCert d) s = .next (done d (slice identityCert (96 * c.w 0) (if c.w 0 = 3 then 16 else 96)) s)) ∧
  (∀ s : State, sealChest s = if s.sys.bootSel then s else
    { s with sys := { s.sys with flash := { s.sys.flash with chest := s.sec.slots, chestIntact := true } } })) ∧
  ((∀ (s : State) (d : Nat) (c : DrawerCmd), s.accepted d 0x0C04 c = true → c.endsAt 48 = true →
    (16 ≤ (s.drawer d).num → exec (.chestAttest d) s = .next (fail d Status.notPermitted s)) ∧
    ((s.drawer d).num < 16 → s.covered (c.q 32) (c.q 40) true = true → 0x160 ≤ c.q 40 → exec (.chestAttest d) s =
      .next (raise 267 0 [] none (done d (le 4 0x160) { s with
        hostMem := s.hostMem.writeBytes (c.q 32) (s.attestBody (slice c.payload 0 32) ++ padTo 96 (s.identitySign (s.attestBody (slice c.payload 0 32)))) })))) ∧
  (∀ s : State, s.live = true → s.sec.entropyBad = false → exec .entropyFail s = .next (raise 269 0 [] none { s with sec := { s.sec with entropyBad := true } })) ∧
  (∀ s : State, s.live = true → exec .entropyPass s = .next { s with sec := { s.sec with entropyBad := false } })) ∧
  (∀ (s : State) (d : Nat) (c : DrawerCmd), s.accepted d 0x0C09 c = true → c.endsAt 16 = true → 128 ≤ c.q 8 →
    (16 ≤ d ∨ s.sys.service = true ∨ s.store.clip ≠ none ∨ s.covered (c.q 0) (c.q 8) false = false →
      exec (.chestDebugUnlock d) s = .next (fail d Status.notPermitted s)) ∧
    (d < 16 → s.sys.service = false → s.store.clip = none → s.covered (c.q 0) (c.q 8) false = true → ∃ t, exec (.chestDebugUnlock d) s = .next t ∧
      if s.tokenValid (s.hostRead (c.q 0) 128) = true then
        t.sec.debugOpen = true ∧ t.sec.slots = List.replicate 64 none ∧ t.sec.working = [] ∧ t.sec.sessions = [] ∧
        t.sec.scopes = fieldLe (s.hostRead (c.q 0) 128) 24 8
      else t = fail d Status.integrity s))

/-! ### Faults, heat and supply -/

/-- THERMAL_SAMPLE (R501): a sensor at 120 °C or more and not above 150 °C on two consecutive samples trips the device, whose core then runs no more;
any other sample of 28 readings does not, and each reading stands in its sensor. A sample of another length changes nothing. RESIDUE_MISMATCH counts
at its unit, stamps it and poisons the frame's ticket (R485, R489); a spare or retired unit that does not hold the group changes nothing.
DIAG.BENCH_RUN starts on a retired unit while the pipeline is quiet, in Maintenance mode (R495), and BENCH_DONE answers it: a pass returns a
front-end or colour slice to the spares and any other unit to service, a fail leaves it retired (R496). SLACK_WINDOW_END with no busy unit of a kind
leaves SLACK 0 there; a lowest slack below SLACK_LOW counts a low window and above it does not (R506). Completes: thermalSample, residueMismatch,
diagBenchRun, benchDone, slackWindowEnd. -/
def Obligations.FaultsHeatAndSlack : Prop :=
  ((∀ (s : State) (r : List Int), s.live = true → r.length ≠ 28 → exec (.thermalSample r) s = .next s) ∧
  (∀ (s : State) (r : List Int), s.live = true → r.length = 28 → s.therm.sensors.length = 28 → ∃ t, exec (.thermalSample r) s = .next t ∧
    ((∃ i, i < 28 ∧ (at! s.therm.sensors i).hot = true ∧ 480 ≤ r.getD i 0 ∧ r.getD i 0 ≤ 600) → t.sys.tripped = true ∧ t.live = false ∧ t.sys.tripFlag ≠ none) ∧
    ((∀ i, i < 28 → (at! s.therm.sensors i).hot = false ∨ r.getD i 0 < 480 ∨ 600 < r.getD i 0) → t.sys.tripped = false) ∧
    (∀ i, i < 28 → (at! t.therm.sensors i).reading = r.getD i 0 ∧ ((at! t.therm.sensors i).hot = true ↔ 480 ≤ r.getD i 0 ∧ r.getD i 0 ≤ 600)) ∧
    t.therm.samples = s.therm.samples + 1 ∧ t = { s with therm := t.therm, sys := t.sys, ctxs := t.ctxs, ev := t.ev, hostMem := t.hostMem })) ∧
  ((∀ (s : State) (u : UnitId) (x : UnitRec) (e g : Nat) (k : Option Nat), s.live = true → s.units.get? u.kind u.number = some x →
    x.st = .spare ∨ x.st = .retired →
    2 ≤ u.kind ∨ (∀ j, some j ∈ (if u.kind = 0 then s.fePos else s.csPos) → j.entry = e → j.group = g → j.unit ≠ u.number) → exec (.residueMismatch u e g k) s = .next s) ∧
  (∀ (s : State) (u : UnitId) (x : UnitRec) (e g : Nat) (k : Option Nat), s.live = true → 2 ≤ u.kind → s.units.get? u.kind u.number = some x →
    x.kind = u.kind → x.number = u.number → x.st = .active ∨ x.st = .faulty → ∃ t, exec (.residueMismatch u e g k) s = .next t ∧
    (∃ y, t.units.get? u.kind u.number = some y ∧ y.mismatch = sat 32 (x.mismatch + 1) ∧ y.last = s.reading ∧ (y.st = x.st ∨ y.st = .faulty)) ∧
    (∀ z, s.entry? e = some z → ∃ w, t.entry? e = some w ∧ w.ticket.poison = true) ∧ t.drawers = s.drawers ∧ t.pending = s.pending) ∧
  (∀ (s : State) (d : Nat) (c : DrawerCmd) (x : UnitRec), s.accepted d 0x0D02 c = true → c.endsAt 8 = true → c.w 0 ≤ 4 → c.w 4 / 256 = c.w 0 →
    s.units.get? (c.w 0) (c.w 4 % 256) = some x → x.st = .retired → x.retires < 3 → (∀ y ∈ s.sensors, y.started = false) → (∀ y ∈ s.table, y = none) →
    s.sys.service = false → s.units.bench = none → exec (.diagBenchRun d) s = .next
      (({ s with units := { s.units with bench := some ({ kind := c.w 0, number := c.w 4 % 256 }, c.w 0, d) } }).begin d)) ∧
  (∀ (s : State) (u : UnitId) (x : UnitRec) (p d n : Nat) (g : Bytes), s.live = true → s.units.bench = some (u, p, d) → s.units.get? u.kind u.number = some x →
    x.kind = u.kind → x.number = u.number → ∃ t, exec (.benchDone n g) s = .next t ∧ t.units.bench = none ∧
    (n ≠ 0 → t.units.get? u.kind u.number = some x) ∧
    (n = 0 → g = Config.benchDigest p → ∃ y, t.units.get? u.kind u.number = some y ∧ y.st = (if u.kind ≤ 1 then .spare else .active) ∧ y.hist = []))) ∧
  ((∀ s : State, s.live = true → s.slack.length = 5 → ∃ t, exec (.slackWindowEnd []) s = .next t ∧ (∀ k, k < 5 → (at! t.slack k).slack = 0 ∧
    (at! t.slack k).min = (at! s.slack k).min ∧ (at! t.slack k).lowWindows = (at! s.slack k).lowWindows) ∧ t = { s with slack := t.slack }) ∧
  (∀ (s : State) (k n b o : Nat) (x : UnitRec), s.live = true → s.slack.length = 5 → k < 5 → s.units.get? k n = some x → x.st = .active → b ≠ 0 → o ≤ b →
    ∃ t, exec (.slackWindowEnd [{ kind := k, number := n, busy := b, outWait := o }]) s = .next t ∧ (at! t.slack k).slack = 1024 * o / b ∧
    (at! t.slack k).min = min (at! s.slack k).min (1024 * o / b) ∧
    (at! t.slack k).lowWindows = sat 32 ((at! s.slack k).lowWindows + b2n (decide (1024 * o / b < s.faultParams.slackLow)))))

/-- DIAG.GET_FAULTS, GET_THERMAL and GET_SLACK write the records of Tables 17-5, 17-6 and 17-7 to the host's buffer and clear what each table marks as
cleared on read (R509); a buffer outside the registered ones is NOT_PERMITTED (R441). DIAG.CAPTURE waits for the group that the slice emits (R13).
Completes: diagGetSlack, diagGetFaults, diagCapture, diagGetThermal. -/
def Obligations.DiagCommandsWriteTheirTables : Prop :=
  ∀ (s : State) (d : Nat) (c : DrawerCmd),
    (s.accepted d 0x0D03 c = true → c.endsAt 16 = true → s.covered (c.q 0) (c.q 8) true = true → 3040 ≤ c.q 8 → exec (.diagGetFaults d) s = .next
      (done d [] { s with
        hostMem := s.hostMem.writeBytes (c.q 0) (s.units.units.flatMap s.units.entryBytes)
        units := { s.units with units := s.units.units.map fun x => { x with mismatch := 0 } } })) ∧
    (s.accepted d 0x0D04 c = true → c.endsAt 16 = true → s.covered (c.q 0) (c.q 8) true = true → 226 ≤ c.q 8 → exec (.diagGetThermal d) s = .next
      (done d [] { s with
        hostMem := s.hostMem.writeBytes (c.q 0) (s.therm.sensors.flatMap ThermSensor.bytes ++ le 2 (ofInt 16 s.therm.tj))
        therm := { s.therm with sensors := s.therm.sensors.map fun x => { x with max := none } } })) ∧
    (s.accepted d 0x0D05 c = true → c.endsAt 16 = true → s.covered (c.q 0) (c.q 8) true = true → 80 ≤ c.q 8 → exec (.diagGetSlack d) s = .next
      (done d [] { s with
        hostMem := s.hostMem.writeBytes (c.q 0) ((List.range 5).flatMap s.slackBytes)
        slack := s.slack.map fun r => { r with min := 0x7FF, lowWindows := 0 } })) ∧
    (s.accepted d 0x0D03 c = true → c.endsAt 16 = true → s.covered (c.q 0) (c.q 8) true = false →
      exec (.diagGetFaults d) s = .next (fail d Status.notPermitted s)) ∧
    (s.accepted d 0x0D01 c = true → c.endsAt 40 = true → c.w 0 = 0 ∧ c.w 4 < 18 ∨ c.w 0 = 2 ∧ c.w 4 < 27 → 1 ≤ c.w 16 → c.w 16 ≤ 65536 →
      s.covered (c.q 24) (c.q 32) true = true → 11 * c.w 16 ≤ c.q 32 → exec (.diagCapture d) s = .next (s.begin d))

/-! ### Plans, pages, policies and tickets -/

/-- PLAN.LOAD with a free destination Shelf begins the move and validation of the image, and the Shelf reads as being written; the source must lie in a
registered buffer and the Shelf must be Empty (R34, R441). PLAN_VALIDATION posts the result (R35, R36, R37): an image that passes Table 2-4 makes
the Shelf Loaded under the next plan generation, and one that fails leaves the Shelf as it was and reports the check's REASON, KIND and offset.
PLAN.EDIT of a Loaded plan into an Empty Shelf begins when the copy differs only where R62 allows and no allotment item grows; else it is
INVALID_FIELD, and nothing changes. Completes: planLoad, planValidation, planEdit. -/
def Obligations.PlansAreLoadedAndEdited : Prop :=
  ((∀ (s : State) (d : Nat) (img : PlanImage) (c : DrawerCmd), s.accepted d 0x0201 c = true → c.endsAt 24 = true → c.w 0 ≤ 7 →
    ((s.shelf (c.w 0)).st ≠ .empty ∨ (s.shelf (c.w 0)).writing ≠ none → exec (.planLoad d img) s = .next (fail d Status.busy s)) ∧
    ((s.shelf (c.w 0)).st = .empty → (s.shelf (c.w 0)).writing = none → s.covered (c.q 8) (c.q 16) false = false →
      exec (.planLoad d img) s = .next (fail d Status.notPermitted s)) ∧
    ((s.shelf (c.w 0)).st = .empty → (s.shelf (c.w 0)).writing = none → s.covered (c.q 8) (c.q 16) false = true →
      exec (.planLoad d img) s = .next ((s.setShelf (c.w 0) fun x => { x with writing := some (img, d) }).begin d))) ∧
  (∀ (s : State) (d k : Nat) (img : PlanImage), s.live = true → s.shelves.findIdx? (fun x => (x.writing.map (·.2)) == some d) = some k →
    (s.shelf k).writing = some (img, d) → (s.drawer d).cmd.opcode = 0x0201 →
    exec (.planValidation d) s = .next (match validate s img ((s.drawer d).cmd.q 16) with
      | none => done d (le 4 s.planCtr) { s.setShelf k (fun x => { x with
          st := .loaded, plan := some img.content, gen := s.planCtr, digest := img.digest, writing := none, pending := [] }) with
          planCtr := if s.planCtr = 0xFFFF then 1 else s.planCtr + 1 }
      | some f => postResult d f.status noDetail (le 4 0 ++ le 4 f.reason ++ le 4 f.kind ++ le 4 f.offset)
          (s.setShelf k fun x => { x with writing := none })))) ∧
  (∀ (s : State) (d : Nat) (img : PlanImage) (c : DrawerCmd) (p : Plan), s.accepted d 0x0202 c = true → c.endsAt 24 = true → c.w 0 ≤ 7 → c.w 4 ≤ 7 →
    (s.shelf (c.w 0)).st = .loaded ∨ (s.shelf (c.w 0)).st = .active → (s.shelf (c.w 0)).plan = some p → (s.shelf (c.w 4)).st = .empty →
    (s.shelf (c.w 4)).writing = none → s.covered (c.q 8) (c.q 16) false = true →
    (uneditable p = uneditable img.content → itemsWithin p img.content = true →
      exec (.planEdit d img) s = .next ((s.setShelf (c.w 4) fun x => { x with writing := some (img, d) }).begin d)) ∧
    (uneditable p ≠ uneditable img.content ∨ itemsWithin p img.content = false →
      exec (.planEdit d img) s = .next (postResult d Status.invalidField noDetail [] s)) ∧
    (∀ q : Plan, uneditable p = uneditable q → q.sdi = p.sdi ∧ q.ports = p.ports ∧ q.corner = p.corner ∧ q.memory = p.memory ∧ q.display = p.display))

/-- PLAN.ACTIVATE of a Loaded plan of one port (R38 to R41): on a started port the switch waits for a ticket issue and the Shelf counts the port as
pending; on a stopped one it takes effect at once, and the Shelf is Active and drives the port. A mask other than the plan's ports is INVALID_FIELD,
and a Shelf that is not Loaded BUSY. PLAN.RELEASE empties a Loaded Shelf that drives no port and that no ticket names; an Empty one is INVALID_FIELD
and one that drains BUSY (Table 2-3, R34). PLAN.GET_SHELVES and PIPE.GET_UNITS answer and change nothing else. A commit (R44, R45, R46):
PIPE.COMMIT_PAGE of RAW delta alone, with policy 3 held, and SENSOR.SET_EXPOSURE, with policy 0 held, write their values to the page and advance
PAGE_GEN, which skips 0; the result names the new PAGE_GEN and FIRST_FRAME. With the owning policy running the command is NOT_PERMITTED (R45).
Completes: planActivate, planRelease, planGetShelves, pipeCommitPage, sensorSetExposure, pipeGetUnits. -/
def Obligations.PlansAreActivatedAndReleased : Prop :=
  (∀ (s : State) (d l : Nat) (c : DrawerCmd) (p : Plan) (x : PortPlan), s.accepted d 0x0203 c = true → c.endsAt 12 = true → c.w 0 ≤ 7 → c.w 4 ≤ 15 → c.w 8 ≤ 1 →
    s.shelves.length = 8 → s.sensors.length = 4 → (s.shelf (c.w 0)).writing = none → (s.shelf (c.w 0)).plan = some p →
    (c.w 4 ≠ p.ports → exec (.planActivate d) s = .next (invalid d 4 s)) ∧
    (c.w 4 = p.ports → (s.shelf (c.w 0)).st ≠ .loaded → exec (.planActivate d) s = .next (fail d Status.busy s)) ∧
    (c.w 4 = p.ports → (s.shelf (c.w 0)).st = .loaded → (s.shelf (c.w 0)).pending = [] → p.portPlans = [x] → x.lead = l → l < 4 →
      x.profile.members = [l] → (∀ y ∈ s.sensors, y.switch = none ∧ y.cal.state ≠ 2) → changesClip s p = false → changesStarted s p = false →
      unitsBad s p = none → stayActive s (c.w 0) (c.w 4) = [] → ∃ t, exec (.planActivate d) s = .next t ∧
      ((at! s.sensors l).started = true → t = ((done d [] s).setSensor l (fun y => { y with switch := some { shelf := c.w 0, drain := c.w 8 == 1 } })).setShelf
        (c.w 0) (fun y => { y with pending := [l] })) ∧
      ((at! s.sensors l).started = false → (t.shelf (c.w 0)).st = .active ∧ (at! t.sensors l).shelf = some (c.w 0) ∧ (at! t.sensors l).switch = none ∧
        t.mem.plan = some p.memory))) ∧
  ((∀ (s : State) (d : Nat) (c : DrawerCmd), s.accepted d 0x0204 c = true → c.endsAt 4 = true → c.w 0 ≤ 7 → (s.shelf (c.w 0)).writing = none →
    ((s.shelf (c.w 0)).st = .empty → exec (.planRelease d) s = .next (invalid d 0 s)) ∧
    ((s.shelf (c.w 0)).st = .draining → exec (.planRelease d) s = .next (fail d Status.busy s)) ∧
    ((s.shelf (c.w 0)).st = .loaded → (s.shelf (c.w 0)).pending = [] → (∀ l, l < 4 → (at! s.sensors l).shelf ≠ some (c.w 0)) →
      (∀ e, some e ∈ s.table → e.ticket.shelf ≠ c.w 0) → exec (.planRelease d) s = .next (done d [] (s.setShelf (c.w 0) fun _ => {})))) ∧
  (∀ (s : State) (d : Nat) (c : DrawerCmd), s.accepted d 0x0205 c = true → c.endsAt 0 = true →
    exec (.planGetShelves d) s = .next (done d (s.shelves.flatMap Shelf.status) s)) ∧
  (∀ (s : State) (d : Nat) (c : DrawerCmd), s.accepted d 0x0405 c = true → c.endsAt 0 = true → exec (.pipeGetUnits d) s =
    .next (done d ((List.range 5).flatMap fun k =>
      le 4 (sumNat ((s.units.units.filter fun u => u.kind == k && u.st != .retired).map fun u => 2 ^ u.number))) s))) ∧
  ((∀ (s : State) (d : Nat) (c : DrawerCmd) (pp : PortPlan), s.accepted d 0x0401 c = true → c.endsAt 96 = true → c.w 0 < 4 → s.sensors.length = 4 →
    s.portPlan? (c.w 0) = some pp → c.w 4 = 0x20 → (∀ i, i < 22 → i ≠ 5 → c.w (8 + 4 * i) = 0) → c.w 28 ≤ 255 →
    ((at! s.sensors (c.w 0)).holds.getD 2 false = false → exec (.pipeCommitPage d) s = .next (fail d Status.notPermitted s)) ∧
    ((at! s.sensors (c.w 0)).holds.getD 2 false = true →
      (at! s.sensors (c.w 0)).staging.exposure = (at! s.sensors (c.w 0)).page.exposure →
      (at! s.sensors (c.w 0)).staging.sensorGain = (at! s.sensors (c.w 0)).page.sensorGain → ∃ t, exec (.pipeCommitPage d) s = .next t ∧
      (at! t.sensors (c.w 0)).page.rawDelta = c.w 28 ∧ (t.drawer d).st ≠ .busy ∧ (at! t.sensors (c.w 0)).page.exposure = (at! s.sensors (c.w 0)).page.exposure ∧
      (at! t.sensors (c.w 0)).page.pageGen = (if (at! s.sensors (c.w 0)).page.pageGen = 0xFFFF then 1 else (at! s.sensors (c.w 0)).page.pageGen + 1) ∧
      t.ports = s.ports ∧ (∀ k, k ≠ c.w 0 → at! t.sensors k = at! s.sensors k))) ∧
  (∀ (s : State) (d : Nat) (c : DrawerCmd) (pp : PortPlan), s.accepted d 0x0303 c = true → c.endsAt 12 = true → c.w 0 < 4 → s.sensors.length = 4 →
    s.portPlan? (c.w 0) = some pp → pp.profile.expMin ≤ c.w 4 → c.w 4 ≤ pp.profile.expMax → pp.profile.gainMin ≤ c.w 8 → c.w 8 ≤ pp.profile.gainMax →
    c.w 8 ≤ 65535 →
    ((at! s.sensors (c.w 0)).holds.getD 0 false = false → exec (.sensorSetExposure d) s = .next (fail d Status.notPermitted s)) ∧
    ((at! s.sensors (c.w 0)).holds.getD 0 false = true → (at! s.sensors (c.w 0)).cal.state = 0 → exec (.sensorSetExposure d) s = .next (
      done d (commitResult (c.w 0) (c.w 4 != (at! s.sensors (c.w 0)).page.exposure || c.w 8 != (at! s.sensors (c.w 0)).page.sensorGain)
        (commitPage (c.w 0) true (fun p => { p with exposure := c.w 4, sensorGain := c.w 8 }) s))
        (commitPage (c.w 0) true (fun p => { p with exposure := c.w 4, sensorGain := c.w 8 }) s)))) ∧
  (∀ (s : State) (l : Nat) (f : Page → Page), l < s.sensors.length → (f (at! s.sensors l).staging).exposure = (at! s.sensors l).page.exposure →
    (f (at! s.sensors l).staging).sensorGain = (at! s.sensors l).page.sensorGain → commitPage l false f s = s.setSensor l fun x =>
      { x with staging := f x.staging
               page := { f x.staging with pageGen := if x.page.pageGen = 0xFFFF then 1 else x.page.pageGen + 1 } }))

/-- FIRMWARE_PAGE_COMMIT changes nothing on a port that does not run or outside STAGE 2 (R521); on a running port it commits firmware's values within
the profile's limits, but for policies that are held, which keep theirs (R44, R45, R58). PIPE.HOLD_POLICY and PIPE.RELEASE_POLICY of a device policy
5 or 6 hold and release it at once; those of a port policy 0 to 3 take effect at the port's next ticket issue (R59); an ID above 6 is INVALID_FIELD.
SOURCE_TICKET_ISSUE: a source whose queue holds no picture issues nothing, and so does any source in the safe loop (R521); a picture that no Active
plan's graph feeds on is taken from the queue and gets no ticket; one that an Active plan feeds on takes the lowest free table entry with the plan's
generation and the reading (R49), here with policy 6 held. ENTRY_RETIRE frees the entry of a frame whose items are released and whose stages have
ended, and raises EVT.SYS.FRAME_RETIRED with its final ticket; any other entry stays (R52). Completes: firmwarePageCommit, sourceTicketIssue,
entryRetire, pipeHoldPolicy, pipeReleasePolicy. -/
def Obligations.FirmwareCommitsPoliciesAndTickets : Prop :=
  ((∀ (s : State) (l : Nat) (o : PolicyOut), s.live = true → (at! s.sensors l).started = false ∨ s.sys.stage ≠ 2 ∨ s.portPlan? l = none →
    exec (.firmwarePageCommit l o) s = .next s) ∧
  (∀ (s : State) (l : Nat) (o : PolicyOut) (pp : PortPlan), s.live = true → (at! s.sensors l).started = true → s.sys.stage = 2 → s.portPlan? l = some pp →
    (at! s.sensors l).cal.state = 0 → (at! s.sensors l).cal.restore = none →
    exec (.firmwarePageCommit l o) s = .next (commitPage l false (firmwarePage (at! s.sensors l).holds ((s.planOf? l).getD default).limits pp.profile o) s)) ∧
  (∀ (h : List Bool) (m : PolicyLimits) (pp : PortProfile) (o : PolicyOut) (p : Page), pp.expMin ≤ pp.expMax → pp.gainMin ≤ pp.gainMax → h.getD 0 false = false →
    pp.expMin ≤ (firmwarePage h m pp o p).exposure ∧ (firmwarePage h m pp o p).exposure ≤ pp.expMax ∧ pp.gainMin ≤ (firmwarePage h m pp o p).sensorGain ∧
    (firmwarePage h m pp o p).sensorGain ≤ pp.gainMax) ∧
  (∀ (m : PolicyLimits) (pp : PortProfile) (o : PolicyOut) (p : Page), (firmwarePage [true, true, true, true] m pp o p).exposure = p.exposure ∧
    (firmwarePage [true, true, true, true] m pp o p).wb = p.wb ∧ (firmwarePage [true, true, true, true] m pp o p).rawDelta = p.rawDelta ∧
    (firmwarePage [true, true, true, true] m pp o p).qpDelta = p.qpDelta)) ∧
  (∀ (s : State) (d : Nat) (c : DrawerCmd) (b : Bool) (i : Instr), (b, i) ∈ [(true, Instr.pipeHoldPolicy d), (false, .pipeReleasePolicy d)] →
    s.accepted d (if b then 0x0402 else 0x0403) c = true → c.endsAt 8 = true →
    (6 < c.w 0 → exec i s = .next (invalid d 0 s)) ∧
    (c.w 0 = 5 ∨ c.w 0 = 6 → c.w 4 = 0 → exec i s = .next (done d [] { s with holds := s.holds.set (c.w 0 - 4) b })) ∧
    (c.w 0 ≤ 3 → c.w 4 = 0 → exec i s = .next (done d [] s)) ∧
    (∀ p, c.w 0 ≤ 3 → p < 4 → c.w 4 = 2 ^ p → exec i s = .next (done d []
      (s.setSensor p fun x => { x with holdNext := x.holdNext.set (c.w 0) b })))) ∧
  ((∀ (s : State) (x : SourceId), s.live = true → s.sys.stage ≠ 2 → exec (.sourceTicketIssue x) s = .next s) ∧
  (∀ (s : State) (e c : Nat) (pic : SourcePicture) (r : List SourcePicture), s.live = true → s.sys.stage = 2 → (at! s.ctxs (32 * e + c)).shown = pic :: r →
    (∀ k ∈ s.shelves, k.st ≠ .active) → exec (.sourceTicketIssue (.decode e c)) s =
      .next { s with ctxs := upd s.ctxs (32 * e + c) fun x => { x with shown := r } }) ∧
  (∀ (s : State) (e c i k : Nat) (pic : SourcePicture) (r : List SourcePicture) (p : Plan), s.live = true → s.sys.stage = 2 → s.holds.getD 2 false = true →
    (at! s.ctxs (32 * e + c)).shown = pic :: r → sourceShelf s (fun g => g.srcKind == 1 && g.srcId == 32 * e + c) = some (k, p) →
    s.table.findIdx? (·.isNone) = some i → ∃ t, exec (.sourceTicketIssue (.decode e c)) s = .next t ∧ (at! t.ctxs (32 * e + c)).shown = r ∧
    (∃ x, t.entry? i = some x ∧ x.src = .decode e c ∧ x.ticket.frame = pic.frame ∧ x.ticket.shelf = k ∧ x.ticket.entry = i ∧ x.ticket.time = s.reading ∧
      x.ticket.planGen = (s.shelf k).gen ∧ x.picture = some pic ∧ x.items = []) ∧ (∀ j, j ≠ i → t.entry? j = s.entry? j)) ∧
  (∀ (s : State) (e : Nat) (x : Entry), s.live = true → s.entry? e = some x → x.retirable = false → exec (.entryRetire e) s = .next s) ∧
  (∀ (s : State) (e : Nat) (x : Entry), s.live = true → s.entry? e = some x → x.retirable = true → x.isSensor = false → ∃ t, exec (.entryRetire e) s = .next t ∧
    t.entry? e = none ∧ (∀ k, k ≠ e → t.entry? k = s.entry? k) ∧ t.ev = (raise 65 x.lead [] (some x.ticket) s).ev ∧
    t = { s with table := t.table, shelves := t.shelves, rend := t.rend, ev := t.ev, hostMem := t.hostMem }))

/-! ### Sensor ports -/

/-- Table 3-8: with CK present and a plan that names it, whose initialisation list is not going out, a Down port in P0 or P1 goes to Training; when CK
is lost a port in Training or Up goes Down, with its fall counted and EVT.PORT.LINK_DOWN raised; a port that has trained for 10 ms begins again and
raises EVT.PORT.TRAIN_FAIL (R93, Table 3-12); a clock that was already there changes nothing but its flag on a port that is not Down. A lane counts
valid markers, each one block after the last, and is aligned after three in a row (R69, R71); an invalid one counts in MARKER_ERR and ends the run;
an aligned lane of a port in Training that loses alignment raises EVT.PORT.LANE_LOST and waits for new markers. Markers of a Down port count
nothing. Completes: ckPresent, ckLoss, trainingTimeout, alignmentMarker, alignmentLoss. -/
def Obligations.LinksTrainAndAlign : Prop :=
  ((∀ (s : State) (p : Nat), s.live = true → p < s.ports.length → (at! s.ports p).st = .down →
    (∃ l, s.leadOf p = some l ∧ (at! s.sensors l).listing = false) → s.sys.pstate < 2 →
    ∃ t, exec (.ckPresent p) s = .next t ∧ (at! t.ports p).st = .training ∧ (at! t.ports p).ck = true ∧ (at! t.ports p).trainStart = s.time.count ∧
    (∀ k ∈ (at! t.ports p).lanes, k.aligned = false ∧ k.mseq = none) ∧ (∀ k, k ≠ p → at! t.ports k = at! s.ports k) ∧ t = { s with ports := t.ports }) ∧
  (∀ (s : State) (p : Nat), s.live = true → (at! s.ports p).st ≠ .down →
    exec (.ckPresent p) s = .next (s.setPort p fun q => { q with ck := true })) ∧
  (∀ (s : State) (p : Nat), s.live = true → p < s.ports.length → (at! s.ports p).st = .training ∨ (at! s.ports p).st = .up → (at! s.ports p).part.opened = false →
    (∀ l, s.leadOf p = some l → (at! s.sensors l).started = false ∨ (s.portPlan l).profile.members = [p]) →
    ∃ t, exec (.ckLoss p) s = .next t ∧ (at! t.ports p).st = .down ∧ (at! t.ports p).ck = false ∧
    (at! t.ports p).stats.linkDowns = sat 16 ((at! s.ports p).stats.linkDowns + 1) ∧ t.table = s.table) ∧
  (∀ (s : State) (p : Nat), s.live = true → (at! s.ports p).st ≠ .training → exec (.trainingTimeout p) s = .next s) ∧
  (∀ (s : State) (p : Nat), s.live = true → p < s.ports.length → (at! s.ports p).st = .training → (at! s.ports p).trainStart + 10000000 ≤ s.time.count →
    ∃ t, exec (.trainingTimeout p) s = .next t ∧ (at! t.ports p).st = .training ∧ (at! t.ports p).trainStart = s.time.count ∧
    (∀ k, k ≠ p → at! t.ports k = at! s.ports k) ∧ t = { s with ports := t.ports, ev := t.ev, hostMem := t.hostMem })) ∧
  ((∀ (s : State) (p n : Nat) (m : LaneMarker), s.live = true → (at! s.ports p).st = .down ∨ (at! s.ports p).st = .test →
    exec (.alignmentMarker p n m) s = .next s) ∧
  (∀ (s : State) (p n : Nat) (m : LaneMarker), s.live = true → p < s.ports.length → n < (at! s.ports p).lanes.length → n < s.laneCount p →
    (at! s.ports p).st = .training → (
    let k := at! (at! s.ports p).lanes n
    (m.valid n = true → k.aligned = false ∨ (∀ a, k.arrival = some a → a + 4096 = m.arrival) → ∃ t, exec (.alignmentMarker p n m) s = .next t ∧
      let x := at! (at! t.ports p).lanes n
      x.goodRun = (if 4096 ≤ m.arrival ∧ k.arrival = some (m.arrival - 4096) then min 3 (k.goodRun + 1) else 1) ∧ x.badRun = 0 ∧ x.mseq = some m.mseq ∧
      x.arrival = some m.arrival ∧ (x.aligned = true ↔ k.aligned = true ∨ 3 ≤ x.goodRun)) ∧
    (m.valid n = false → (at! (at! s.ports p).lanes n).aligned = false → ∃ t, exec (.alignmentMarker p n m) s = .next t ∧
      (at! (at! t.ports p).lanes n).markerErr = sat 32 ((at! (at! s.ports p).lanes n).markerErr + 1) ∧ (at! (at! t.ports p).lanes n).goodRun = 0 ∧
      (at! (at! t.ports p).lanes n).badRun = (at! (at! s.ports p).lanes n).badRun + 1 ∧ t = { s with ports := t.ports }))) ∧
  (∀ (s : State) (p n : Nat), s.live = true → p < s.ports.length → n < (at! s.ports p).lanes.length → n < s.laneCount p → (at! s.ports p).st = .training →
    (at! (at! s.ports p).lanes n).aligned = true → ∃ t, exec (.alignmentLoss p n) s = .next t ∧ (at! (at! t.ports p).lanes n).aligned = false ∧
    (at! (at! t.ports p).lanes n).goodRun = 0 ∧ (at! t.ports p).st = .training ∧ t = { s with ports := t.ports, ev := t.ev, hostMem := t.hostMem }))

/-- The checks of R79, in their order, on a port that is Up without injection: a header whose HEC fails is discarded and counted, and the port skips to
the next marker that names a packet; a packet whose CRC fails is discarded and counted; one whose SEQ is the last accepted or up to 127 before it is
discarded and counts in SEQ_LATE. A skipping port, or one that is not Up, takes nothing but the packet's symbols. Accepted packets of a single port
that is started (R80 to R82, R90, R129), each the next in SEQ and counted in PKT_GOOD: FRAME_START opens the frame whose ticket is waiting; EMBEDDED
adds its bytes to the frame's statistics; FRAME_END closes the part once every row has come; SLEEP between frames puts the port to sleep for its
DURATION when the profile has SLEEP_OK. ROW_DATA of a whole row that is the one now expected (R77, R80, R104): its samples stand in intake, unpacked
most significant bit first, the row is complete, and the member's next row is expected; with a row number past the frame nothing is taken in (R81).
Here a single port, a frame whose ticket has been issued, an intake buffer with room, and an echo already compared. `State.rx` is the packet that
the received symbols spell (R66 to R74), and `rxDone` changes of the state only each lane's last level and the place of the next byte. Completes:
rowData, headerError, frameStart, embedded, frameEnd, sleep. -/
def Obligations.PacketsAreCheckedAndAct : Prop :=
  (∀ (s : State) (p : Nat) (r : LinkRun), (rxDone p r s) = { s with ports := (rxDone p r s).ports } ∧
    ∃ n ls, ls.length = (at! s.ports p).lanes.length ∧ (∀ i, ∃ v, at! ls i = { (at! (at! s.ports p).lanes i) with level := v }) ∧
    rxDone p r s = s.setPort p fun q => { q with nextLane := n, drop := 0, lanes := ls }) ∧
  (∀ (s : State) (p : Nat) (r : LinkRun) (k : LinkPacket), s.live = true → p < s.ports.length → s.rx p r = k →
    ((at! s.ports p).st ≠ .up → k.hecOk = true → k.type = 2 → exec (.rowData p r) s = .next (rxDone p r s)) ∧
    ((at! s.ports p).st = .up → (at! s.ports p).inject = none → (at! s.ports p).skipping = true → k.hecOk = true → k.type = 2 →
      exec (.rowData p r) s = .next (rxDone p r s)) ∧
    ((at! s.ports p).st = .up → (at! s.ports p).inject = none → (at! s.ports p).skipping = false →
      (k.hecOk = false → k.header ≠ 0 → ∃ t, exec (.headerError p r) s = .next t ∧ (at! t.ports p).skipping = true ∧
        (at! t.ports p).stats.hdrErr = sat 32 ((at! s.ports p).stats.hdrErr + 1) ∧ (at! t.ports p).rxSeq = (at! s.ports p).rxSeq ∧
        t = { s with ports := t.ports, ev := t.ev, hostMem := t.hostMem }) ∧
      (k.hecOk = true → k.type = 2 → k.crcOk = false → ∃ t, exec (.rowData p r) s = .next t ∧
        (at! t.ports p).stats.crcErr = sat 32 ((at! s.ports p).stats.crcErr + 1) ∧ (at! t.ports p).rxSeq = (at! s.ports p).rxSeq ∧
        t = { s with ports := t.ports, ev := t.ev, hostMem := t.hostMem }) ∧
      (k.hecOk = true → k.type = 2 → k.crcOk = true →
        (k.seq + 256 - (at! s.ports p).rxSeq.getD 255 % 256) % 256 = 0 ∨ 128 ≤ (k.seq + 256 - (at! s.ports p).rxSeq.getD 255 % 256) % 256 →
        ∃ t, exec (.rowData p r) s = .next t ∧ (at! t.ports p).stats.seqLate = sat 32 ((at! s.ports p).stats.seqLate + 1) ∧
        (at! t.ports p).intake = (at! s.ports p).intake ∧ t = { s with ports := t.ports, ev := t.ev, hostMem := t.hostMem }))) ∧
  (∀ (s : State) (p : Nat) (r : LinkRun) (k : LinkPacket) (pp : PortPlan), s.live = true → p < 4 → s.ports.length = 4 → s.sensors.length = 4 →
    s.rx p r = k → (at! s.ports p).st = .up → (at! s.ports p).inject = none → (at! s.ports p).skipping = false → k.hecOk = true → k.crcOk = true →
    k.seq = ((at! s.ports p).rxSeq.getD 255 + 1) % 256 → s.leadOf p = some p → s.portPlan? p = some pp → pp.profile.members = [p] →
    pp.profile.timing ≠ .lineScan → (at! s.ports p).waitStart = false → (at! s.sensors p).started = true → (at! s.sensors p).switch = none → (
    let q := at! s.ports p
    let good := fun (t : State) => (at! t.ports p).rxSeq = some k.seq ∧ (at! t.ports p).stats.pktGood = sat 32 (q.stats.pktGood + 1)
    (∀ n e, k.type = 1 → k.payload.length = 16 → q.part.closed = true → (at! s.sensors p).upcoming = some (n, some e) →
      (∀ c, q.part.lastClosed = some c → serialLe n c = false) →
      ∃ t, exec (.frameStart p r) s = .next t ∧ good t ∧ (at! t.ports p).part.frame = n ∧ (at! t.ports p).part.opened = true ∧
      (at! t.ports p).part.closed = false ∧ (at! t.ports p).part.sfc = some (payWord k.payload 0 / 65536) ∧ (at! t.ports p).part.expPix = 0 ∧
      (at! t.ports p).intake = q.intake) ∧
    (∀ e x, k.type = 5 → s.entryOf p q.part.frame = some e → s.entry? e = some x → x.stats.embedded.length + k.payload.length ≤ 4096 →
      ∃ t, exec (.embedded p r) s = .next t ∧ good t ∧ (∃ y, t.entry? e = some y ∧ y.stats.embedded = x.stats.embedded ++ k.payload ∧
        y.stats.embCut = x.stats.embCut) ∧ t = { s with ports := t.ports, table := t.table }) ∧
    (k.type = 3 → k.payload.length = 4 → q.part.closed = false → q.part.opened = true → pp.profile.rows ≤ q.part.expRow →
      ∃ t, exec (.frameEnd p r) s = .next t ∧ good t ∧ (at! t.ports p).part.closed = true ∧ (at! t.ports p).part.opened = false) ∧
    (k.type = 4 → k.payload.length = 4 → q.part.closed = true → ∃ t, exec (.sleep p r) s = .next t ∧ good t ∧
      (pp.profile.sleepOk = true → (at! t.ports p).st = .asleep ∧ (at! t.ports p).sleepAt = some (s.time.count, payWord k.payload 0 / 65536)) ∧
      (pp.profile.sleepOk = false → (at! t.ports p).st = .up) ∧ t = { s with ports := t.ports }))) ∧
  (∀ (s : State) (p r e : Nat) (x : Entry) (u : LinkRun) (k : LinkPacket) (pp : PortPlan), s.live = true → p < 4 → s.ports.length = 4 → s.rx p u = k →
    (at! s.ports p).st = .up → (at! s.ports p).inject = none → (at! s.ports p).skipping = false → k.hecOk = true → k.crcOk = true → k.type = 2 →
    k.seq = ((at! s.ports p).rxSeq.getD 255 + 1) % 256 → s.leadOf p = some p → s.portPlan? p = some pp → pp.profile.members = [p] →
    pp.profile.timing ≠ .lineScan → (at! s.ports p).waitStart = false → (at! s.sensors p).started = true → payWord k.payload 0 / 16384 = r →
    payWord k.payload 1 / 65536 = 0 → payWord k.payload 1 % 65536 = pp.profile.width → 0 < pp.profile.width →
    k.payload.length = 8 + ceilDiv (pp.profile.width * pp.profile.sampleBits * pp.profile.gains) 32 * 4 →
    (pp.profile.rows ≤ r → ∃ t, exec (.rowData p u) s = .next t ∧ (at! t.ports p).intake = (at! s.ports p).intake ∧
      (at! t.ports p).part = (at! s.ports p).part ∧ t = { s with ports := t.ports }) ∧
    (r < pp.profile.rows → (at! s.ports p).part.closed = false → (at! s.ports p).part.opened = true → (at! s.ports p).part.expRow = r →
      (at! s.ports p).part.expPix = 0 → (∀ n, (at! s.ports p).part.lastRow = some n → n < r) → (at! s.ports p).part.echo.isSome = true →
      (at! s.ports p).part.discarding = false → (at! s.ports p).part.truncAt = none → s.entryOf p (at! s.ports p).part.frame = some e → s.entry? e = some x →
      (∀ y ∈ (at! s.ports p).intake, y.frame ≠ (at! s.ports p).part.frame ∨ y.row ≠ r) →
      intakeBits pp.profile.sampleBits (at! s.ports p).intake + pp.profile.width * pp.profile.gains * pp.profile.sampleBits ≤ 16777216 →
      ∃ t, exec (.rowData p u) s = .next t ∧ (at! t.ports p).part.lastRow = some r ∧ (at! t.ports p).part.expPix = 0 ∧
      (at! t.ports p).part.expRow = pp.profile.nextRow 0 (r + 1) ∧
      (at! t.ports p).intake = (at! s.ports p).intake ++ [{
        frame := (at! s.ports p).part.frame, row := r, complete := true, begun := s.reading, time := s.reading
        samples := (unpackSamples pp.profile.sampleBits (pp.profile.width * pp.profile.gains) (k.payload.drop 8)).map some }] ∧
      t = { s with ports := t.ports, table := t.table }))

/-- A REPLY that echoes the outstanding command's SEQ ends it and the next waiting one leaves (R86, R87); without one for 20 µs the command is repeated,
with its SEQ, up to three attempts, and then it ends with EVT.PORT.BC_NO_ACK (R87), a Drawer's with TIMEOUT. The sleep entry begins only when
nothing waits, and its end stops the back channel (R92). SLEEP_OVERRUN: a port that sleeps more than 20 µs past its DURATION goes Down with
EVT.PORT.SLEEP_OVERRUN, and no sooner (R91). TRIGGER sends the packet of the next frame when its readout would start on a schedule instant, once per
instant, and none in another timing (R83, R416). Completes: reply, bcReplyTimeout, backChannelSleep, sleepOverrun, trigger. -/
def Obligations.TheBackChannelAndSleep : Prop :=
  ((∀ (s : State) (p : Nat) (c : BcCmd) (n : Nat) (pay : Bytes), p < s.ports.length → (at! s.ports p).bc.current = some (c, n) → c.owner = .firmware →
    (∀ i g t gen, c.kind ≠ .exposure i g t gen) → (at! s.ports p).bc.waiting = [] → payWord pay 0 / 2 ^ 24 = c.seq → payWord pay 0 / 65536 % 256 ≠ 2 →
    (at! (replyIn p pay s).ports p).bc.current = none ∧ (replyIn p pay s).drawers = s.drawers) ∧
  (∀ (s : State) (p : Nat) (r : LinkRun) (k : LinkPacket), s.live = true → p < s.ports.length → s.rx p r = k → (at! s.ports p).st = .up →
    (at! s.ports p).inject = none → (at! s.ports p).skipping = false → k.hecOk = true → k.crcOk = true → k.type = 6 → k.seq = ((at! s.ports p).rxSeq.getD 255 + 1) % 256 → (s.leadOf p).isSome = true →
    exec (.reply p r) s = .next (replyIn p k.payload ((rxDone p r s).setPort p fun q => { q with
      rxSeq := some k.seq, stats := { q.stats with pktGood := sat 32 (q.stats.pktGood + 1) } }))) ∧
  (∀ (s : State) (p n : Nat) (c : BcCmd), s.live = true → p < s.ports.length → (at! s.ports p).bc.current = some (c, n) →
    (s.time.count < n + 20000 → exec (.bcReplyTimeout p) s = .next s) ∧
    (n + 20000 ≤ s.time.count → c.attempts < 3 → ∃ t, exec (.bcReplyTimeout p) s = .next t ∧
      (at! t.ports p).bc.current = some ({ c with attempts := c.attempts + 1 }, s.time.count) ∧
      (at! t.ports p).bc.sent = some c.packet ∧ (at! t.ports p).stats.bcRetry = sat 16 ((at! s.ports p).stats.bcRetry + 1) ∧
      t = { s with ports := t.ports }) ∧
    (∀ d, n + 20000 ≤ s.time.count → 3 ≤ c.attempts → c.owner = .drawer d → (s.drawer d).st = .busy → (at! s.sensors p).starting ≠ some d →
      (at! s.ports p).bc.waiting = [] →
      ∃ t, exec (.bcReplyTimeout p) s = .next t ∧ (at! t.ports p).bc.current = none ∧ (t.drawer d).st ≠ .busy ∧
      (at! t.ports p).stats.bcFail = sat 16 ((at! s.ports p).stats.bcFail + 1))) ∧
  (∀ (s : State) (p : Nat), p < s.ports.length → (at! s.ports p).bc.phase = .awake → (at! s.ports p).bc.current = none → (at! s.ports p).bc.waiting = [] →
    (at! (leaveNext p s).ports p).bc.phase = .entering) ∧
  (∀ (s : State) (p : Nat), s.live = true → p < s.ports.length → (at! s.ports p).bc.phase = .entering → (at! s.ports p).bc.waiting = [] →
    ∃ t, exec (.backChannelSleep p) s = .next t ∧ (at! t.ports p).bc.phase = .asleep ∧ (at! t.ports p).bc.current = (at! s.ports p).bc.current ∧
    t = { s with ports := t.ports }) ∧
  (∀ (s : State) (p : Nat), s.live = true → (at! s.ports p).bc.phase ≠ .entering → exec (.backChannelSleep p) s = .next s)) ∧
  ((∀ (s : State) (p n d : Nat), s.live = true → p < s.ports.length → (at! s.ports p).st = .asleep → (at! s.ports p).sleepAt = some (n, d) →
    (s.time.count < n + 1000 * (d + 20) → exec (.sleepOverrun p) s = .next s) ∧
    (n + 1000 * (d + 20) ≤ s.time.count → (at! s.ports p).part.opened = false → (at! s.ports p).ck = false →
      (∀ l, s.leadOf p = some l → (at! s.sensors l).started = false ∨ (s.portPlan l).profile.members = [p]) →
      ∃ t, exec (.sleepOverrun p) s = .next t ∧ (at! t.ports p).st = .down ∧ (at! t.ports p).sleepAt = none ∧ t.table = s.table)) ∧
  (∀ (s : State) (p : Nat), s.live = true → (at! s.sensors p).started = false ∨ (s.portPlan p).profile.timing ≠ .triggered →
    exec (.trigger p) s = .next s) ∧
  (∀ (s : State) (p n : Nat) (v : Int), s.live = true → p < s.ports.length → p < s.sensors.length → s.triggerFrame p = n →
    (at! s.sensors p).started = true → (s.portPlan p).profile.timing = .triggered → (∀ x, (at! s.ports p).bc.trigger = some x → x.2 ≠ v) →
    (∀ e x, s.entryOf p n = some e → s.entry? e = some x → x.ticket.calframe = false) →
    scheduleAt (s.portPlan p).profile.fpsNum (s.portPlan p).profile.fpsDen (s.portPlan p).profile.phase
      ((s.reading : Int) + (s.portPlan p).profile.trigLat - (at! s.sensors p).lag) = some v →
    ∃ t, exec (.trigger p) s = .next t ∧ (at! t.ports p).bc.trigger = some (n, v) ∧ (at! t.ports p).bc.phase ≠ .asleep ∧
    (at! t.ports p).bc.sent = some (makePacket 0xD (at! s.ports p).bc.seq [n % 65536 * 65536]) ∧ (at! t.ports p).bc.seq = wrap 8 ((at! s.ports p).bc.seq + 1) ∧ (at! t.sensors p).lag = (at! s.sensors p).lag ∧
    t = { s with ports := t.ports, sensors := t.sensors }) ∧
  (∀ (a b : Nat) (ph x v : Int), scheduleAt a b ph x = some v → (v - x).natAbs ≤ 4))

/-- EYE_WINDOW_END records the figure of merit, and the lowest since the last read, of a lane in Training or Up (R96); with policy 5 held no coefficient
moves (R58, R97). PATTERN_TEST_END records a lane's count, and the test goes on while another lane has not ended (R99). A perforation edge on a port
that is not in line-scan mode, or does not run, changes nothing; one that follows within PERF_MIN is counted and ignored (R135). SENSOR.START on a
stopped port with a plan, in P0 with no Bench run, begins: frame numbers start at 0 and STREAM start is sent after the initialisation list (R38,
R82, R95); outside P0, or without a plan, it is NOT_PERMITTED. SENSOR.STOP of a stopped port is done at once, and of a running frame sensor waits
for vertical blanking. SENSOR.GET_LINK_STATS writes Table 3-11 to the host and resets its read-clear fields (R102); SENSOR.INJECT and SENSOR.TEST
serve only in Maintenance mode (R98, R101); a pattern of the back channel or a near-end loopback takes effect at once, a test of the sensor's
generator or a far-end loopback waits for the answer to its TEST packet, and facility 0xF writes the counts; SENSOR.BC_WRITE and SENSOR.BC_READ
issue their packet on a free back channel (R85 to R87). Completes: eyeWindowEnd, patternTestEnd, perforationEdge, sensorStart, sensorStop,
sensorGetLinkStats, sensorInject, sensorTest, sensorBcWrite, sensorBcRead. -/
def Obligations.SensorCommands : Prop :=
  ((∀ (s : State) (p n : Nat) (e : EyeLevels), s.live = true → p < s.ports.length → n < (at! s.ports p).lanes.length → n < s.laneCount p →
    (at! s.ports p).st = .training ∨ (at! s.ports p).st = .up → ∃ t, exec (.eyeWindowEnd p n e) s = .next t ∧ (at! (at! t.ports p).lanes n).fom = e.fom ∧
    (at! (at! t.ports p).lanes n).fomMin = min (at! (at! s.ports p).lanes n).fomMin e.fom ∧
    (s.holds.getD 1 false = true → (at! (at! t.ports p).lanes n).ctle = (at! (at! s.ports p).lanes n).ctle ∧
      (at! (at! t.ports p).lanes n).dfe = (at! (at! s.ports p).lanes n).dfe ∧ (at! (at! t.ports p).lanes n).phase = (at! (at! s.ports p).lanes n).phase)) ∧
  (∀ (s : State) (p n k : Nat) (e : EyeLevels), s.live = true → (at! s.ports p).st = .down ∨ (at! s.ports p).st = .asleep → k = n → exec (.eyeWindowEnd p k e) s = .next s) ∧
  (∀ (s : State) (p n m errs : Nat) (x : LaneTest), s.live = true → p < s.ports.length → n < (at! s.ports p).lanes.length → (at! s.ports p).test = some x →
    x.active = true → bit x.lanes n = true → bit x.lanesDone n = false → m < 8 → m ≠ n → bit x.lanes m = true → bit (x.lanesDone + 2 ^ n) m = false →
    ∃ t, exec (.patternTestEnd p n errs) s = .next t ∧ (at! (at! t.ports p).lanes n).patErrors = sat 32 (x.errorsOf x.symbols errs) ∧
    (at! (at! t.ports p).lanes n).patSymbols = sat 48 x.symbols ∧ (at! t.ports p).test = some { x with lanesDone := x.lanesDone + 2 ^ n } ∧
    t = { s with ports := t.ports }) ∧
  (∀ (s : State) (g : Nat) (b : Bool), s.live = true → (∀ l, l < 4 → (at! s.sensors l).started = false ∨ (s.portPlan l).profile.timing ≠ .lineScan) →
    exec (.perforationEdge g b) s = .next s) ∧
  (∀ (s : State) (g l n : Nat) (b : Bool), s.live = true → s.sensors.length = 4 → l < 4 → (at! s.sensors l).started = true → (s.portPlan l).profile.timing = .lineScan →
    (s.portPlan l).profile.perfGpio = g → (s.portPlan l).profile.perfRising = b → (∀ k, k ≠ l → (at! s.sensors k).started = false) →
    (at! s.sensors l).lastEdge = some n → s.reading < n + (s.portPlan l).profile.perfMin → ∃ t, exec (.perforationEdge g b) s = .next t ∧
    (at! t.sensors l).edgesIgnored = sat 32 ((at! s.sensors l).edgesIgnored + 1) ∧ t = { s with sensors := t.sensors, ev := t.ev, hostMem := t.hostMem }) ∧
  (∀ (s : State) (g l : Nat) (b : Bool), s.live = true → s.sensors.length = 4 → l < 4 → (at! s.sensors l).started = true → (s.portPlan l).profile.timing = .lineScan →
    (s.portPlan l).profile.perfGpio = g → (s.portPlan l).profile.perfRising = b → (∀ k, k ≠ l → (at! s.sensors k).started = false) →
    (∀ n, (at! s.sensors l).lastEdge = some n → n + (s.portPlan l).profile.perfMin ≤ s.reading) → ∃ t, exec (.perforationEdge g b) s = .next t ∧
    (at! t.sensors l).lastEdge = some s.reading ∧ (at! t.sensors l).nextFrame = wrap 32 ((at! s.sensors l).nextFrame + 1) ∧
    (at! t.sensors l).scanNext = (at! s.sensors l).scanNext ++ [(s.reading + (s.portPlan l).profile.perfDelay, (at! s.sensors l).nextFrame)])) ∧
  ((∀ (s : State) (d : Nat) (c : DrawerCmd), s.accepted d 0x0301 c = true → c.endsAt 4 = true → c.w 0 ≤ 3 →
    (s.portPlan? (c.w 0) = none → exec (.sensorStart d) s = .next (fail d Status.notPermitted s)) ∧
    (∀ pp, s.portPlan? (c.w 0) = some pp → s.units.bench = none → s.entering = false → s.sys.pstate ≠ 0 →
      exec (.sensorStart d) s = .next (fail d Status.notPermitted s)) ∧
    (∀ pp, s.portPlan? (c.w 0) = some pp → s.units.bench = none → s.entering = false → s.sys.pstate = 0 → (at! s.sensors (c.w 0)).started = true →
      exec (.sensorStart d) s = .next (fail d Status.busy s)) ∧
    (∀ pp, s.portPlan? (c.w 0) = some pp → s.units.bench = none → s.entering = false → s.sys.pstate = 0 → s.portBusy (c.w 0) = false → s.sensors.length = 4 →
      s.ports.length = 4 → (at! s.ports (c.w 0)).bc.phase ≠ .entering → (at! s.ports (c.w 0)).bc.current = none → (at! s.ports (c.w 0)).bc.waiting = [] →
      (pp.profile.initList = [] → ∃ t, exec (.sensorStart d) s = .next t ∧ (at! t.sensors (c.w 0)).started = true ∧ (at! t.ports (c.w 0)).bc.current.isSome = true) ∧
      (pp.profile.initList ≠ [] →
      ∃ t, exec (.sensorStart d) s = .next t ∧ (at! t.sensors (c.w 0)).starting = some d ∧ (at! t.sensors (c.w 0)).nextFrame = 0 ∧
      (at! t.sensors (c.w 0)).started = false ∧ (t.drawer d).begun = true ∧ (t.drawer d).st = .busy ∧ (at! t.ports (c.w 0)).bc.waiting ≠ [] ∧
      (at! t.ports (c.w 0)).bc.current.isSome = true ∧ t.table = s.table))) ∧
  (∀ (s : State) (d : Nat) (c : DrawerCmd), s.accepted d 0x0302 c = true → c.endsAt 4 = true → c.w 0 ≤ 3 → (at! s.sensors (c.w 0)).starting = none →
    ((at! s.sensors (c.w 0)).stopping ≠ none → exec (.sensorStop d) s = .next (fail d Status.busy s)) ∧
    ((at! s.sensors (c.w 0)).stopping = none → (at! s.sensors (c.w 0)).started = false → exec (.sensorStop d) s = .next (done d [] s)) ∧
    ((at! s.sensors (c.w 0)).stopping = none → (at! s.sensors (c.w 0)).started = true → (s.portPlan (c.w 0)).profile.timing ≠ .lineScan →
      exec (.sensorStop d) s = .next ((s.setSensor (c.w 0) fun x => { x with stopping := some d }).begin d)) ∧
    ((at! s.sensors (c.w 0)).stopping = none → (at! s.sensors (c.w 0)).started = true → (s.portPlan (c.w 0)).profile.timing = .lineScan →
      ∃ t, exec (.sensorStop d) s = .next t ∧ (at! t.sensors (c.w 0)).stopping = none))) ∧
  (∀ (s : State) (d : Nat) (c : DrawerCmd),
    (s.accepted d 0x0306 c = true → c.endsAt 24 = true → c.w 0 ≤ 3 → s.covered (c.q 8) (c.q 16) true = true → 192 ≤ c.q 16 →
      exec (.sensorGetLinkStats d) s = .next (done d [] (({ s with hostMem := s.hostMem.writeBytes (c.q 8) (at! s.ports (c.w 0)).statBytes } : State).setPort (c.w 0)
        fun q => { q with stats := default, lanes := q.lanes.map fun k => { k with fomMin := 0xFF, markerErr := 0 } }))) ∧
    (s.accepted d 0x0308 c = true → c.endsAt 28 = true → c.w 0 ≤ 3 → c.w 4 ≤ 3 → c.w 8 ≤ 65535 → c.w 4 = 0 ∨ 1 ≤ c.w 12 ∧ c.w 12 ≤ 65535 → c.w 24 ≤ 7 →
      (s.sys.service = true → exec (.sensorInject d) s = .next (fail d Status.notPermitted s)) ∧
      (s.sys.service = false → exec (.sensorInject d) s = .next (done d [] (s.setPort (c.w 0) fun q => { q with
        inject := if c.w 4 = 0 then none else some { mode := c.w 4, typeMask := c.w 8, every := c.w 12, count := c.w 16, byte := c.w 20, bit := c.w 24 } })))) ∧
    (s.accepted d 0x0307 c = true → c.endsAt 28 = true → c.w 0 ≤ 3 → c.w 4 = 1 ∨ c.w 4 = 3 → c.w 8 ≤ 1 → c.w 12 ≤ 255 → c.w 24 ≤ 1 ∨ 1000 ≤ c.w 24 →
      (s.sys.service = true → exec (.sensorTest d) s = .next (fail d Status.notPermitted s)) ∧
      (s.sys.service = false → (at! s.ports (c.w 0)).test = none → (at! s.ports (c.w 0)).st ≠ .up → exec (.sensorTest d) s = .next (fail d Status.notPermitted s)) ∧
      (s.sys.service = false → (at! s.ports (c.w 0)).test = none → (at! s.ports (c.w 0)).st = .up → c.w 0 < s.ports.length → ∃ t, exec (.sensorTest d) s = .next t ∧
        (at! t.ports (c.w 0)).st = .test ∧ (t.drawer d).st ≠ .busy ∧ (at! t.ports (c.w 0)).bcPattern = (if c.w 4 = 3 then 1 + c.w 8 else 0) ∧
        (at! t.ports (c.w 0)).test = some { facility := c.w 4, pattern := c.w 8, lanes := c.w 12, symbols := c.q 16, errInterval := c.w 24, active := true })) ∧
    (s.accepted d 0x0307 c = true → c.endsAt 28 = true → c.w 0 ≤ 3 → c.w 4 = 0 ∨ c.w 4 = 2 → c.w 8 ≤ 1 → c.w 12 ≤ 255 → c.w 24 ≤ 1 ∨ 1000 ≤ c.w 24 →
      s.sys.service = false → (at! s.ports (c.w 0)).test = none → (at! s.ports (c.w 0)).st = .up → c.w 0 < s.ports.length →
      (at! s.ports ((s.leadOf (c.w 0)).getD (c.w 0))).bc.waiting = [] → ∃ t, exec (.sensorTest d) s = .next t ∧
      (at! t.ports (c.w 0)).st = .up ∧ (t.drawer d).st = .busy ∧ (t.drawer d).begun = true ∧ (at! t.ports (c.w 0)).test = some {
        facility := c.w 4, pattern := c.w 8, lanes := c.w 12, symbols := c.q 16, errInterval := c.w 24, active := false, drawer := some d }) ∧
    (s.accepted d 0x0307 c = true → c.endsAt 24 = true → c.w 0 ≤ 3 → c.w 4 = 0xF → s.sys.service = false → (at! s.ports (c.w 0)).test = none →
      s.covered (c.q 8) (c.q 16) true = true → 128 ≤ c.q 16 → exec (.sensorTest d) s = .next
        (done d [] { s with hostMem := s.hostMem.writeBytes (c.q 8) (at! s.ports (c.w 0)).testBytes })) ∧
    (s.accepted d 0x0309 c = true → c.endsAt (12 + 4 * c.w 8) = true → c.w 0 ≤ 3 → (s.portPlan? (c.w 0)).isSome = true → c.w 4 ≤ 65535 → 1 ≤ c.w 8 → c.w 8 ≤ 21 →
      s.ports.length = 4 → (at! s.ports (c.w 0)).bc.phase ≠ .entering → (at! s.ports (c.w 0)).bc.current = none → (at! s.ports (c.w 0)).bc.waiting = [] → ∃ t, exec (.sensorBcWrite d) s = .next t ∧
      (t.drawer d).st = .busy ∧ (t.drawer d).begun = true ∧ (at! t.ports (c.w 0)).bc.current = some (({
        kind := .cmdWrite (c.w 4) ((List.range (c.w 8)).map (fun i => c.w (12 + 4 * i))), owner := .drawer d, seq := (at! s.ports (c.w 0)).bc.seq, attempts := 1 } : BcCmd), s.time.count)) ∧
    (s.accepted d 0x030A c = true → c.endsAt 12 = true → c.w 0 ≤ 3 → (s.portPlan? (c.w 0)).isSome = true → c.w 4 ≤ 65535 → 1 ≤ c.w 8 → c.w 8 ≤ 21 →
      s.ports.length = 4 → (at! s.ports (c.w 0)).bc.phase ≠ .entering → (at! s.ports (c.w 0)).bc.current = none → (at! s.ports (c.w 0)).bc.waiting = [] → ∃ t, exec (.sensorBcRead d) s = .next t ∧
      (t.drawer d).st = .busy ∧ (t.drawer d).begun = true ∧ (at! t.ports (c.w 0)).bc.current = some (({
        kind := .cmdRead (c.w 4) (c.w 8), owner := .drawer d, seq := (at! s.ports (c.w 0)).bc.seq, attempts := 1 } : BcCmd), s.time.count)))

/-! ### The front end and calibration -/

/-- GROUP_DEAL gives the ready group with the nearest deadline to the free slice at a position, with the sensor rows that it reads (R108, R109); a
position whose slice is busy, or that has no unit to deal to, deals nothing. A deal past the deadline is counted and reported once for the frame
(R112). GROUP_LEAVE: a frame with no dealt group in front leaves as it is; a dealt one leaves in FIRST_ROW order with its pixels, enters the
statistics, and frees its slice (R111). The front end's arithmetic (R117 to R123) on one value: the black level is taken in units of 2⁻², halves
away; a single-gain sample is scaled by SG_SHIFT on its pedestal and clamped to 18 bits; the two gains merge at T0 and T1; a worked saturation stays
within 18 bits. Completes: groupDeal, groupLeave. -/
def Obligations.TheFrontEnd : Prop :=
  ((∀ (s : State) (pos : Nat), s.live = true → s.dealUnit 0 pos = none ∨ (∃ j, s.fePos.getD pos none = some j) ∨ pickGroup s = none →
    exec (.groupDeal pos) s = .next s) ∧
  (∀ (s : State) (pos i : Nat) (u : UnitRec) (e : Entry) (g : RowGroup), s.live = true → pos < s.fePos.length → s.dealUnit 0 pos = some u →
    s.fePos.getD pos none = none → pickGroup s = some (i, e, g) → s.entry? i = some e → g ∈ e.groups → ∃ t, exec (.groupDeal pos) s = .next t ∧
    t.fePos = s.fePos.set pos (some { entry := i, group := g.index, unit := u.number }) ∧
    (∃ x, t.entry? i = some x ∧ (∀ k ∈ x.groups, k.index = g.index → k.st = .dealt ∧ k.pos = pos ∧
        k.input = groupInput s (s.entryPort e).profile.members e.ticket.frame (g.firstRow - (s.entryPort e).profile.h)
          (min (g.firstRow + g.rows + (s.entryPort e).profile.h) e.rowCount)) ∧ x.ticket = e.ticket ∧
      x.stats.feLate = (if late48 (e.deadline (s.entryPort e).deadlines 0 g.index) s.reading then sat 16 (e.stats.feLate + 1) else e.stats.feLate)) ∧
    t = { s with table := t.table, fePos := t.fePos, ports := t.ports, ev := t.ev, hostMem := t.hostMem })) ∧
  ((∀ (s : State) (i : Nat), s.live = true → s.entry? i = none → exec (.groupLeave i) s = .next s) ∧
  (∀ (s : State) (i : Nat) (e : Entry) (g : RowGroup), s.live = true → s.entry? i = some e → e.groups.find? (fun k => k.st != .left) = some g → g.st ≠ .dealt →
    (∀ j, some j ∈ s.fePos → j.entry ≠ i) → exec (.groupLeave i) s = .next s) ∧
  (∀ (s : State) (i : Nat) (e : Entry) (g : RowGroup), s.live = true → s.entry? i = some e → e.groups.find? (fun k => k.st != .left) = some g → g.st = .dealt →
    (∀ x ∈ s.drawers, x.st ≠ .busy) → ∃ t, exec (.groupLeave i) s = .next t ∧ (∃ x, t.entry? i = some x ∧
      x.groups = e.groups.map (fun k => if k.index == g.index then { k with st := .left, input := [], out := (List.range g.rows).map fun n =>
        (g.firstRow + n, (List.range (s.entryPort e).profile.width).map fun c =>
          ((sliceIn s e g).pixel (badOf (s.entryPort e).profile g n) (g.firstRow + n) c).2) } else k)) ∧
    t.fePos = s.fePos.map (fun j => if j.any (fun j => j.entry == i && j.group == g.index) then none else j) ∧ t.drawers = s.drawers ∧ t.pending = s.pending)) ∧
  ((∀ (fe : FrontEndSec) (v : Int), singleGain fe v ≤ 262143) ∧
  (∀ (fe : FrontEndSec) (r : Nat) (o h l : Int), mergeGains fe r o h l ≤ 262143) ∧
  (∀ (a b c : Nat), focusTerm a b c ≤ 4095) ∧
  (∀ y : Nat, y < 2 ^ 18 → histBin y < 1024))

/-- CALIBRATION_UPDATE uses the posted block of a ticket-table entry once: what it forms stands in a copy that no ticket in flight uses, from which
later tickets take it, and the STALE bit of each estimate formed is clear (R139 to R145); with policy 4 held the estimates and STALE keep their
values (R146, R149). With no block of that entry waiting nothing changes. STALE_LIMIT: with the limit not passed, the policy held, or STALE_LIMIT 0,
nothing changes; past it EVT.CAL.STALE_LIMIT is raised once (R146). HOLDOVER_SAMPLE takes one sample per second in Locked: the bin of the die
temperature takes the first sample directly and moves by a sixteenth of the difference after it (R153, R411). PIPE.CAL_FRAME schedules a calibration
frame on a port that a plan drives and waits for its number (R148, R154), and is NOT_PERMITTED with policy 4 held; PIPE.GET_CAL answers Table 5-3
and writes Table 5-4 to a buffer (R155); PIPE.SET_CAL needs policy 4 held and loads at the next ticket issue (R156); PIPE.SET_STATS_RING registers a
ring of 2 to 64 blocks for the next ticket issue (R128). SENSOR.LOAD_DEFECTS loads a sorted table of legal entries into the bank that is not in use
and raises EVT.FE.DEFECT_LOADED (R115, R116); a table that a ticket still names is BUSY, and an empty one is legal. SENSOR.SET_SHADING loads a grid
likewise (R122). Completes: calibrationUpdate, staleLimit, holdoverSample, pipeCalFrame, pipeGetCal, pipeSetCal, pipeSetStatsRing,
sensorLoadDefects, sensorSetShading. -/
def Obligations.Calibration : Prop :=
  ((∀ (s : State) (e : Nat), s.live = true → (∀ x ∈ s.sensors, ∀ w ∈ x.calWaiting, w.ticket.entry ≠ e) → exec (.calibrationUpdate e) s = .next s) ∧
  (∀ (s : State) (e l : Nat) (w : CalIn), s.live = true → l < s.sensors.length → calBlock e s = some (l, w) → s.holds.getD 0 false = true →
    w.ticket.calframe = false → (at! s.sensors l).copy < 5 → (at! s.sensors l).copies.length = 5 → ∃ t, exec (.calibrationUpdate e) s = .next t ∧
    (at! t.sensors l).calWaiting = (at! s.sensors l).calWaiting.erase w ∧ (at! t.sensors l).copies = (at! s.sensors l).copies ∧
    (at! t.sensors l).copy = (at! s.sensors l).copy ∧ (at! t.sensors l).stale = (at! s.sensors l).stale ∧ t = { s with sensors := t.sensors }) ∧
  (∀ (s : State) (e l k m : Nat) (w : CalIn) (x : Estimates), s.live = true → l < s.sensors.length → calBlock e s = some (l, w) → s.holds.getD 0 false = false →
    (at! s.sensors l).copies.length = 5 → formEstimates (s.portPlan l) w ((at! s.sensors l).estimates (s.portPlan l) (at! s.sensors l).copy) = (x, m) → m ≠ 0 →
    freeCopy l (fun k => k == (at! s.sensors l).copy) s = some k → ∃ t, exec (.calibrationUpdate e) s = .next t ∧
    (at! t.sensors l).calWaiting = (at! s.sensors l).calWaiting.erase w ∧ (at! t.sensors l).copy = k ∧ at! (at! t.sensors l).copies k = x ∧
    (∀ j, j ≠ k → at! (at! t.sensors l).copies j = at! (at! s.sensors l).copies j) ∧
    (∀ j, j < 3 → bit (staleAll (s.portPlan l).profile) j = true → bit m j = true → bit (at! t.sensors l).stale j = false) ∧
    t = { s with sensors := t.sensors, ev := t.ev, hostMem := t.hostMem })) ∧
  ((∀ (s : State) (p j : Nat), s.live = true → s.holds.getD 0 false = true ∨ (s.portPlan p).cal.staleLimit = 0 ∨ s.staleTime p j ≤ (s.portPlan p).cal.staleLimit →
    exec (.staleLimit p j) s = .next s) ∧
  (∀ (s : State) (p j : Nat) (pp : PortPlan), s.live = true → p < s.sensors.length → s.portPlan? p = some pp → s.holds.getD 0 false = false → pp.cal.staleLimit ≠ 0 →
    bit (at! s.sensors p).staleSeen j = true → pp.cal.staleLimit < s.staleTime p j → (at! s.sensors p).limitRaised.getD j false = false → pp.cal.calFrames = false →
    exec (.staleLimit p j) s = .next (raise 82 p [] none (s.setSensor p fun y => { y with limitRaised := y.limitRaised.set j true }))) ∧
  (∀ s : State, s.live = true → s.time.st ≠ .locked ∨ s.holds.getD 0 false = true → exec .holdoverSample s = .next s) ∧
  (∀ (s : State) (x b : Int), s.live = true → s.time.st = .locked → s.holds.getD 0 false = false → s.holdSample = none → s.dieTemp = some x → b = (x + 80) / 16 →
    0 ≤ b → b ≤ 31 → s.holdTable.length = 32 → ∃ t, exec .holdoverSample s = .next t ∧ t.holdSample = some s.time.count ∧
    (∀ k, k ≠ b.toNat → t.holdTable.getD k {} = s.holdTable.getD k {}) ∧ (t.holdTable.getD b.toNat {}).n = sat 16 ((s.holdTable.getD b.toNat {}).n + 1) ∧
    ((s.holdTable.getD b.toNat {}).n = 0 → (t.holdTable.getD b.toNat {}).r = s.time.freq) ∧
    ((s.holdTable.getD b.toNat {}).n ≠ 0 → (t.holdTable.getD b.toNat {}).r = (s.holdTable.getD b.toNat {}).r + (s.time.freq - (s.holdTable.getD b.toNat {}).r) / 16) ∧
    t = { s with holdTable := t.holdTable, holdSample := t.holdSample, ev := t.ev, hostMem := t.hostMem })) ∧
  (∀ (s : State) (d : Nat) (c : DrawerCmd) (pp : PortPlan), c.w 0 ≤ 3 → s.leadOf (c.w 0) = some (c.w 0) → s.portPlan? (c.w 0) = some pp →
    (s.accepted d 0x0406 c = true → c.endsAt 8 = true → c.w 4 = 0 ∨ c.w 4 = 1 ∧ pp.profile.gains = 2 →
      (s.holds.getD 0 false = true → exec (.pipeCalFrame d) s = .next (fail d Status.notPermitted s)) ∧
      (s.holds.getD 0 false = false → pp.profile.timing ≠ .lineScan → s.store.clip = none →
        ((at! s.sensors (c.w 0)).cal.state ≠ 0 → exec (.pipeCalFrame d) s = .next (fail d Status.busy s)) ∧
        ((at! s.sensors (c.w 0)).cal.state = 0 → c.w 0 < s.sensors.length → ∃ t, exec (.pipeCalFrame d) s = .next t ∧ (at! t.sensors (c.w 0)).cal.state = 1 ∧
          (at! t.sensors (c.w 0)).cal.drawer = some d ∧ (at! t.sensors (c.w 0)).cal.ratio = (c.w 4 == 1) ∧
          (at! t.sensors (c.w 0)).cal.exposure = calExposure pp (at! s.sensors (c.w 0)) (c.w 4 == 1) ∧ (t.drawer d).begun = true ∧
          t = { s with sensors := t.sensors, drawers := t.drawers }))) ∧
    (s.accepted d 0x0407 c = true → c.endsAt 24 = true → c.q 8 = 0 → c.q 16 = 0 → exec (.pipeGetCal d) s = .next (done d (calStatus s (c.w 0)) s)) ∧
    (s.accepted d 0x0407 c = true → c.endsAt 24 = true → s.covered (c.q 8) (c.q 16) true = true → calTableLen pp.profile.width ≤ c.q 16 →
      exec (.pipeGetCal d) s = .next (done d (calStatus s (c.w 0)) { s with hostMem := s.hostMem.writeBytes (c.q 8) (calTables s (c.w 0)) })) ∧
    (s.accepted d 0x0408 c = true → c.endsAt 24 = true → c.w 4 ≤ 7 → calTableLen pp.profile.width ≤ c.q 16 →
      (s.holds.getD 0 false = false → exec (.pipeSetCal d) s = .next (fail d Status.notPermitted s)) ∧
      (s.holds.getD 0 false = true → s.covered (c.q 8) (c.q 16) false = true → c.w 0 < s.sensors.length → ∃ t, exec (.pipeSetCal d) s = .next t ∧
        ((at! t.sensors (c.w 0)).calLoad.map fun x => (x.1, x.2.1)) =
          some (loadedEstimates pp.profile (c.w 4) (s.hostRead (c.q 8) (calTableLen pp.profile.width)), c.w 4) ∧
        (at! t.sensors (c.w 0)).copies = (at! s.sensors (c.w 0)).copies ∧ (t.drawer d).st ≠ .busy ∧ t.holdTable = s.holdTable)) ∧
    (s.accepted d 0x0404 c = true → c.endsAt 28 = true → 4096 + 65536 * c.w 24 ≤ c.q 16 → isPow2 (c.w 24) = true → 2 ≤ c.w 24 → c.w 24 ≤ 64 →
      (s.covered (c.q 8) (c.q 16) true = false → exec (.pipeSetStatsRing d) s = .next (fail d Status.notPermitted s)) ∧
      (s.covered (c.q 8) (c.q 16) true = true → exec (.pipeSetStatsRing d) s = .next (done d [] (s.setSensor (c.w 0) fun x =>
        { x with nextRing := some { addr := c.q 8, len := c.q 16, entries := c.w 24, slot := 65536 } }))))) ∧
  (∀ (s : State) (d : Nat) (c : DrawerCmd), c.w 0 ≤ 3 →
    (s.accepted d 0x0304 c = true → c.endsAt 24 = true → c.q 16 % 8 = 0 → c.q 16 ≤ 1048576 → s.covered (c.q 8) (c.q 16) false = true → (
      let b := 1 - (at! s.ports (c.w 0)).defBank
      let es := (List.range (c.q 16 / 8)).map fun i => BitVec.ofNat 64 (fieldLe (s.hostRead (c.q 8) (c.q 16)) (8 * i) 8)
      (bankNamed (·.defBanks) s (c.w 0) b = true → exec (.sensorLoadDefects d) s = .next (fail d Status.busy s)) ∧
      (bankNamed (·.defBanks) s (c.w 0) b = false → defectsSorted es = true →
        (∀ e ∈ es, (match s.profileOf (c.w 0) with | some pp => defectBad pp (pp.memberIdx (c.w 0)) e | none => defectField e) = false) →
        exec (.sensorLoadDefects d) s = .next (raisePort 72 (c.w 0) (done d (le 4 es.length) (s.setPort (c.w 0) fun q =>
          { q with defects := q.defects.set b es, defNext := true })))))) ∧
    (s.accepted d 0x0305 c = true → c.endsAt 24 = true → 17160 ≤ c.q 16 → s.covered (c.q 8) (c.q 16) false = true →
      bankNamed (·.shadeBanks) s (c.w 0) (1 - (at! s.ports (c.w 0)).shadeBank) = false → exec (.sensorSetShading d) s =
      .next (raisePort 73 (c.w 0) (done d [] (s.setPort (c.w 0) fun q => { q with
        shading := q.shading.set (1 - (at! s.ports (c.w 0)).shadeBank) ((List.range 8580).map fun i => fieldLe (s.hostRead (c.q 8) 17160) (2 * i) 2)
        shadeNext := true })))))

/-! ### Memory -/

/-- The light code (R360, R361): a stored byte reads back clean, and with any one of its 12 stored bits inverted it reads back corrected. -/
def Obligations.AtticCodeCorrectsOneBit : Prop :=
  ∀ d : Nat, d < 256 → lightDecode (lightEncode d) = .clean d ∧ ∀ i : Nat, i < 12 → lightDecode (lightEncode d ^^^ 2 ^ i) = .fixed d

/-- ARBITER_GRANT: a read of an address that does not exist faults by name (R358, R376), a write there is suppressed and reported (R393); with no
eligible request, or on a closed resource, nothing is granted; the granted request is one of those present, and no eligible request is served before
it by R387. A granted Attic write in its region stores each byte with its own check bits and leaves every other byte of the Attic (R360); a whole
page written from its first byte is sealed, any other write unseals its page (R363). A read of clean bytes gives their data. A granted line waits at
its interface (R374). Completes: arbiterGrant. -/
def Obligations.ArbiterGrantsInOrderAndWritesTheAttic : Prop :=
  (∀ (s : State) (k : Nat) (l : List MemRequest), s.live = true → (∃ r ∈ l, r.write = none ∧ s.noSuch k r = true) →
    exec (.arbiterGrant k l) s = .fault .noSuchAddress) ∧
  (∀ (s : State) (k : Nat) (r : MemRequest), s.live = true → r.write.isSome = true → s.noSuch k r = true → r.owner = .none →
    exec (.arbiterGrant k [r]) s = .next (raise 223 0 [] none s)) ∧
  (∀ (s : State) (k : Nat) (l : List MemRequest), s.live = true → (l.any (s.noSuch k)) = false → s.mem.open? k = false ∨ (∀ r ∈ l, s.eligible k r = false) →
    exec (.arbiterGrant k l) s = .next s) ∧
  (∀ (s : State) (l : List MemRequest) (r : MemRequest), pickRequest s l = some r → r ∈ l ∧ ∀ w ∈ l, reqBefore s w r = false) ∧
  (∀ (s : State) (k : Nat) (l : List MemRequest) (r : MemRequest) (b : Bytes), s.live = true → (l.any (s.noSuch k)) = false → k < 64 → s.mem.open? k = true →
    s.mem.banks.length = 64 → pickRequest s (l.filter (s.eligible k)) = some r → r.write = some b → MemRequest.inBounds r s = true →
    Sparse.wfFrom (fun _ => 0) 0 s.mem.attic = true → Sparse.wfFrom (fun _ => default) 0 s.mem.sides = true → ∃ t, exec (.arbiterGrant k l) s = .next t ∧
      (∀ a, a < r.addr ∨ r.addr + r.length ≤ a → t.mem.word a = s.mem.word a) ∧
      (∀ i, i < r.length → t.mem.word (r.addr + i) = lightEncode (b.getD i 0).toNat) ∧
      (t.mem.side (r.addr / 4096)).sealed = (decide (r.addr % 4096 = 0) && decide (r.length = 4096)) ∧
      (∀ p, p ≠ r.addr / 4096 → t.mem.side p = s.mem.side p) ∧
      (r.cls < (at! s.mem.banks k).classes.length → (at! (at! t.mem.banks k).classes r.cls).grants = sat 32 ((at! (at! s.mem.banks k).classes r.cls).grants + 1)) ∧
      t.mem.cellar = s.mem.cellar ∧ t = { s with mem := t.mem, ev := t.ev, hostMem := t.hostMem }) ∧
  (∀ (s : State) (k : Nat) (l : List MemRequest) (r : MemRequest) (b : List Nat), s.live = true → (l.any (s.noSuch k)) = false → k < 64 → s.mem.open? k = true →
    pickRequest s (l.filter (s.eligible k)) = some r → r.write = none → s.mem.readWords r.addr r.length = b.map LightRead.clean →
    ∃ t, exec (.arbiterGrant k l) s = .next t ∧ t.mem.readData = b.map (BitVec.ofNat 8) ∧ t.mem.attic = s.mem.attic ∧ t.mem.sides = s.mem.sides ∧
      t = { s with mem := t.mem, ev := t.ev, hostMem := t.hostMem }) ∧
  (∀ (s : State) (k : Nat) (l : List MemRequest) (r : MemRequest), s.live = true → (l.any (s.noSuch k)) = false → 128 ≤ k → k < 140 → k - 128 < s.mem.ifcs.length →
    s.mem.open? k = true → pickRequest s (l.filter (s.eligible k)) = some r → r.write = none ∨ MemRequest.inBounds r s = true →
    ∃ t x, exec (.arbiterGrant k l) s = .next t ∧ (at! t.mem.ifcs (k - 128)).queue = (at! s.mem.ifcs (k - 128)).queue ++ [x] ∧ x.pa = r.addr ∧ x.cls = r.cls ∧
      x.write = r.write ∧ x.owner = r.owner ∧ x.deadline = s.dueOf r ∧ t.mem.attic = s.mem.attic ∧ t.mem.cellar = s.mem.cellar ∧
      t = { s with mem := t.mem, ev := t.ev, hostMem := t.hostMem })

/-- CELLAR_COMMAND_SLOT: an interface that is not trained, or is in self-refresh, does nothing; a bank that owes eight refreshes is refreshed first
(R379, R380); else the line that the scheduler chooses leaves the queue, and a written one holds its 108 bytes with their check bytes while every
other line keeps its contents (R374). REFRESH_DUE adds one owed refresh (R380). MR4_POLL takes a rate for the next interval, at most once in 4 ms.
Completes: cellarCommandSlot, refreshDue, mr4Poll. -/
def Obligations.CellarServesItsQueueAndRefreshes : Prop :=
  (∀ (s : State) (i : Nat), s.live = true → (at! s.mem.ifcs i).trained = false ∨ s.mem.selfRefresh = true → exec (.cellarCommandSlot i) s = .next s) ∧
  (∀ (s : State) (i b : Nat), s.live = true → i < 12 → i < s.mem.ifcs.length → (at! s.mem.ifcs i).trained = true → s.mem.selfRefresh = false → s.mem.raa = none →
    (at! s.mem.ifcs i).banks.length = 16 → b < 16 → 8 ≤ (at! (at! s.mem.ifcs i).banks b).owed → (∀ k, k < b → (at! (at! s.mem.ifcs i).banks k).owed < 8) →
    ∃ t, exec (.cellarCommandSlot i) s = .next t ∧ (at! (at! t.mem.ifcs i).banks b).owed = (at! (at! s.mem.ifcs i).banks b).owed - 1 ∧
      (at! (at! t.mem.ifcs i).banks b).openRow = none ∧ (at! t.mem.ifcs i).forced = sat 32 ((at! s.mem.ifcs i).forced + 1) ∧
      (at! t.mem.ifcs i).queue = (at! s.mem.ifcs i).queue ∧ (∀ k, k ≠ b → at! (at! t.mem.ifcs i).banks k = at! (at! s.mem.ifcs i).banks k) ∧
      (∀ k, k ≠ i → at! t.mem.ifcs k = at! s.mem.ifcs k) ∧ t = { s with mem := { s.mem with ifcs := t.mem.ifcs, refreshes := t.mem.refreshes } }) ∧
  (∀ (s : State) (i n : Nat) (l : CellarLine) (b : Bytes), s.live = true → i < 12 → i < s.mem.ifcs.length → (at! s.mem.ifcs i).trained = true → s.mem.selfRefresh = false →
    s.mem.raa = none → (∀ k, k < 16 → (at! (at! s.mem.ifcs i).banks k).owed < 8 ∧ (at! (at! s.mem.ifcs i).banks k).burst = false) →
    (at! s.mem.ifcs i).choose s.reading = some (l, n) → l.write = some b → Sparse.wfFrom s.lineDefault 0 s.mem.cellar = true →
    ∃ t, exec (.cellarCommandSlot i) s = .next t ∧ (at! t.mem.ifcs i).queue = (at! s.mem.ifcs i).queue.eraseIdx n ∧
      t.line l.pa = (rsEncode ((padTo 108 b).map BitVec.toNat)).map (BitVec.ofNat 8) ∧ (∀ p, p ≠ l.pa → t.line p = s.line p) ∧
      t.mem.attic = s.mem.attic ∧ t = { s with mem := t.mem, ev := t.ev, hostMem := t.hostMem }) ∧
  (∀ (s : State) (i n : Nat) (l : CellarLine) (b : List Nat), s.live = true → i < 12 → i < s.mem.ifcs.length → (at! s.mem.ifcs i).trained = true → s.mem.selfRefresh = false →
    s.mem.raa = none → (∀ k, k < 16 → (at! (at! s.mem.ifcs i).banks k).owed < 8 ∧ (at! (at! s.mem.ifcs i).banks k).burst = false) →
    (at! s.mem.ifcs i).choose s.reading = some (l, n) → l.write = none → rsDecode ((s.line l.pa).map BitVec.toNat) = some (b, []) →
    ∃ t, exec (.cellarCommandSlot i) s = .next t ∧ (at! t.mem.ifcs i).queue = (at! s.mem.ifcs i).queue.eraseIdx n ∧
      t.mem.readData = (b.take 108).map (BitVec.ofNat 8) ∧ t.mem.cellar = s.mem.cellar ∧ t = { s with mem := t.mem, ev := t.ev, hostMem := t.hostMem }) ∧
  (∀ (s : State) (i b : Nat), s.live = true → i < 12 → b < 16 → i < s.mem.ifcs.length → (at! s.mem.ifcs i).banks.length = 16 → (at! s.mem.ifcs i).trained = true →
    s.mem.selfRefresh = false → ∃ t, exec (.refreshDue i b) s = .next t ∧ (at! (at! t.mem.ifcs i).banks b).owed = (at! (at! s.mem.ifcs i).banks b).owed + 1 ∧
      (∀ k, k ≠ b → at! (at! t.mem.ifcs i).banks k = at! (at! s.mem.ifcs i).banks k) ∧ (at! t.mem.ifcs i).rate = (at! s.mem.ifcs i).rateNext ∧
      t = { s with mem := { s.mem with ifcs := t.mem.ifcs }, ev := t.ev, hostMem := t.hostMem }) ∧
  (∀ (s : State) (i r : Nat), s.live = true → i < 12 → i < s.mem.ifcs.length → (at! s.mem.ifcs i).trained = true → r < 32 →
    (s.now < (at! s.mem.ifcs i).lastPoll + ms 4 → exec (.mr4Poll i r) s = .next s) ∧
    ((at! s.mem.ifcs i).lastPoll + ms 4 ≤ s.now → ∃ t, exec (.mr4Poll i r) s = .next t ∧ (at! t.mem.ifcs i).rateNext = r ∧
      (at! t.mem.ifcs i).rate = (at! s.mem.ifcs i).rate ∧ (at! t.mem.ifcs i).lastPoll = s.now ∧
      t = { s with mem := { s.mem with ifcs := t.mem.ifcs }, ev := t.ev, hostMem := t.hostMem }))

/-- SCRUB_STEP seals an unsealed page that decodes clean, with check symbols of its own data, and moves the bank's pointer (R363, R365); a frozen bank,
one that has ended its lap, and one that stepped less than 20 µs ago stay. SCRUB_SLOW is raised once for a lap of more than 60 s (R366). The windows
of the memories: an activation window that ends clears every activation count (R381), a quota window that ends clears every class's grants of the
window (R389), a throttle ends when its time has come (R381); an acquisition that is not complete 5 ms after it began releases everything and waits,
and 100 µs later it starts again (R392). Drift tracking steps at most once in 16 ms, when an interface is trained (R385). Completes: scrubStep,
scrubSlow, actWindowEnd, quotaWindowEnd, throttleExpiry, acquisitionTimeout, acquisitionRetry, driftTracking. -/
def Obligations.ScrubbingAndMemoryWindows : Prop :=
  ((∀ (s : State) (k : Nat), s.live = true → (at! s.mem.banks k).frozen = true ∨ (at! s.mem.banks k).lapDone = true → exec (.scrubStep k) s = .next s) ∧
  (∀ (s : State) (k : Nat) (d : List Nat), s.live = true → k < 64 → s.mem.banks.length = 64 → (at! s.mem.banks k).frozen = false → (at! s.mem.banks k).lapDone = false →
    (∀ t, (at! s.mem.banks k).lastStep = some t → t + us 20 ≤ s.now) → (s.mem.side (2048 * k + (at! s.mem.banks k).ptr)).sealed = false →
    s.mem.readWords (4096 * (2048 * k + (at! s.mem.banks k).ptr)) 4096 = d.map LightRead.clean → Sparse.wfFrom (fun _ => default) 0 s.mem.sides = true →
    ∃ t, exec (.scrubStep k) s = .next t ∧ t.mem.attic = s.mem.attic ∧
      t.mem.side (2048 * k + (at! s.mem.banks k).ptr) = { checks := (pageChecks d).map lightEncode, sealed := true } ∧
      (∀ p, p ≠ 2048 * k + (at! s.mem.banks k).ptr → t.mem.side p = s.mem.side p) ∧ (at! t.mem.banks k).ptr = ((at! s.mem.banks k).ptr + 1) % 2048 ∧
      (∀ j, j ≠ k → (at! t.mem.banks j).ptr = (at! s.mem.banks j).ptr) ∧ t = { s with mem := t.mem }) ∧
  (∀ (s : State) (k : Nat), s.live = true → k < 64 → (at! s.mem.banks k).lapDone = false → s.mem.slowRaised = false → s.mem.lapStart + ms 60000 < s.now →
    exec (.scrubSlow k) s = .next (raise 212 0 [] none { s with mem := { s.mem with slowRaised := true } })) ∧
  (∀ (s : State) (k : Nat), s.live = true → s.mem.slowRaised = true ∨ s.now ≤ s.mem.lapStart + ms 60000 → exec (.scrubSlow k) s = .next s)) ∧
  ((∀ s : State, s.live = true → ∃ t, exec .actWindowEnd s = .next t ∧ t.mem.actWindow = s.reading / s.memSec.actWindow ∧
    (s.reading / s.memSec.actWindow ≠ s.mem.actWindow → ∀ x ∈ t.mem.ifcs, ∀ b ∈ x.banks, ∀ k, b.acts.getD k 0 = 0) ∧
    t = { s with mem := { s.mem with actWindow := t.mem.actWindow, ifcs := t.mem.ifcs } }) ∧
  (∀ s : State, s.live = true → ∃ t, exec .quotaWindowEnd s = .next t ∧ t.mem.quotaWindow = s.reading / s.memSec.qwindow ∧
    (s.reading / s.memSec.qwindow ≠ s.mem.quotaWindow → (∀ x ∈ t.mem.ifcs, ∀ c ∈ x.classes, c.inWindow = 0) ∧ (∀ b ∈ t.mem.banks, ∀ c ∈ b.classes, c.inWindow = 0)) ∧
    t = { s with mem := { s.mem with quotaWindow := t.mem.quotaWindow, ifcs := t.mem.ifcs, banks := t.mem.banks } }) ∧
  (∀ (s : State) (k u : Nat), s.live = true → s.mem.throttle.getD k none = some u →
    (s.now < u → exec (.throttleExpiry k) s = .next s) ∧
    (u ≤ s.now → exec (.throttleExpiry k) s = .next { s with mem := { s.mem with throttle := s.mem.throttle.set k none } })) ∧
  (∀ (s : State) (i : Nat) (a : Acquisition), s.live = true → s.mem.acqs.find? (·.id == i) = some a →
    (a.complete = false → a.waiting = false → a.since + ms 5 ≤ s.now → ∃ t, exec (.acquisitionTimeout i) s = .next t ∧
      t.mem.acqs.find? (·.id == i) = some { a with gotAttic := false, gotCellar := false, waiting := true, since := s.now } ∧
      t = { s with mem := { s.mem with acqs := t.mem.acqs, acqTimeouts := t.mem.acqTimeouts }, ev := t.ev, hostMem := t.hostMem }) ∧
    (a.complete = true ∨ a.waiting = true ∨ s.now < a.since + ms 5 → exec (.acquisitionTimeout i) s = .next s) ∧
    (a.waiting = true → a.since + us 100 ≤ s.now → ∃ t x, exec (.acquisitionRetry i) s = .next t ∧ t.mem.acqs.find? (·.id == i) = some x ∧ x.waiting = false ∧
      x.since = s.now ∧ t = { s with mem := { s.mem with acqs := t.mem.acqs } })) ∧
  (∀ s : State, s.live = true →
    (s.now < s.mem.lastDrift + ms 16 → exec .driftTracking s = .next s) ∧
    (s.mem.lastDrift + ms 16 ≤ s.now → s.mem.ifcs.any (·.trained) = true →
      exec .driftTracking s = .next { s with mem := { s.mem with driftSteps := s.mem.driftSteps + 1, lastDrift := s.now } })))

/-- The memory commands: MEM.GET_STATS writes Table 13-9 and clears the error counters (R395); MEM.GET_ECC_LOG writes 32 entries of 32 bytes and
MEM.CLEAR_ECC_LOG empties the log (R368); a soft repair takes a spare of its sub-array, or is NO_SPACE (R371); a permanent one outside Maintenance
mode with VDD_FUSE is NOT_PERMITTED; MEM.SET_MAPPING sets the masks for the next training (a permanent repair spends a field-repair entry), before
the first MEM.TRAIN and not with 12 interfaces (R377). Completes: memGetEccLog, memClearEccLog, memRepair, memSetMapping, memGetStats. -/
def Obligations.MemoryCommandsReadAndRepair : Prop :=
  ∀ (s : State) (d : Nat) (c : DrawerCmd),
    (s.accepted d 0x0E01 c = true → c.endsAt 16 = true → s.covered (c.q 0) (c.q 8) true = true → s.memStats.length ≤ c.q 8 → exec (.memGetStats d) s = .next
      (done d [] { s with
        hostMem := s.hostMem.writeBytes (c.q 0) s.memStats
        mem := { s.mem with
          banks := s.mem.banks.map fun b => { b with lightCe := 0, strongCe := 0, ue := 0 }
          ifcs := s.mem.ifcs.map fun x => { x with lineCe := 0, ue := 0 } } })) ∧
    (s.accepted d 0x0E02 c = true → c.endsAt 16 = true → s.covered (c.q 0) (c.q 8) true = true → 1024 ≤ c.q 8 → exec (.memGetEccLog d) s = .next
      (done d [] { s with hostMem := s.hostMem.writeBytes (c.q 0) (padTo 1024 ((s.mem.eccLog.foldl (fun l e => insertEcc e l) []).flatMap EccEntry.bytes)) })) ∧
    (s.accepted d 0x0E03 c = true → c.endsAt 0 = true → exec (.memClearEccLog d) s = .next (done d [] { s with mem := { s.mem with eccLog := [] } })) ∧
    (∀ v : Bool, s.accepted d 0x0E04 c = true → c.endsAt 8 = true → c.w 0 < 2 ^ 20 ∨ (2 ^ 31 ≤ c.w 0 ∧ c.w 0 < 2 ^ 31 + 2 ^ 19) →
      (c.w 4 = 0 → s.mem.softRoom (repairTarget (c.w 0)) = false → exec (.memRepair d v) s = .next (fail d Status.noSpace s)) ∧
      (c.w 4 = 0 → s.mem.softRoom (repairTarget (c.w 0)) = true → ∃ t, exec (.memRepair d v) s = .next t ∧ t.mem.repairs = s.mem.repairs ++ [repairTarget (c.w 0)] ∧
        t.mem.fieldEntries = s.mem.fieldEntries ∧ t.mem.cellar = s.mem.cellar ∧ (t.drawer d).st ≠ .busy) ∧
      (c.w 4 = 1 → s.sys.service = true ∨ v = false → exec (.memRepair d v) s = .next (fail d Status.notPermitted s)) ∧
      (c.w 4 = 1 → s.sys.service = false → v = true → 32 ≤ s.mem.fieldEntries → exec (.memRepair d v) s = .next (fail d Status.noSpace s)) ∧
      (∀ x, c.w 4 = 1 → s.sys.service = false → v = true → s.mem.fieldEntries < 32 → s.mem.repairs.find? (fun x => x.bank == (repairTarget (c.w 0)).bank &&
          x.sub == (repairTarget (c.w 0)).sub && x.column == (repairTarget (c.w 0)).column && x.line == (repairTarget (c.w 0)).line) = some x → x.fused = false →
        ∃ t, exec (.memRepair d v) s = .next t ∧ s.mem.fieldEntries < t.mem.fieldEntries ∧ t.mem.cellar = s.mem.cellar ∧ (t.drawer d).st ≠ .busy)) ∧
    (s.accepted d 0x0E05 c = true → c.endsAt 28 = true → (∀ i, i < 7 → c.w (4 * i) < 2 ^ ((if s.mem.gib = 0 then 2 ^ 27 else s.ifcLines).log2 - 9)) →
      (s.sys.service = true ∨ s.mem.trainedOnce = true ∨ s.sys.ifcCount = 12 → exec (.memSetMapping d) s = .next (fail d Status.notPermitted s)) ∧
      (s.sys.service = false → s.mem.trainedOnce = false → s.sys.ifcCount ≠ 12 → exec (.memSetMapping d) s = .next (done d []
        { s with mem := { s.mem with imaskNext := [c.w 0, c.w 4, c.w 8], bmaskNext := [c.w 12, c.w 16, c.w 20, c.w 24] } })))

/-- MEM.FREEZE takes effect at acceptance and completes when the named queues are empty; it is NOT_PERMITTED with a clip open; MEM.THAW ends it (R391).
MEM.TRAIN needs frozen interfaces and Maintenance mode (R383); a training that passes gives its interfaces trained settings with the order and masks
chosen for it, one that fails leaves them untrained (R377, R378, R383). MEM.PATTERN_TEST answers 32 error counters and the lines done for each
interface (R384). Completes: memFreeze, freezeComplete, memThaw, memTrain, trainingComplete, memPatternTest. -/
def Obligations.FreezeTrainAndTest : Prop :=
  (∀ (s : State) (d : Nat) (c : DrawerCmd), s.accepted d 0x0E08 c = true → c.endsAt 12 = true → bit (c.q 0) 0 = false → c.w 8 < 2 ^ 12 →
    (s.store.clip.isSome = true → exec (.memFreeze d) s = .next (fail d Status.notPermitted s)) ∧
    (s.store.clip = none → ∃ t, exec (.memFreeze d) s = .next t ∧ (t.drawer d).begun = true ∧
      (∀ k, k < s.mem.banks.length → (at! t.mem.banks k).frozen = (bit (c.q 0) k || (at! s.mem.banks k).frozen)) ∧
      (∀ k, k < s.mem.ifcs.length → (at! t.mem.ifcs k).frozen = (bit (c.w 8) k || (at! s.mem.ifcs k).frozen)) ∧
      t = { s with drawers := t.drawers, mem := { s.mem with banks := t.mem.banks, ifcs := t.mem.ifcs } })) ∧
  (∀ (s : State) (d : Nat) (c : DrawerCmd), s.live = true → (s.drawer d).st = .busy → (s.drawer d).begun = true → (s.drawer d).cmd = c → c.opcode = 0x0E08 →
    ∃ t, exec .freezeComplete s = .next t ∧ t.mem = s.mem ∧
      ((∀ i ∈ maskBits 12 (c.w 8), (at! s.mem.ifcs i).queue = []) → (t.drawer d).st ≠ .busy) ∧
      ((∃ i ∈ maskBits 12 (c.w 8), (at! s.mem.ifcs i).queue ≠ []) → t.drawer d = s.drawer d)) ∧
  (∀ (s : State) (d : Nat) (c : DrawerCmd), s.accepted d 0x0E09 c = true → c.endsAt 12 = true → c.w 8 < 2 ^ 12 → ∃ t, exec (.memThaw d) s = .next t ∧
    (∀ k, k < s.mem.banks.length → (at! t.mem.banks k).frozen = (!bit (c.q 0) k && (at! s.mem.banks k).frozen)) ∧
    (∀ k, k < s.mem.ifcs.length → (at! t.mem.ifcs k).frozen = (!bit (c.w 8) k && (at! s.mem.ifcs k).frozen)) ∧ (t.drawer d).st ≠ .busy) ∧
  (∀ (s : State) (d : Nat) (c : DrawerCmd), s.accepted d 0x0E06 c = true → c.endsAt 8 = true → c.w 0 ≠ 0 → c.w 0 < 2 ^ 12 → c.w 4 ≤ 3 →
    (s.sys.service = true → exec (.memTrain d) s = .next (fail d Status.notPermitted s)) ∧
    (s.sys.service = false → s.mem.training = none → (∀ i ∈ maskBits 12 (c.w 0), i < s.sys.ifcLimit ∧ i < s.sys.ifcCount ∧ (at! s.mem.ifcs i).frozen = true) →
      exec (.memTrain d) s = .next (({ s with mem := { s.mem with training := some { mask := c.w 0, order := c.w 4, drawer := some d }, trainedOnce := true } } : State).begin d))) ∧
  (∀ (s : State) (l : List TrainResult) (m o d g : Nat), s.live = true → s.mem.training = some { mask := m, order := o, drawer := some d } → l ≠ [] →
    l.map (·.ifc) = maskBits 12 m → (∀ r ∈ l, r.eyes.length = 32 ∧ r.gib = g ∧ r.ifc < s.sys.ifcLimit) →
    (∀ i, i < s.sys.ifcCount → i ∉ maskBits 12 m → (at! s.mem.ifcs i).trained = false) →
    ((∀ r ∈ l, trainFailure r g = none) → ∃ t, exec (.trainingComplete l) s = .next t ∧ t.mem.training = none ∧ t.mem.gib = g ∧
      t.mem.imask = s.mem.imaskNext ∧ t.mem.bmask = s.mem.bmaskNext ∧ t.mem.order = (if s.sys.ifcCount = 12 then o else s.mem.order) ∧
      (∀ i ∈ maskBits 12 m, i < s.mem.ifcs.length → (at! t.mem.ifcs i).trained = true ∧ (at! t.mem.ifcs i).queue = [])) ∧
    ((∃ r ∈ l, trainFailure r g ≠ none) → ∃ t, exec (.trainingComplete l) s = .next t ∧ t.mem.training = none ∧ t.mem.passed = false ∧ t.mem.gib = s.mem.gib ∧
      (∀ i ∈ maskBits 12 m, i < s.mem.ifcs.length → (at! t.mem.ifcs i).trained = false))) ∧
  (∀ (s : State) (d : Nat) (c : DrawerCmd), s.accepted d 0x0E07 c = true → c.endsAt 20 = true → c.w 0 ≠ 0 → c.w 0 < 2 ^ 12 → c.w 4 ≤ 5 → c.w 8 < s.ifcLines →
    c.w 12 ≠ 0 → c.w 8 + c.w 12 ≤ s.ifcLines → c.w 16 ≠ 0 → s.sys.service = false → s.mem.training = none →
    (∀ i ∈ maskBits 12 (c.w 0), i < s.sys.ifcCount ∧ (at! s.mem.ifcs i).frozen = true ∧ (at! s.mem.ifcs i).trained = true) →
    Sparse.wfFrom s.lineDefault 0 s.mem.cellar = true →
    ∃ t u n, exec (.memPatternTest d) s = .next t ∧ t = done d ((List.range (maskBits 12 (c.w 0)).length).flatMap fun k =>
      (List.range 32).flatMap (fun q => le 4 (Config.freeBits 32 (n + 32 * k + q))) ++ le 8 (sat 48 (c.w 12 * c.w 16))) u ∧
      (∀ p, (s.mapLine p).1 ∉ maskBits 12 (c.w 0) ∨ (s.mapLine p).2.1 < c.w 8 ∨ c.w 8 + c.w 12 ≤ (s.mapLine p).2.1 → u.line p = s.line p) ∧
      u = { s with mem := { s.mem with cellar := u.mem.cellar, fills := u.mem.fills }, sys := { s.sys with free := u.sys.free } })

/-! ### Audio -/

/-- The audio commands: AUDIO.SET_PORT sets a stopped source and is BUSY on a started one (R419 to R421); AUDIO.START, STOP, MUTE and SET_GAIN leave a
change waiting in each named channel, which replaces one that waits (R422), and START is NOT_PERMITTED from P2 on; AUDIO.SET_SLOTS stages both masks
and names the frames (R424); AUDIO.SET_RING registers the ring for the next block (R426); AUDIO.GET_STATUS answers its seven words (R427).
Completes: audioSetPort, audioStart, audioStop, audioMute, audioSetGain, audioSetRing, audioSetSlots, audioGetStatus. -/
def Obligations.AudioCommandsStageTheirChanges : Prop :=
  ∀ (s : State) (d : Nat) (c : DrawerCmd),
    (s.accepted d 0x0B01 c = true → c.endsAt 92 = true → c.w 4 ≤ 2 → c.w 12 ≤ 2 → c.w 20 ≤ 1 → c.w 24 ≤ 1 →
      (c.w 0 = 0 → 2400000 ≤ c.w 8 → c.w 8 ≤ 6144000 → c.w 8 % (48000 * 2 ^ c.w 4) = 0 → 32 ≤ c.w 8 / (48000 * 2 ^ c.w 4) → c.w 8 / (48000 * 2 ^ c.w 4) ≤ 128 →
        ((s.audioDir 0).started = true → exec (.audioSetPort d) s = .next (fail d Status.busy s)) ∧
        ((s.audioDir 0).started = false → exec (.audioSetPort d) s = .next (done d [] (s.setAudio 0 fun a => { a with rate := c.w 4, pdmClk := c.w 8 })))) ∧
      (c.w 0 = 1 → 1 ≤ c.w 16 → c.w 16 ≤ 16 / 2 ^ c.w 4 → (∀ i, i < 16 → c.w (28 + 4 * i) = 0 ∨ (0x100 ≤ c.w (28 + 4 * i) ∧ c.w (28 + 4 * i) < 0x110) ∨
          (0x200 ≤ c.w (28 + 4 * i) ∧ c.w (28 + 4 * i) < 0x210)) → s.audio.length = 3 →
        ((s.audioDir 1).started = true ∨ (s.audioDir 2).started = true → exec (.audioSetPort d) s = .next (fail d Status.busy s)) ∧
        ((s.audioDir 1).started = false → (s.audioDir 2).started = false → ∃ t, exec (.audioSetPort d) s = .next t ∧ t.audioDir 0 = s.audioDir 0 ∧
          (∀ k, k = 1 ∨ k = 2 → (t.audioDir k).rate = c.w 4 ∧ (t.audioDir k).clocking = c.w 12 ∧ (t.audioDir k).slots = c.w 16 ∧ (t.audioDir k).period = 0) ∧
          (∀ i, i < 16 → (t.audioDir 2).txSources.getD i 0 = c.w (28 + 4 * i)) ∧ (t.drawer d).st ≠ .busy))) ∧
    (s.accepted d 0x0B02 c = true → c.endsAt 8 = true → c.w 0 ≤ 2 → c.w 4 < 2 ^ 16 →
      (2 ≤ s.sys.pstate → exec (.audioStart d) s = .next (fail d Status.notPermitted s)) ∧
      (s.sys.pstate < 2 → ((s.audioDir (c.w 0)).started = true → exec (.audioStart d) s = .next (audioChange (c.w 0) (c.w 4) .start (done d [] s))) ∧
        ((s.audioDir (c.w 0)).started = false → exec (.audioStart d) s = .next (audioChange (c.w 0) (c.w 4) .start
          (done d [] (s.setAudio (c.w 0) fun a => { a with seq := 0, block := {} })))))) ∧
    (s.accepted d 0x0B03 c = true → c.endsAt 8 = true → c.w 0 ≤ 2 → c.w 4 < 2 ^ 16 →
      exec (.audioStop d) s = .next (audioChange (c.w 0) (c.w 4) .stop (done d [] s))) ∧
    (s.accepted d 0x0B04 c = true → c.endsAt 12 = true → c.w 0 ≤ 2 → c.w 4 < 2 ^ 16 → c.w 8 ≤ 1 →
      exec (.audioMute d) s = .next (audioChange (c.w 0) (c.w 4) (.mute (c.w 8 == 1)) (done d [] s))) ∧
    (s.accepted d 0x0B05 c = true → c.endsAt 12 = true → c.w 0 ≤ 2 → c.w 4 < 2 ^ 16 → -120 ≤ toInt 32 (c.w 8) → toInt 32 (c.w 8) ≤ 48 →
      exec (.audioSetGain d) s = .next (audioChange (c.w 0) (c.w 4) (.gain (toInt 32 (c.w 8))) (done d [] s))) ∧
    (∀ (k m i : Nat) (x : AudioChange), k < s.audio.length → i < (s.audioDir k).chans.length →
      at! ((audioChange k m x s).audioDir k).chans i = (if bit m i = true then { (at! (s.audioDir k).chans i) with waiting := some x, since := s.now }
        else at! (s.audioDir k).chans i) ∧ (∀ j, j ≠ k → (audioChange k m x s).audioDir j = s.audioDir j)) ∧
    (s.accepted d 0x0B06 c = true → c.endsAt 8 = true → c.w 0 < 2 ^ 16 → c.w 4 < 2 ^ 16 → exec (.audioSetSlots d) s = .next
      (done d (le 4 (s.audioDir 1).frameCount ++ le 4 (s.audioDir 2).frameCount)
        ((s.setAudio 1 fun a => { a with staged := some (c.w 0) }).setAudio 2 fun a => { a with staged := some (c.w 4) }))) ∧
    (s.accepted d 0x0B07 c = true → c.endsAt 28 = true → c.w 0 ≤ 1 → isPow2 (c.w 24) = true → 2 ≤ c.w 24 → c.w 24 ≤ 64 → 4096 + 16384 * c.w 24 ≤ c.q 16 →
      (s.covered (c.q 8) (c.q 16) true = false → exec (.audioSetRing d) s = .next (fail d Status.notPermitted s)) ∧
      (s.covered (c.q 8) (c.q 16) true = true → exec (.audioSetRing d) s = .next (done d [] (s.setAudio (c.w 0) fun a =>
        { a with nextRing := some { addr := c.q 8, len := c.q 16, entries := c.w 24, slot := 16384 } })))) ∧
    (s.accepted d 0x0B08 c = true → c.endsAt 4 = true → c.w 0 ≤ 2 → exec (.audioGetStatus d) s = .next
      (done d (le 4 (s.audioDir (c.w 0)).period ++ le 4 (b2n (s.audioDir (c.w 0)).stopped) ++ le 4 (s.audioDir (c.w 0)).stops ++ le 4 (s.audioDir (c.w 0)).glitches ++
        le 4 (s.audioDir (c.w 0)).rateChanges ++ le 4 (s.audioDir (c.w 0)).mask ++ le 4 ((s.audioDir (c.w 0)).staged.getD (s.audioDir (c.w 0)).mask)) s))

/-- AUDIO_FRAME: nothing moves from P2 on; a frame of the PDM inputs joins the block of the direction with the enabled channels' samples, muted ones as
0 (R422, R425); staged slot masks apply at a frame sync of their direction (R424); a transmit frame sends the last sample of each enabled slot's
source, and 0 in the other slots. AUDIO_CLOCK_STOP raises the stop of a followed clock once (R423). ZC_TIMEOUT applies the changes that have waited
10 ms (R422). Completes: audioFrame, audioClockStop, zcTimeout. -/
def Obligations.AudioFramesFillBlocks : Prop :=
  (∀ (s : State) (k : Nat) (l : List Int), s.live = true → 2 ≤ s.sys.pstate → exec (.audioFrame k l) s = .next s) ∧
  (∀ (s : State) (l : List Int), s.live = true → s.sys.pstate < 2 → s.audio.length = 3 → (s.audioDir 0).chans.length = 16 → (s.audioDir 0).staged = none →
    (∀ x ∈ (s.audioDir 0).chans, x.waiting = none) → (s.audioDir 0).enabled 0 ≠ [] → (s.audioDir 0).block.frames.length + 1 < (s.audioDir 0).fs / 1000 →
    ∃ t, exec (.audioFrame 0 l) s = .next t ∧ (t.audioDir 0).frameCount = wrap 32 ((s.audioDir 0).frameCount + 1) ∧
      (t.audioDir 0).block.frames = (s.audioDir 0).block.frames ++
        [((s.audioDir 0).enabled 0).map fun i => ({ (at! (s.audioDir 0).chans i) with prev := toInt 24 (ofInt 24 (l.getD i 0)) } : AudioChan).out] ∧
      (∀ i, i < 16 → at! (t.audioDir 0).chans i = { (at! (s.audioDir 0).chans i) with prev := toInt 24 (ofInt 24 (l.getD i 0)) }) ∧
      (∀ k, k ≠ 0 → t.audioDir k = s.audioDir k) ∧ t = { s with audio := t.audio }) ∧
  (∀ (s : State) (k m : Nat) (l : List Int), s.live = true → s.sys.pstate < 2 → s.audio.length = 3 → k = 1 ∨ k = 2 → (s.audioDir k).staged = some m →
    ∃ t, exec (.audioFrame k l) s = .next t ∧ (t.audioDir k).mask = m ∧ (t.audioDir k).staged = none ∧
      (t.audioDir k).frameCount = wrap 32 ((s.audioDir k).frameCount + 1) ∧ (∀ j, j ≠ k → t.audioDir j = s.audioDir j)) ∧
  (∀ (s : State) (l : List Int), s.live = true → s.sys.pstate < 2 → s.audio.length = 3 → (s.audioDir 2).chans.length = 16 → (s.audioDir 2).staged = none →
    (s.audioDir 2).clocking = 0 → (∀ x ∈ (s.audioDir 2).chans, x.waiting = none) → ∃ t, exec (.audioFrame 2 l) s = .next t ∧
      (∀ i j, i < 16 → j < 16 → (s.audioDir 2).txSources.getD i 0 = 0x100 + j → (t.audioDir 2).txOut.getD i 0 =
        (if (s.audioDir 2).txMute = true ∨ i ∉ (s.audioDir 2).enabled 2 then 0
         else ({ (at! (s.audioDir 2).chans i) with prev := (at! (s.audioDir 0).chans j).prev } : AudioChan).out)) ∧
      (∀ i, i < 16 → i ∉ (s.audioDir 2).enabled 2 → (t.audioDir 2).txOut.getD i 0 = 0) ∧ t = { s with audio := t.audio }) ∧
  (∀ (s : State) (k : Nat), s.live = true → s.follows k = false ∨ (s.audioDir k).stopped = true → exec (.audioClockStop k) s = .next s) ∧
  (∀ (s : State) (u : Nat), s.live = true → s.audio.length = 3 → s.follows 2 = true → (s.audioDir 2).stopped = false → (s.audioDir 2).period ≠ 0 →
    (s.audioDir 2).lastSync = some u → u + 4 * (s.audioDir 2).period ≤ s.reading → exec (.audioClockStop 2) s = .next (raise 244 2 [] none
      (s.setAudio 2 fun a => { a with stopped := true, txMute := true, stops := a.stops + 1, odd := [] }))) ∧
  (∀ (s : State) (k : Nat), s.live = true → (∀ i, i < 16 → (at! (s.audioDir k).chans i).waiting = none ∨ s.now < (at! (s.audioDir k).chans i).since + ms 10) →
    exec (.zcTimeout k) s = .next s) ∧
  (∀ (s : State) (k i : Nat) (w : AudioChange), s.live = true → k ≤ 2 → s.audio.length = 3 → (s.audioDir k).chans.length = 16 → i < 16 →
    (at! (s.audioDir k).chans i).waiting = some w → (at! (s.audioDir k).chans i).since + ms 10 ≤ s.now → ∃ t, exec (.zcTimeout k) s = .next t ∧
      at! (t.audioDir k).chans i = (at! (s.audioDir k).chans i).apply w ∧
      (∀ j, j < 16 → (at! (s.audioDir k).chans j).waiting = none → at! (t.audioDir k).chans j = at! (s.audioDir k).chans j) ∧
      (∀ j, j ≠ k → t.audioDir j = s.audioDir j))

/-! ### Raw coding, colour and renditions -/

/-- The floor form of every coded group is 32 + 4 × ceil(cells / 4) bytes long, where cells = (Wp / 4) × ceil(ROWS / 4): whatever the samples, their
poisoning and δ are (R173). Wp is the plane's width and ROWS the rows that the group holds of its plane. -/
def Obligations.FloorSizeIsFixedByGeometry : Prop :=
  ∀ (pp : PortPlan) (e : Entry) (g : RowGroup) (j delta : Nat),
    let rows := (groupRowsOf pp.profile g (j % planesOf pp.profile)).length
    let wp := pp.profile.width / pp.profile.h
    (stageGroup pp e g j delta).floor.length = 32 + 4 * (((wp / 4) * ((rows + 3) / 4) + 3) / 4)

/-- RAW_GROUP_START stages the frame's next group with the delta that its ladder step gives, once group j − 32 is committed and a coder is free (R159,
R176 to R178); a frame that is not a sensor's, or whose trailer is written, starts nothing. RAW_GROUP_COMMIT commits the first staged group of a
frame in the form that its budget allows (R176, R180): a form that is no floor fits what the groups before it have left and the reserve of those
after it, and after a floor only floors follow. When every group of a closed frame is committed the trailer ends the coded frame (R180, R183).
Completes: rawGroupStart, rawGroupCommit. -/
def Obligations.RawGroups : Prop :=
  ((∀ (s : State) (i : Nat), s.live = true → (∀ e, s.entry? i = some e → e.isSensor = false ∨ e.raw.trailer = true) → exec (.rawGroupStart i) s = .next s) ∧
  (∀ (s : State) (i j : Nat) (e : Entry) (g : RowGroup), s.live = true → s.entry? i = some e → e.isSensor = true → e.raw.trailer = false →
    j = nextEmitted (s.entryPort e).profile e.rowCount (rawGroups (s.entryPort e).profile) e.raw.nextStart → j < rawGroups (s.entryPort e).profile →
    e.groups.find? (fun g => g.index == j / planesOf (s.entryPort e).profile && g.st == .left) = some g → j < e.raw.nextCommit + 32 → rawTurn s e = true → rawFree s = true →
    ∃ t x, exec (.rawGroupStart i) s = .next t ∧ t.entry? i = some x ∧ x.raw.nextStart = j + 1 ∧ x.raw.bytes = e.raw.bytes ∧ x.ticket = e.ticket ∧
      x.raw.staged = e.raw.staged ++ [stageGroup (s.entryPort e) e g j (rawDeltaAt (s.entryPort e).raw e.page.rawDelta
        (ladderStep (s.entryPort e).profile (s.entryPort e).raw e.raw j (rawIndex s e)))] ∧
      (∀ k, k ≠ i → t.entry? k = s.entry? k) ∧ t = { s with table := t.table, sensors := t.sensors })) ∧
  ((∀ (pp : PortPlan) (f : RawFrame) (g : StagedGroup), (chooseForm pp f g).2.2 = false →
    f.floorFrom = none ∧ ((chooseForm pp f g).1.length : Int) ≤ (rawBudget pp.profile pp.raw : Int) - f.spent - reserveAfter pp.profile g.j) ∧
  (∀ (s : State) (i : Nat), s.live = true → (∀ e, s.entry? i = some e → e.isSensor = false ∨ e.raw.trailer = true) → exec (.rawGroupCommit i) s = .next s) ∧
  (∀ (s : State) (i : Nat) (e : Entry) (g : StagedGroup) (r : List StagedGroup), s.live = true → s.entry? i = some e → e.isSensor = true → e.raw.trailer = false →
    e.raw.staged = g :: r → e.closed = false → ∃ t x, exec (.rawGroupCommit i) s = .next t ∧ t.entry? i = some x ∧
      x.raw.bytes = e.raw.bytes ++ (chooseForm (s.entryPort e) e.raw g).1 ∧ x.raw.nextCommit = g.j + 1 ∧ x.raw.staged = e.raw.staged.filter (·.j != g.j) ∧
      x.raw.spent = e.raw.spent + (chooseForm (s.entryPort e) e.raw g).1.length ∧ ((chooseForm (s.entryPort e) e.raw g).2.2 = true → x.raw.floorFrom.isSome = true) ∧
      (∀ k, k ≠ i → t.entry? k = s.entry? k) ∧ t = { s with table := t.table, ev := t.ev, hostMem := t.hostMem }) ∧
  (∀ (s : State) (i : Nat) (e : Entry), s.live = true → s.entry? i = some e → e.isSensor = true → e.raw.trailer = false → e.raw.staged = [] →
    rawComplete (s.entryPort e).profile e = true → rawTurn s e = true → s.memSec.larderPages = 0 → s.store.clip = none → e.ended.length = 6 → ∃ t x h, exec (.rawGroupCommit i) s = .next t ∧
      t.entry? i = some x ∧ x.raw.trailer = true ∧ x.raw.bytes = h ++ e.raw.bytes ++ rawTrailer e.ticket e.raw (rawIndex s e) ∧
      x.ended.getD 1 false = true ∧ x.ended.getD 5 false = true ∧ (∀ k, k ≠ i → t.entry? k = s.entry? k) ∧
      t = { s with table := t.table, sensors := t.sensors, ev := t.ev, hostMem := t.hostMem }))

/-- COLOUR_GROUP_DEAL deals the ready colour group with the nearest deadline to a free slice; COLOUR_GROUP_LEAVE gives its image rows, frees the slice
and, after the last group of a closed frame, ends the colour path for the frame (R188 to R193). RENDITION_FRAME_COMPLETE serves a destination of a
frame once: the slot leaves the frame's pending destinations (R199, R208, R213); a slot that is not pending, or a frame whose picture is not
complete, changes nothing. PIPE.SET_HOST_RING registers a ring for the frames of a bound slot or for coded data (R443 to R445). Completes:
colourGroupDeal, colourGroupLeave, renditionFrameComplete, pipeSetHostRing. -/
def Obligations.ColourAndRenditionFrames : Prop :=
  ((∀ (s : State) (pos : Nat), s.live = true → s.dealUnit 1 pos = none ∨ s.csPos.getD pos (some default) ≠ none ∨ pickColour s = none →
    exec (.colourGroupDeal pos) s = .next s) ∧
  (∀ (s : State) (pos i : Nat) (u : UnitRec) (e : Entry) (g : RowGroup), s.live = true → s.dealUnit 1 pos = some u → s.csPos.getD pos (some default) = none →
    pickColour s = some (i, e, g) → s.entry? i = some e → ∃ t x k, exec (.colourGroupDeal pos) s = .next t ∧
      t.csPos = s.csPos.set pos (some { entry := i, group := g.index, unit := u.number }) ∧ t.entry? i = some x ∧ x.colour.groups = e.colour.groups ++ [k] ∧
      k.index = g.index ∧ k.firstRow = g.firstRow ∧ k.rows = g.rows ∧ k.st = .dealt ∧ k.pos = pos ∧ x.ticket = e.ticket ∧
      t = { s with table := t.table, csPos := t.csPos }) ∧
  (∀ (s : State) (i : Nat), s.live = true → (∀ e, s.entry? i = some e → ∀ g ∈ e.colour.groups, g.st = .dealt → e.colourInput g = false) → exec (.colourGroupLeave i) s = .next s) ∧
  (∀ (s : State) (i : Nat) (e : Entry) (g : RowGroup) (f : ColourIn), s.live = true → s.entry? i = some e → e.colour.groups.find? (fun g => g.st == .dealt && e.colourInput g) = some g →
    (∀ x ∈ s.drawers, x.st ≠ .busy) → e.ended.length = 6 →
    f = { pp := s.entryPort e, rows := (e.groups.filter (·.st == .left)).flatMap (·.out), bottom := e.rowCount, wb := e.page.wb } →
    ∃ t x, exec (.colourGroupLeave i) s = .next t ∧ t.entry? i = some x ∧
      x.colour.rows = e.colour.rows ++ (List.range (g.firstRow + g.rows - max g.firstRow f.pp.profile.obRows)).map (fun n =>
        (max g.firstRow f.pp.profile.obRows + n - f.pp.profile.obRows, (List.range f.pp.profile.width).map fun c =>
          f.px (max g.firstRow f.pp.profile.obRows + n) c
            (g.bad.contains ((max g.firstRow f.pp.profile.obRows + n - g.firstRow) * f.pp.profile.width + c)))) ∧
      (x.colour.finished = true → x.ended.getD 2 false = true) ∧
      t.csPos = s.csPos.map (fun j => if j.any (fun j => j.entry == i && j.group == g.index) then none else j) ∧
      (∀ k, k ≠ i → t.entry? k = s.entry? k) ∧ t = { s with table := t.table, csPos := t.csPos, ev := t.ev, hostMem := t.hostMem, drawers := t.drawers })) ∧
  ((∀ (s : State) (k e : Nat), s.live = true → (∀ x, s.entry? e = some x → k ∉ x.pendingDest ∨ (x.picture = none ∧ x.colour.finished = false)) →
    exec (.renditionFrameComplete k e) s = .next s) ∧
  (∀ (s : State) (k e : Nat) (x : Entry), s.live = true → s.entry? e = some x → k ∈ x.pendingDest → x.picture.isSome = true ∨ x.colour.finished = true →
    ∃ t y, exec (.renditionFrameComplete k e) s = .next t ∧ t.entry? e = some y ∧ y.pendingDest = x.pendingDest.filter (· != k) ∧ y.ticket = x.ticket ∧
      (y.pendingDest = [] → x.ended.length = 6 → y.ended.getD 3 false = true) ∧ t.sensors = s.sensors ∧ t.ports = s.ports ∧ t.drawers = s.drawers ∧ t.mem = s.mem) ∧
  (∀ (s : State) (d : Nat) (c : DrawerCmd) (g : GraphSlot), s.accepted d 0x0409 c = true → c.endsAt 28 = true → c.w 0 ≤ 15 → c.w 4 = 0 →
    s.boundSlot 3 (· == c.w 0) = some g → isPow2 (c.w 24) = true → 2 ≤ c.w 24 → c.w 24 ≤ 64 → 4096 + c.w 24 * ringSlot g ≤ c.q 16 →
    (s.covered (c.q 8) (c.q 16) true = false → exec (.pipeSetHostRing d) s = .next (fail d Status.notPermitted s)) ∧
    (s.covered (c.q 8) (c.q 16) true = true → exec (.pipeSetHostRing d) s = .next (done d [] { s with hostRings := upd s.hostRings (c.w 0) fun x =>
      { x with nextRing := some { kind := 0, addr := c.q 8, len := c.q 16, entries := c.w 24, slot := ringSlot g } } }))) ∧
  (∀ (s : State) (d : Nat) (c : DrawerCmd), s.accepted d 0x0409 c = true → c.endsAt 28 = true → c.w 0 ≤ 15 → c.w 4 = 1 →
    (∃ p ∈ s.activePlans, ∃ h ∈ p.hevc, h.enable = true ∧ h.decode = false ∧ h.outKind = 3 ∧ h.outId = c.w 0) → isPow2 (c.w 24) = true → 65536 ≤ c.w 24 →
    c.w 24 ≤ 2 ^ 30 → 4096 + c.w 24 ≤ c.q 16 → s.covered (c.q 8) (c.q 16) true = true → ∃ t r, exec (.pipeSetHostRing d) s = .next t ∧
      t = done d [] { s with hostRings := upd s.hostRings (c.w 0) fun x => { x with nextRing := some r } } ∧ r.kind = 1 ∧ r.addr = c.q 8 ∧ r.len = c.q 16 ∧
      r.entries = c.w 24))

/-- RENDITION.SET_LUT and SET_CURVES load the bank that is not active: NOT_PERMITTED outside the registered buffers, BUSY while a switch waits or a
ticket still selects the bank, INVALID_FIELD for data out of range, which leaves the bank not loaded (R210). RENDITION.SWITCH_BANK switches at the
source's next frame and needs what it does not keep to be loaded (R211). Completes: renditionSetLut, renditionSetCurves, renditionSwitchBank. -/
def Obligations.RenditionBanksLoadAndSwitch : Prop :=
  ∀ (s : State) (d : Nat) (c : DrawerCmd), c.w 0 ≤ 15 →
    (s.accepted d 0x0501 c = true → c.endsAt 24 = true → 2471625 ≤ c.q 16 →
      (s.covered (c.q 8) (c.q 16) false = false → exec (.renditionSetLut d) s = .next (fail d Status.notPermitted s)) ∧
      (s.covered (c.q 8) (c.q 16) false = true → (at! s.rend (c.w 0)).switchAt.isSome = true ∨ bankSelected s (c.w 0) (1 - (at! s.rend (c.w 0)).bank) = true →
        exec (.renditionSetLut d) s = .next (fail d Status.busy s)) ∧
      (s.covered (c.q 8) (c.q 16) false = true → (at! s.rend (c.w 0)).switchAt = none → bankSelected s (c.w 0) (1 - (at! s.rend (c.w 0)).bank) = false →
        ((∀ w ∈ lutWords (s.hostRead (c.q 8) 2471625), w < 2 ^ 54) → exec (.renditionSetLut d) s = .next (raise 104 (c.w 0) [] none (done d []
          (s.setRend (c.w 0) fun r => { r with banks := upd r.banks (1 - (at! s.rend (c.w 0)).bank) fun k =>
            { k with lut := some (lutWords (s.hostRead (c.q 8) 2471625)), lutLoaded := true } })))) ∧
        ((∃ w ∈ lutWords (s.hostRead (c.q 8) 2471625), 2 ^ 54 ≤ w) → exec (.renditionSetLut d) s = .next (postResult d Status.invalidField noDetail []
          (s.setRend (c.w 0) fun r => { r with banks := upd r.banks (1 - (at! s.rend (c.w 0)).bank) fun k => { k with lutLoaded := false } }))))) ∧
    (s.accepted d 0x0502 c = true → c.endsAt 24 = true → 49152 ≤ c.q 16 → s.covered (c.q 8) (c.q 16) false = true →
      ((at! s.rend (c.w 0)).switchAt.isSome = true ∨ bankSelected s (c.w 0) (1 - (at! s.rend (c.w 0)).bank) = true →
        exec (.renditionSetCurves d) s = .next (fail d Status.busy s)) ∧
      ((at! s.rend (c.w 0)).switchAt = none → bankSelected s (c.w 0) (1 - (at! s.rend (c.w 0)).bank) = false →
        (∀ w ∈ curveWords (s.hostRead (c.q 8) 49152), w < 2 ^ 18) → exec (.renditionSetCurves d) s = .next (raise 105 (c.w 0) [] none (done d []
          (s.setRend (c.w 0) fun r => { r with banks := upd r.banks (1 - (at! s.rend (c.w 0)).bank) fun k =>
            { k with curves := some (curveWords (s.hostRead (c.q 8) 49152)), curvesLoaded := true } }))))) ∧
    (∀ r x y, s.accepted d 0x0503 c = true → c.endsAt 12 = true → c.w 4 ≤ 1 → c.w 8 ≤ 1 → c.w 0 < s.rend.length → r = at! s.rend (c.w 0) → r.banks.length = 2 →
      x = at! r.banks (1 - r.bank) → y = at! r.banks r.bank →
      (r.switchAt.isSome = true → exec (.renditionSwitchBank d) s = .next (fail d Status.busy s)) ∧
      (r.switchAt = none → (c.w 4 = 0 ∧ x.lutLoaded = false) ∨ (c.w 8 = 0 ∧ x.curvesLoaded = false) → exec (.renditionSwitchBank d) s = .next (fail d Status.notPermitted s)) ∧
      (r.switchAt = none → (c.w 4 = 1 ∨ x.lutLoaded = true) → (c.w 8 = 1 ∨ x.curvesLoaded = true) →
        (∃ t u, exec (.renditionSwitchBank d) s = .next t ∧
          t = done d (le 4 (s.nextSourceFrame (c.w 0))) u ∧ (at! u.rend (c.w 0)).switchAt = some (s.nextSourceFrame (c.w 0)) ∧
          (at! (at! u.rend (c.w 0)).banks (1 - r.bank)).lut = (if c.w 4 = 1 then y.lut else x.lut) ∧
          (at! (at! u.rend (c.w 0)).banks (1 - r.bank)).curves = (if c.w 8 = 1 then y.curves else x.curves) ∧
          (at! u.rend (c.w 0)).bank = r.bank ∧ (∀ k, k ≠ c.w 0 → at! u.rend k = at! s.rend k) ∧
          (c.w 4 = 1 ∨ c.w 8 = 1 → ∀ i e, s.entry? i = some e → e.page.bank.getD (c.w 0) 0 = 1 - r.bank → r.kept.any (·.1 == i) = false →
            (i, x) ∈ (at! u.rend (c.w 0)).kept) ∧ u = { s with rend := u.rend })))

/-! ### Outputs -/

/-- A commit takes a buffer that is neither scanned nor pending, and a latch makes the pending buffer the scanned one, so that the scanned and the
pending buffer of an output are never the same (R257, R258). -/
def Obligations.ScannedAndPendingBuffersDiffer : Prop :=
  (∀ (b : FrameBufs) (k : Nat) (f : BufFrame), b.free? = some k → (b.scanned ≠ some k ∧ b.pend ≠ some k ∧ k < 3) ∧
    (b.commit k f).1.pend = some k ∧ (b.commit k f).1.scanned = b.scanned ∧ ((b.commit k f).2 = true ↔ b.pend ≠ none)) ∧
  (∀ b : FrameBufs, ∃ k, b.free? = some k) ∧
  (∀ b : FrameBufs, b.latch.1.pend = none ∧ (b.latch.1.scanned = if b.pend.isSome then b.pend else b.scanned) ∧ (b.latch.2 = true ↔ b.pend = none ∧ b.scanned ≠ none))

/-- LATCH of an SDI output: a stopped one does nothing; one that stops is Stopped with EVT and nothing shown, or starts again with a waiting entry
(R264, R275); else it shows the pending buffer, or repeats the one it shows, and its frame number goes on (R258, R260). SDI_UNDERRUN blacks the rest
of the frame once (R268). The OUTPUT commands: START starts a stopped output with the entry of the active plan, and is NOT_PERMITTED when no plan
drives it (R275); STOP stops at the next latch; SET_TIMECODE waits for the next latch (R267); GET_STATUS answers Table 15-11. Completes: latch,
sdiUnderrun, outputStart, outputStop, outputSetTimecode, outputGetStatus. -/
def Obligations.SdiOutputs : Prop :=
  ((∀ (s : State) (n : Nat), s.live = true → (at! s.sdi n).st = .stopped → exec (.latch (.sdi n)) s = .next s) ∧
  (∀ (s : State) (n : Nat), s.live = true → n < s.sdi.length → (at! s.sdi n).st ≠ .stopped → (at! s.sdi n).stopping = true → (at! s.sdi n).restart = none →
    exec (.latch (.sdi n)) s = .next (raise 153 n [n, (at! s.sdi n).oframe] none (s.setSdi n fun o =>
      { o with st := .stopped, stopping := false, shown := none, timecode := none, black := false, step := 0, spoiled := [] }))) ∧
  (∀ (s : State) (n : Nat) (e : SdiEntry), s.live = true → n < s.sdi.length → (at! s.sdi n).st ≠ .stopped → (at! s.sdi n).stopping = true →
    (at! s.sdi n).restart = some e → ∃ t, exec (.latch (.sdi n)) s = .next t ∧ (at! t.sdi n).st = (if e.mode = 0 then .stopped else .starting) ∧
      (at! t.sdi n).entry = e ∧ (at! t.sdi n).shown = none ∧ (at! t.sdi n).stopping = false ∧ (at! t.sdi n).restart = none ∧
      (∀ k, k ≠ n → at! t.sdi k = at! s.sdi k) ∧ t = { s with sdi := t.sdi, ev := t.ev, hostMem := t.hostMem }) ∧
  (∀ (s : State) (n : Nat), s.live = true → n < s.sdi.length → (at! s.sdi n).st ≠ .stopped → (at! s.sdi n).stopping = false → ∃ t, exec (.latch (.sdi n)) s = .next t ∧
    (at! t.sdi n).st = .running ∧ (at! t.sdi n).oframe = (if (at! s.sdi n).st = .running then wrap 32 ((at! s.sdi n).oframe + 1) else 0) ∧
    (at! t.sdi n).bufs = (at! s.sdi n).bufs.latch.1 ∧ (at! t.sdi n).shown = (at! s.sdi n).bufs.latch.1.view ∧ (at! t.sdi n).isRepeat = (at! s.sdi n).bufs.latch.2 ∧
    (at! t.sdi n).black = false ∧ (at! t.sdi n).step = 0 ∧ (at! t.sdi n).tcOffset = (at! s.sdi n).tcNext.getD (at! s.sdi n).tcOffset ∧
    (at! t.sdi n).counts.repeats = wrap 32 ((at! s.sdi n).counts.repeats + b2n (at! s.sdi n).bufs.latch.2) ∧
    (∀ k, k ≠ n → at! t.sdi k = at! s.sdi k) ∧ t = { s with sdi := t.sdi, ev := t.ev, hostMem := t.hostMem }) ∧
  (∀ (s : State) (n : Nat), s.live = true → (at! s.sdi n).st ≠ .running ∨ (at! s.sdi n).black = true → exec (.sdiUnderrun n) s = .next s) ∧
  (∀ (s : State) (n : Nat), s.live = true → n < s.sdi.length → (at! s.sdi n).st = .running → (at! s.sdi n).black = false → ∃ t, exec (.sdiUnderrun n) s = .next t ∧
    (at! t.sdi n).black = true ∧ (at! t.sdi n).counts.underruns = wrap 32 ((at! s.sdi n).counts.underruns + 1) ∧ (∀ k, k ≠ n → at! t.sdi k = at! s.sdi k) ∧
    t = { s with sdi := t.sdi, ev := t.ev, hostMem := t.hostMem, sys := { s.sys with free := t.sys.free } })) ∧
  (∀ (s : State) (d : Nat) (c : DrawerCmd), c.w 0 ≤ 3 →
    (s.accepted d 0x0701 c = true → c.endsAt 4 = true →
      ((∀ p ∈ s.activePlans, (p.sdi.getD (c.w 0) default).mode = 0) → exec (.outputStart d) s = .next (fail d Status.notPermitted s)) ∧
      (∀ p, s.activePlans.find? (fun p => (p.sdi.getD (c.w 0) default).mode != 0) = some p →
        ((at! s.sdi (c.w 0)).st = .stopped → exec (.outputStart d) s = .next (done d [] (s.setSdi (c.w 0) fun o => { o with
          st := .starting, entry := p.sdi.getD (c.w 0) default, tcOffset := o.tcNext.getD (p.sdi.getD (c.w 0) default).tcOffset, tcNext := none, bufs := o.bufs.restart
          stopping := false, restart := none }))) ∧
        ((at! s.sdi (c.w 0)).st ≠ .stopped → (at! s.sdi (c.w 0)).stopping = true →
          exec (.outputStart d) s = .next (done d [] (s.setSdi (c.w 0) fun o => { o with restart := some (p.sdi.getD (c.w 0) default) }))) ∧
        ((at! s.sdi (c.w 0)).st ≠ .stopped → (at! s.sdi (c.w 0)).stopping = false → exec (.outputStart d) s = .next (done d [] s)))) ∧
    (s.accepted d 0x0702 c = true → c.endsAt 4 = true → exec (.outputStop d) s = .next (done d [] (s.setSdi (c.w 0) fun o =>
      if o.st = .stopped then o else { o with stopping := true, restart := none }))) ∧
    (s.accepted d 0x0703 c = true → c.endsAt 8 = true → exec (.outputSetTimecode d) s = .next (done d [] (s.setSdi (c.w 0) fun o =>
      { o with tcNext := some (toInt 32 (c.w 4)) }))) ∧
    (s.accepted d 0x0704 c = true → c.endsAt 4 = true → exec (.outputGetStatus d) s = .next (done d (le 4 (b2n ((at! s.sdi (c.w 0)).st == .running)) ++
      le 4 (at! s.sdi (c.w 0)).oframe ++ le 4 (b2n (!s.time.synced)) ++ le 4 (at! s.sdi (c.w 0)).counts.repeats ++ le 4 (at! s.sdi (c.w 0)).counts.drops ++
      le 4 (at! s.sdi (c.w 0)).counts.underruns) s)))

/-- LATCH of the display pair: nothing while it is stopped or in its first 100 ms of training (R271); a pair that stops shows nothing (R264); else both
heads latch at once, each shows its pending buffer or repeats (R258), and the frame number goes on (R260). DISP_UNDERRUN puts a running head at the
border colour once (R273). LINE_MATCH and FRAME_DONE raise their events while the pair runs, unless masked (R274). Hot plug of a display head
(R271): HPD_DEASSERT darkens it and forgets its capabilities, HPD_ASSERT reads them and retrains a running head, HPD_IRQ retrains a head whose link
is lost; DISPLAY_TRAINING_END tells which heads are up. Completes: latch, dispUnderrun, lineMatch, frameDone, hpdDeassert, hpdAssert, hpdIrq,
displayTrainingEnd. -/
def Obligations.DisplayLatchesAndHeads : Prop :=
  ((∀ s : State, s.live = true → s.disp.st = .stopped ∨ (s.disp.stopping = false ∧ s.disp.st = .starting ∧ s.disp.training = true ∧ s.now < s.disp.trainStart + ms 100) →
    exec (.latch .display) s = .next s) ∧
  (∀ s : State, s.live = true → s.disp.st ≠ .stopped → s.disp.stopping = true → s.disp.restart = none → ∃ t, exec (.latch .display) s = .next t ∧
    t.disp.st = .stopped ∧ t.disp.stopping = false ∧ (∀ h ∈ t.disp.heads, h.shown = none ∧ h.up = false) ∧ t = { s with disp := t.disp }) ∧
  (∀ s : State, s.live = true → s.disp.st ≠ .stopped → s.disp.stopping = false → s.disp.training = false ∨ s.disp.trainStart + ms 100 ≤ s.now →
    ∃ t, exec (.latch .display) s = .next t ∧ t.disp.st = .running ∧ t.disp.dframe = (if s.disp.st = .running then wrap 32 (s.disp.dframe + 1) else 0) ∧
    (∀ h, h < s.disp.heads.length → (t.head h).bufs = (s.head h).bufs.latch.1 ∧ (t.head h).shown = (s.head h).bufs.latch.1.view ∧
      (t.head h).up = ((s.head h).up || (s.head h).rejoin) ∧ (t.head h).rejoin = false) ∧
    t.disp.isRepeat = (s.disp.heads.all (·.bufs.pend.isNone) && s.disp.heads.any (·.bufs.scanned.isSome)) ∧ t.disp.lineMatch = s.disp.lineNext.getD s.disp.lineMatch ∧
    t = { s with disp := t.disp, ev := t.ev, hostMem := t.hostMem }) ∧
  (∀ (s : State) (h : Nat), s.live = true → s.disp.st ≠ .running ∨ (s.head h).border = true → exec (.dispUnderrun h) s = .next s) ∧
  (∀ (s : State) (h : Nat), s.live = true → s.disp.st = .running → h ≤ 1 → s.disp.heads.length = 2 → (s.head h).border = false → ∃ t, exec (.dispUnderrun h) s = .next t ∧
    (t.head h).border = true ∧ (∀ k, k ≠ h → t.head k = s.head k) ∧ t.disp.counts.underruns = wrap 32 (s.disp.counts.underruns + 1) ∧
    t = { s with disp := t.disp, ev := t.ev, hostMem := t.hostMem, sys := { s.sys with free := t.sys.free } }) ∧
  (∀ s : State, s.live = true →
    (s.disp.st ≠ .running → exec .lineMatch s = .next s ∧ exec .frameDone s = .next s) ∧
    (s.disp.st = .running → (bit s.disp.mask 1 = true → exec .lineMatch s = .next s) ∧ (bit s.disp.mask 2 = true → exec .frameDone s = .next s) ∧
      (bit s.disp.mask 1 = false → exec .lineMatch s = .next (raise 159 0 [s.disp.dframe] none s)) ∧
      (bit s.disp.mask 2 = false → exec .frameDone s = .next (raise 160 0 [s.disp.dframe, if (s.head 0).shown.isSome then (s.head 0).frame else (s.head 1).frame,
        b2n s.disp.isRepeat, b2n (s.head 0).underrun + 2 * b2n (s.head 1).underrun] none s))))) ∧
  ((∀ (s : State) (h : Nat), s.live = true → h < s.disp.heads.length → ∃ t, exec (.hpdDeassert h) s = .next t ∧ (t.head h).hpd = false ∧ (t.head h).up = false ∧
    (t.head h).retrain = false ∧ (t.head h).edid = [] ∧ (t.head h).bufs = (s.head h).bufs ∧ (∀ k, k ≠ h → t.head k = s.head k) ∧
    t = { s with disp := { s.disp with heads := t.disp.heads }, ev := t.ev, hostMem := t.hostMem }) ∧
  (∀ (s : State) (h : Nat) (b : Bytes), s.live = true → exec (.hpdAssert h b) s = .next (s.setHead h fun x =>
    { x with hpd := true, edid := b, retrain := decide (s.disp.st = .running) })) ∧
  (∀ (s : State) (h : Nat) (b : Bool), s.live = true →
    ((s.head h).hpd = false → exec (.hpdIrq h b) s = .next s) ∧
    ((s.head h).hpd = true → b = true ∨ (s.head h).up = false → exec (.hpdIrq h b) s = .next (raise 165 h [s.disp.dframe] none s)) ∧
    ((s.head h).hpd = true → b = false → (s.head h).up = true →
      exec (.hpdIrq h b) s = .next ((raise 165 h [s.disp.dframe] none s).setHead h fun x => { x with up := false, retrain := true }))) ∧
  (∀ (s : State) (a b : Bool), s.live = true → s.disp.st = .stopped → exec (.displayTrainingEnd a b) s = .next s) ∧
  (∀ (s : State) (a b : Bool), s.live = true → s.disp.st ≠ .stopped → s.disp.training = true → s.disp.heads.length = 2 → ∃ t, exec (.displayTrainingEnd a b) s = .next t ∧
    (t.head 0).up = ((s.head 0).hpd && a) ∧ (t.head 1).up = ((s.head 1).hpd && b) ∧ t.disp.training = false ∧
    t = { s with disp := t.disp, ev := t.ev, hostMem := t.hostMem }) ∧
  (∀ (s : State) (a b : Bool), s.live = true → s.disp.st ≠ .stopped → s.disp.training = false → s.disp.heads.length = 2 → ∃ t, exec (.displayTrainingEnd a b) s = .next t ∧
    ((s.head 0).retrain = true → (t.head 0).rejoin = a ∧ (t.head 0).retrain = false) ∧ ((s.head 0).retrain = false → t.head 0 = s.head 0) ∧
    ((s.head 1).retrain = true → (t.head 1).rejoin = b ∧ (t.head 1).retrain = false) ∧ ((s.head 1).retrain = false → t.head 1 = s.head 1) ∧
    t = { s with disp := { s.disp with heads := t.disp.heads }, ev := t.ev, hostMem := t.hostMem }))

/-- The DISPLAY commands: START with the display of the active plan begins training, NOT_PERMITTED when no plan has one (R271); STOP stops at the next
latch; WRITE_BUFFER and COMMIT are NOT_PERMITTED while a rendition is bound to the display and BUSY for a buffer in use, and COMMIT needs both heads
written (R272); SET_LINE_MATCH and SET_EVENTS set their values (R274); GET_EDID needs a sink (R271). Completes: displayStart, displayStop,
displayWriteBuffer, displayCommit, displaySetLineMatch, displaySetEvents, displayGetEdid. -/
def Obligations.DisplayCommands : Prop :=
  ∀ (s : State) (d : Nat) (c : DrawerCmd),
    (s.accepted d 0x0801 c = true → c.endsAt 0 = true →
      ((∀ p ∈ s.activePlans, p.display.enable = false) → exec (.displayStart d) s = .next (fail d Status.notPermitted s)) ∧
      (∀ p, s.activePlans.find? (·.display.enable) = some p → s.disp.st = .stopped → ∃ t u, exec (.displayStart d) s = .next t ∧ t = done d [] u ∧
        u.disp.st = .starting ∧ u.disp.training = true ∧ u.disp.trainStart = s.now ∧ u.disp.entry = p.display ∧ u = { s with disp := u.disp }) ∧
      (∀ p, s.activePlans.find? (·.display.enable) = some p → s.disp.st ≠ .stopped → exec (.displayStart d) s = .next (done d []
        (if s.disp.stopping = true then { s with disp := { s.disp with restart := some p.display } } else s)))) ∧
    (s.accepted d 0x0802 c = true → c.endsAt 0 = true → exec (.displayStop d) s = .next (done d []
      (if s.disp.st = .stopped then s else { s with disp := { s.disp with stopping := true, restart := none } }))) ∧
    (s.accepted d 0x0803 c = true → c.endsAt 24 = true → c.w 0 ≤ 1 → c.w 4 ≤ 2 → 4 * (s.dispEntry.hActive * s.dispEntry.vActive) ≤ c.q 16 →
      (dispBusy s = true ∨ s.covered (c.q 8) (c.q 16) false = false → exec (.displayWriteBuffer d) s = .next (fail d Status.notPermitted s)) ∧
      (dispBusy s = false → s.covered (c.q 8) (c.q 16) false = true → ((s.head (c.w 0)).inUse (c.w 4) = true → exec (.displayWriteBuffer d) s = .next (fail d Status.busy s)) ∧
        ((s.head (c.w 0)).inUse (c.w 4) = false → exec (.displayWriteBuffer d) s = .next (done d [] (s.setHead (c.w 0) fun x => { x with bufs := { x.bufs with
          bufs := x.bufs.bufs.set (c.w 4) (some { planes := [(List.range (s.dispEntry.hActive * s.dispEntry.vActive)).map fun i =>
            ofLe (s.hostRead (c.q 8 + 4 * i) 4) % 2 ^ 30] })
          written := x.bufs.written.set (c.w 4) true } }))))) ∧
    (s.accepted d 0x0804 c = true → c.endsAt 4 = true → c.w 0 ≤ 2 →
      (dispBusy s = true → exec (.displayCommit d) s = .next (fail d Status.notPermitted s)) ∧
      (dispBusy s = false → (s.head 0).inUse (c.w 0) = true ∨ (s.head 1).inUse (c.w 0) = true → exec (.displayCommit d) s = .next (fail d Status.busy s)) ∧
      (dispBusy s = false → (s.head 0).inUse (c.w 0) = false → (s.head 1).inUse (c.w 0) = false →
        ((s.head 0).bufs.written.getD (c.w 0) false = false ∨ (s.head 1).bufs.written.getD (c.w 0) false = false →
          exec (.displayCommit d) s = .next (fail d Status.notPermitted s)) ∧
        ((s.head 0).bufs.written.getD (c.w 0) false = true → (s.head 1).bufs.written.getD (c.w 0) false = true → s.disp.heads.length = 2 →
          ∃ t u, exec (.displayCommit d) s = .next t ∧ t = done d (le 4 s.disp.nextFrame) u ∧ (u.head 0).bufs.pend = some (c.w 0) ∧ (u.head 1).bufs.pend = some (c.w 0) ∧
            (u.head 0).bufs.scanned = (s.head 0).bufs.scanned ∧ u = { s with disp := u.disp, ev := u.ev, hostMem := u.hostMem }))) ∧
    (s.accepted d 0x0805 c = true → c.endsAt 4 = true →
      (c.w 0 < s.dispEntry.vActive → exec (.displaySetLineMatch d) s = .next (done d [] { s with disp := { s.disp with lineNext := some (c.w 0) } })) ∧
      (s.dispEntry.vActive ≤ c.w 0 → exec (.displaySetLineMatch d) s = .next (invalid d 0 s))) ∧
    (s.accepted d 0x0806 c = true → c.endsAt 4 = true → c.w 0 ≤ 7 → exec (.displaySetEvents d) s = .next (done d [] { s with disp := { s.disp with mask := c.w 0 } })) ∧
    (s.accepted d 0x0807 c = true → c.endsAt 24 = true → c.w 0 ≤ 1 →
      ((s.head (c.w 0)).hpd = false → exec (.displayGetEdid d) s = .next (fail d Status.notPermitted s)) ∧
      ((s.head (c.w 0)).hpd = true → s.covered (c.q 8) (c.q 16) true = true → (s.head (c.w 0)).edid.length ≤ c.q 16 → exec (.displayGetEdid d) s = .next
        (done d (le 4 (s.head (c.w 0)).edid.length) { s with hostMem := s.hostMem.writeBytes (c.q 8) (s.head (c.w 0)).edid })))

/-! ### The video coder -/

/-- The budget of a picture (R240): when the floor form of all its CTUs and its headers fits what a picture may take, what the CTU loop takes fits
too, whatever the CTUs cost in normal form. -/
def Obligations.PicturesStayWithinTheirAllowance : Prop :=
  ∀ (allow : Int) (n fctu : Nat) (normal floor : Nat → Nat), (∀ k, floor k ≤ fctu) → ((n * fctu + fHdr : Nat) : Int) ≤ allow →
    (((rcLoop allow n fctu normal floor n 0 0 none).1 + fHdr : Nat) : Int) ≤ allow

/-- PICTURE_BOUNDARY: an engine whose contexts are all Closed codes nothing and takes its new statistics ring (R229, R253); a committed encode picture
of an Open context advances its picture number (R229); a decode unit that is no IRAP picture is skipped while its context waits for one (R245); in
P2, P3 and the 112 °C stop no picture starts (R228). DECODE_WATCHDOG ends a decode picture that runs past its limit, once (R247). Completes:
pictureBoundary, decodeWatchdog. -/
def Obligations.PictureBoundariesCommitAndStart : Prop :=
  (∀ (s : State) (e : Nat), s.live = true → 1 < e → exec (.pictureBoundary e) s = .next s) ∧
  (∀ (s : State) (e : Nat), s.live = true → e ≤ 1 → s.engines.length = 2 → s.ctxs.length = 64 → (at! s.engines e).cur = none →
    (∀ k, k < 32 → (s.ctx (32 * e + k)).st = .closed) → ∃ t, exec (.pictureBoundary e) s = .next t ∧ (at! t.engines e).cur = none ∧
      (at! t.engines e).ring = (if (at! s.engines e).nextRing.isSome then (at! s.engines e).nextRing else (at! s.engines e).ring) ∧
      (∀ k, k ≠ e → at! t.engines k = at! s.engines k) ∧ t = { s with engines := t.engines, ctxs := t.ctxs, table := t.table }) ∧
  (∀ (s : State) (e i : Nat) (p : EnginePic), s.live = true → e ≤ 1 → s.engines.length = 2 → s.ctxs.length = 64 → (at! s.engines e).cur = some p → p.ctx < 32 →
    i = 32 * e + p.ctx → (s.ctx i).st = .openSt → (s.ctx i).entry.decode = false → ∃ t, exec (.pictureBoundary e) s = .next t ∧
      (t.ctx i).pic = wrap 32 ((s.ctx i).pic + 1) ∧ (t.ctx i).st = .openSt ∧ t.drawers = s.drawers ∧ t.sensors = s.sensors ∧ t.ports = s.ports ∧
      (2 ≤ s.sys.pstate ∨ s.therm.level = 3 → (at! t.engines e).cur = none)) ∧
  (∀ (s : State) (e i : Nat) (p : EnginePic), s.live = true → e ≤ 1 → s.engines.length = 2 → s.ctxs.length = 64 → (at! s.engines e).cur = some p → p.ctx < 32 →
    i = 32 * e + p.ctx → (s.ctx i).st = .openSt → (s.ctx i).entry.decode = true → (s.ctx i).skipping = true →
    (Config.auInfo ((s.ctx i).psets ++ paramSets (baseLayer p.au.data)) (s.ctx i).prevPoc (baseLayer p.au.data)).irap = false → ∃ t, exec (.pictureBoundary e) s = .next t ∧
      (t.ctx i).pic = (s.ctx i).pic ∧ (t.ctx i).outCount = (s.ctx i).outCount ∧ (t.ctx i).dpb = (s.ctx i).dpb ∧ (t.ctx i).skipping = true) ∧
  (∀ (s : State) (e c : Nat) (p : EnginePic), s.live = true → (at! s.engines e).cur = some p →
    (p.ctx ≠ c ∨ (s.ctx (32 * e + c)).entry.decode = false ∨ p.ended = true ∨ s.now < p.startCount + (s.ctx (32 * e + c)).entry.wdTicks →
      exec (.decodeWatchdog e c) s = .next s) ∧
    (p.ctx = c → (s.ctx (32 * e + c)).entry.decode = true → p.ended = false → p.startCount + (s.ctx (32 * e + c)).entry.wdTicks ≤ s.now →
      exec (.decodeWatchdog e c) s = .next (raise 145 (32 * e + c) [(s.ctx (32 * e + c)).outCount, (s.ctx (32 * e + c)).pic] none
        { s with engines := upd s.engines e fun y => { y with cur := some { p with ended := true } } })))

/-- BITSTREAM_COPY takes what the host has produced and the buffer has room for, loses and invents no byte, and writes its count back (R244); a context
that is not an Open decode context with a ring takes nothing. BYTE_RING_WRITE: with no context that writes to the ring nothing changes; an access
unit that fits goes into the ring with its header, and PRODUCED advances by whole 64-byte steps; one that does not fit yet waits (R443, R445).
Completes: bitstreamCopy, byteRingWrite. -/
def Obligations.BitstreamsReachTheirDestination : Prop :=
  ((∀ (s : State) (e c : Nat), s.live = true → (s.ctx (32 * e + c)).st ≠ .openSt ∨ (s.ctx (32 * e + c)).entry.decode = false ∨ (s.ctx (32 * e + c)).entry.inClip = true ∨
    (s.ctx (32 * e + c)).ring = none → exec (.bitstreamCopy e c) s = .next s) ∧
  (∀ (s : State) (e c i n : Nat) (r : HostRing), s.live = true → i = 32 * e + c → i < s.ctxs.length → (s.ctx i).st = .openSt → (s.ctx i).entry.decode = true →
    (s.ctx i).entry.inClip = false → (s.ctx i).ring = some r →
    n = min (min ((ofLe (s.hostRead r.addr 8) + 2 ^ 64 - (s.ctx i).consumed) % 2 ^ 64) r.entries) (s.ctx i).streamRoom → ∃ t, exec (.bitstreamCopy e c) s = .next t ∧
      (t.ctx i).consumed = wrap 64 ((s.ctx i).consumed + n) ∧
      (t.ctx i).units.flatMap (·.data) ++ (t.ctx i).stream = (s.ctx i).units.flatMap (·.data) ++ (s.ctx i).stream ++ s.byteRing r (s.ctx i).consumed n ∧
      (∀ k, k ≠ i → t.ctx k = s.ctx k) ∧ t.hostMem = s.hostMem.writeBytes (r.addr + 0x20) (le 8 (wrap 64 ((s.ctx i).consumed + n))) ∧
      t = { s with ctxs := t.ctxs, hostMem := t.hostMem })) ∧
  ((∀ (s : State) (r : Nat), s.live = true → (∀ i, i < 64 → (s.ctx i).st = .closed ∨ (s.ctx i).entry.decode = true ∨ (s.ctx i).entry.outKind ≠ 3 ∨ (s.ctx i).entry.outId ≠ r ∨
    (s.ctx i).output = []) → exec (.byteRingWrite r) s = .next s) ∧
  (∀ (s : State) (n i : Nat) (r : HostRing) (u : AccessUnit) (l : List AccessUnit), s.live = true → n < s.hostRings.length → s.ctxs.length = 64 → i < 64 →
    (∀ k, k < i → (s.ctx k).st = .closed) → (s.ctx i).st = .openSt → (s.ctx i).entry.decode = false → (s.ctx i).entry.outKind = 3 → (s.ctx i).entry.outId = n →
    (s.ctx i).output = u :: l → (at! s.hostRings n).nextRing = none → (at! s.hostRings n).ring = some r → r.kind = 1 → u.data.length + 64 ≤ r.entries →
    (r.entries < (r.produced + 2 ^ 64 - s.ringConsumed r 8) % 2 ^ 64 + 64 + 64 * ceilDiv u.data.length 64 → ∃ t, exec (.byteRingWrite n) s = .next t ∧
      t.ctxs = s.ctxs ∧ t.hostMem = s.hostMem ∧ t = { s with hostRings := t.hostRings }) ∧
    ((r.produced + 2 ^ 64 - s.ringConsumed r 8) % 2 ^ 64 + 64 + 64 * ceilDiv u.data.length 64 ≤ r.entries → ∃ t, exec (.byteRingWrite n) s = .next t ∧
      (t.ctx i).output = l ∧ (at! t.hostRings n).ring = some { r with produced := wrap 64 (r.produced + 64 + 64 * ceilDiv u.data.length 64), inUse := true } ∧
      (∀ k, k ≠ i → t.ctx k = s.ctx k) ∧ (∀ k, k ≠ n → at! t.hostRings k = at! s.hostRings k) ∧ t = { s with ctxs := t.ctxs, hostRings := t.hostRings, hostMem := t.hostMem })))

/-- The CODE commands name a context of an active plan (R252): OPEN opens a Closed one (R225), CLOSE drains it (R226), FORCE_IDR answers the frame at
which it acts (R235), PIN_LTR and UNPIN_LTR set and release long-term references (R236), SET_BITSTREAM_RING and SET_STATS_RING register rings (R244,
R253), GET_CONTEXT answers its values. Completes: codeOpen, codeClose, codeForceIdr, codePinLtr, codeUnpinLtr, codeSetBitstreamRing,
codeSetStatsRing, codeGetContext. -/
def Obligations.CodeCommands : Prop :=
  ∀ (s : State) (d i k : Nat) (c : DrawerCmd) (h : HevcEntry), c.w 0 ≤ 1 → c.w 4 ≤ 31 → i = 32 * c.w 0 + c.w 4 →
    (s.accepted d 0x0601 c = true → c.endsAt 8 = true →
      (s.ctxEntry? i = none → exec (.codeOpen d) s = .next (invalid d 4 s)) ∧
      (s.ctxEntry? i = some (k, h) → (s.ctx i).st ≠ .closed → exec (.codeOpen d) s = .next (fail d Status.busy s)) ∧
      (s.ctxEntry? i = some (k, h) → (s.ctx i).st = .closed → i < s.ctxs.length → ∃ t u, exec (.codeOpen d) s = .next t ∧ t = raise 136 i [] none (done d [] u) ∧
        (u.ctx i).st = .openSt ∧ (u.ctx i).entry = h ∧ (u.ctx i).shelf = k ∧ (u.ctx i).irapDue = true ∧ (u.ctx i).idrDue = true ∧ (u.ctx i).qpBase = h.qpInit ∧
        (u.ctx i).pic = 0 ∧ (∀ j, j ≠ i → u.ctx j = s.ctx j) ∧ u = { s with ctxs := u.ctxs })) ∧
    (s.accepted d 0x0602 c = true → c.endsAt 8 = true → s.ctxEntry? i = some (k, h) →
      ((s.ctx i).st = .closed → exec (.codeClose d) s = .next (fail d Status.notPermitted s)) ∧
      ((s.ctx i).st ≠ .closed → ∃ l, exec (.codeClose d) s = .next (done d [] (s.setCtx i fun x => { x with st := .draining, stream := [], units := x.units ++ l })) ∧
        ((s.ctx i).stream = [] → l = []) ∧ ∀ u ∈ l, u.data = (s.ctx i).stream)) ∧
    (s.accepted d 0x0603 c = true → c.endsAt 8 = true → s.ctxEntry? i = some (k, h) →
      (h.decode = true ∨ (s.ctx i).st ≠ .openSt ∨ s.feeder? i = none → exec (.codeForceIdr d) s = .next (fail d Status.notPermitted s)) ∧
      (∀ p n, h.decode = false → (s.ctx i).st = .openSt → s.feeder? i = some (p, n) → exec (.codeForceIdr d) s = .next
        (done d (le 4 (nextTaken (p.graph.getD n default) (s.nextSourceFrame n)))
          (s.setCtx i fun x => { x with forceIdr := some (nextTaken (p.graph.getD n default) (s.nextSourceFrame n)) })))) ∧
    (∀ p n, s.accepted d 0x0604 c = true → c.endsAt 12 = true → s.ctxEntry? i = some (k, h) → s.feeder? i = some (p, n) →
      (h.decode = true ∨ h.ltrMax = 0 ∨ (s.ctx i).st ≠ .openSt → exec (.codePinLtr d) s = .next (fail d Status.notPermitted s)) ∧
      (h.decode = false → h.ltrMax ≠ 0 → (s.ctx i).st = .openSt →
        (serialLe (s.nextSourceFrame n) (c.w 8) = false → exec (.codePinLtr d) s = .next (invalid d 8 s)) ∧
        (serialLe (s.nextSourceFrame n) (c.w 8) = true → (s.ctx i).pins.length < h.ltrMax →
          exec (.codePinLtr d) s = .next (done d [] (s.setCtx i fun x => { x with pins := x.pins ++ [{ frame := c.w 8 }] }))) ∧
        (serialLe (s.nextSourceFrame n) (c.w 8) = true → h.ltrMax ≤ (s.ctx i).pins.length → (∀ q ∈ (s.ctx i).pins, q.host = true) →
          exec (.codePinLtr d) s = .next (fail d Status.busy s)) ∧
        (∀ o, serialLe (s.nextSourceFrame n) (c.w 8) = true → h.ltrMax ≤ (s.ctx i).pins.length → (s.ctx i).pins.find? (fun q => !q.host) = some o →
          exec (.codePinLtr d) s = .next (done d [] (s.setCtx i fun x => { x with pins := x.pins.erase o ++ [{ frame := c.w 8 }] }))))) ∧
    (s.accepted d 0x0605 c = true → c.endsAt 12 = true → s.ctxEntry? i = some (k, h) →
      ((∀ q ∈ (s.ctx i).pins, q.host = false ∨ q.frame ≠ c.w 8) → exec (.codeUnpinLtr d) s = .next (invalid d 8 s)) ∧
      ((∃ q ∈ (s.ctx i).pins, q.host = true ∧ q.frame = c.w 8) → ∃ t u, exec (.codeUnpinLtr d) s = .next t ∧ t = done d [] u ∧
        (u.ctx i).pins = (s.ctx i).pins.map (fun q => if q.host = true ∧ q.frame = c.w 8 then { q with release := true } else q) ∧ u = { s with ctxs := u.ctxs })) ∧
    (s.accepted d 0x0606 c = true → c.endsAt 28 = true → s.ctxEntry? i = some (k, h) → isPow2 (c.w 24) = true → 65536 ≤ c.w 24 → c.w 24 ≤ 2 ^ 30 → 4096 + c.w 24 ≤ c.q 16 →
      (h.decode = false ∨ h.inClip = true ∨ s.covered (c.q 8) (c.q 16) true = false → exec (.codeSetBitstreamRing d) s = .next (fail d Status.notPermitted s)) ∧
      (h.decode = true → h.inClip = false → s.covered (c.q 8) (c.q 16) true = true → exec (.codeSetBitstreamRing d) s = .next
        (done d [] (s.setCtx i fun x => { x with ring := some { addr := c.q 8, len := c.q 16, entries := c.w 24 }, consumed := 0 })))) ∧
    (s.accepted d 0x0607 c = true → c.endsAt 28 = true → isPow2 (c.w 24) = true → 16 ≤ c.w 24 → c.w 24 ≤ 4096 → 4096 + 64 * c.w 24 ≤ c.q 16 →
      (s.covered (c.q 8) (c.q 16) true = false → exec (.codeSetStatsRing d) s = .next (fail d Status.notPermitted s)) ∧
      (s.covered (c.q 8) (c.q 16) true = true → exec (.codeSetStatsRing d) s = .next (done d [] { s with engines := upd s.engines (c.w 0) fun x =>
        { x with nextRing := some { addr := c.q 8, len := c.q 16, entries := c.w 24, slot := 64 } } }))) ∧
    (s.accepted d 0x0608 c = true → c.endsAt 8 = true → s.ctxEntry? i = some (k, h) → ∃ b, exec (.codeGetContext d) s = .next (done d (b ++ le 4 (s.ctx i).pic ++
      le 8 (s.ctx i).window ++ le 8 (s.ctx i).spent ++ le 4 (s.ctx i).qpBase ++ le 4 (s.ctx i).pins.length ++
      (s.ctx i).pins.flatMap fun p => le 4 p.frame ++ le 4 (if p.host then 1 else 2)) s) ∧ b.length = 4)

/-! ### The Larder -/

/-- MEM.COMPRESS and MEM.DECOMPRESS (R343, R344, R353): a well-formed call outside the registered buffers, or from P2 on, is NOT_PERMITTED, a fifth job
is BUSY, and else the job joins the turn (a resumed one with what its handle holds) with its staging buffers asked for and its result comes later.
COMPRESSION_FRAME (R343, R346, R351): with no job that can go on nothing changes; a compress job that has room writes the frame of its next block
right after what it has written, and answers OK with the hash of all its input after the last block; a decompress job writes the content of its next
frame (R349, R350); a block that would not shrink the whole ends the job with NOT_SHRUNK (R348); a cancelled job ends with ABORTED (R354).
MEM.JOB_CANCEL (R354): a running job of the Drawer is told to stop and the cancel waits, a held handle is released with ABORTED_OK, and what is not
there is ALREADY_DONE. HANDLE_EXPIRY releases a handle 60 s after it was given, unless a job runs under it (R353). Completes: compressionFrame,
memJobCancel, handleExpiry, memCompress, memDecompress. -/
def Obligations.CompressionJobs : Prop :=
  (∀ (s : State) (d b : Nat) (z : Bool) (i : Instr) (c : DrawerCmd) (j : Job), (b, z, i) ∈ [(0x0E0A, false, Instr.memCompress d), (0x0E0B, true, .memDecompress d)] →
    s.accepted d b c = true → c.endsAt 0x38 = true → j = c.job d z → c.w 0x2C < 64 → j.srcLen ≠ 0 → j.srcLen < 2 ^ 40 → j.dstLen < 2 ^ 40 →
    (if z = true then j.blockLog2 = 0 ∧ j.effort = 0 ∧ j.idx = 0 ∧ (if j.verify = true then j.dst = 0 ∧ j.dstLen = 0 else j.dstLen ≠ 0)
      else j.blockLog2 ≤ 6 ∧ j.verify = false ∧ j.dstLen ≠ 0) → j.idxLen % 8 = 0 → (j.idx = 0 → j.idxLen = 0) →
    overlap j.src j.srcLen j.dst j.dstLen = false → (j.idx ≠ 0 → overlap j.src j.srcLen j.idx j.idxLen = false ∧ overlap j.dst j.dstLen j.idx j.idxLen = false) →
    (2 ≤ s.sys.pstate ∨ s.covered j.src j.srcLen false = false ∨ s.covered j.dst j.dstLen true = false ∨ (j.idx ≠ 0 ∧ s.covered j.idx j.idxLen true = false) →
      exec i s = .next (postResult d Status.notPermitted noDetail (({} : Job).result 0 noOffset 0) s)) ∧
    (s.sys.pstate < 2 → s.covered j.src j.srcLen false = true → s.covered j.dst j.dstLen true = true → (j.idx ≠ 0 → s.covered j.idx j.idxLen true = true) →
      (4 ≤ s.store.jobs.length → exec i s = .next (postResult d Status.busy noDetail (({} : Job).result 0 noOffset 0) s)) ∧
      (s.store.jobs.length < 4 → c.q 0x30 = 0 → ∃ t, exec i s = .next t ∧ t.store.jobs = s.store.jobs ++ [{ j with acq := s.mem.acqCtr }] ∧ (t.drawer d).begun = true ∧
        t.hostMem = s.hostMem ∧ t = { s with store := { s.store with jobs := t.store.jobs }, mem := { s.mem with acqs := t.mem.acqs, acqCtr := t.mem.acqCtr }, drawers := t.drawers }) ∧
      (s.store.jobs.length < 4 → c.q 0x30 ≠ 0 → (∀ x ∈ s.store.jobs, x.handle ≠ c.q 0x30) →
        ((∀ h ∈ s.store.handles, h.num ≠ c.q 0x30) → exec i s = .next (postResult d Status.invalidField 0x40 (({} : Job).result 0 noOffset 0) s)) ∧
        (∀ h, s.store.handles.find? (·.num == c.q 0x30) = some h → h.job.decompress = z → j.srcLen = h.job.jobLen - (h.job.inBefore + h.job.inNow) →
          j.blockLog2 = h.job.blockLog2 → j.effort = h.job.effort → ∃ t, exec i s = .next t ∧ (t.drawer d).begun = true ∧ t.hostMem = s.hostMem ∧
          t.store.jobs = s.store.jobs ++ [{ j with
            acq := s.mem.acqCtr, jobLen := h.job.jobLen, inBefore := h.job.inBefore + h.job.inNow, outBefore := h.job.outBefore + h.job.outNow
            framesBefore := h.job.framesBefore + h.job.frames, seen := h.job.seen, handle := c.q 0x30 }])))) ∧
  ((∀ s : State, s.live = true → s.store.jobs = [] → exec .compressionFrame s = .next s) ∧
  (∀ (s : State) (j : Job) (r : List Job) (a : Acquisition) (b f : Bytes) (n : Nat), s.live = true → s.store.jobs = j :: r → (∀ x ∈ r, x.acq ≠ j.acq ∧ x.drawer ≠ j.drawer) →
    s.mem.acqs.find? (·.id == j.acq) = some a → a.complete = true → a.waiting = false → j.cancel = [] → j.power = none → j.decompress = false → j.idx = 0 ∨ 8 * (j.frames + 1) ≤ j.idxLen →
    n = min (2 ^ (16 + j.blockLog2)) (j.srcLen - j.inNow) → b = s.hostRead (j.src + j.inNow) n → f = zstdFrame j.effort b → j.outBefore + j.outNow + f.length < j.jobLen →
    j.outNow + f.length ≤ j.dstLen → j.inNow + n ≠ j.srcLen → ∃ t, exec .compressionFrame s = .next t ∧
      t.store.jobs = r ++ [{ j with inNow := j.inNow + n, outNow := j.outNow + f.length, frames := j.frames + 1, seen := j.seen ++ b }] ∧
      t.hostMem = (if j.idx = 0 then s.hostMem.writeBytes (j.dst + j.outNow) f
        else (s.hostMem.writeBytes (j.dst + j.outNow) f).writeBytes (j.idx + 8 * j.frames) (le 8 (j.outBefore + j.outNow))) ∧ t.drawers = s.drawers ∧
      t = { s with store := { s.store with jobs := t.store.jobs }, hostMem := t.hostMem, mem := { s.mem with acqs := t.mem.acqs } }) ∧
  (∀ (s : State) (j : Job) (a : Acquisition) (b f : Bytes) (n : Nat), s.live = true → s.store.jobs = [j] → s.mem.acqs.find? (·.id == j.acq) = some a →
    a.complete = true → a.waiting = false → j.cancel = [] → j.power = none → j.decompress = false → j.idx = 0 → j.handle = 0 →
    n = min (2 ^ (16 + j.blockLog2)) (j.srcLen - j.inNow) → b = s.hostRead (j.src + j.inNow) n → f = zstdFrame j.effort b → ∃ t u, exec .compressionFrame s = .next t ∧
      (j.jobLen ≤ j.outBefore + j.outNow + f.length → t = postResult j.drawer Status.notShrunk noDetail (j.result 0 noOffset 0) u ∧ u.hostMem = s.hostMem) ∧
      (j.outBefore + j.outNow + f.length < j.jobLen → j.outNow + f.length ≤ j.dstLen → j.inNow + n = j.srcLen →
        t = postResult j.drawer Status.ok noDetail (({ j with inNow := j.inNow + n, outNow := j.outNow + f.length, frames := j.frames + 1, seen := j.seen ++ b } : Job).result 0
          noOffset (xxh64 (j.seen ++ b))) u ∧ u.hostMem = s.hostMem.writeBytes (j.dst + j.outNow) f) ∧
      (j.jobLen ≤ j.outBefore + j.outNow + f.length ∨ (j.outNow + f.length ≤ j.dstLen ∧ j.inNow + n = j.srcLen) → u.store.jobs = [] ∧ u.drawers = s.drawers)) ∧
  (∀ (s : State) (j : Job) (r : List Job) (a : Acquisition) (f : ZFrame), s.live = true → s.store.jobs = j :: r → (∀ x ∈ r, x.acq ≠ j.acq ∧ x.drawer ≠ j.drawer) →
    s.mem.acqs.find? (·.id == j.acq) = some a → a.complete = true → a.waiting = false → j.cancel = [] → j.power = none → j.decompress = true → j.verify = false →
    f = readFrame (s.hostRead (j.src + j.inNow) (j.srcLen - j.inNow)) → ∃ t, exec .compressionFrame s = .next t ∧
      (∀ n b, f = .good n b → j.outNow + b.length ≤ j.dstLen → j.inNow + n ≠ j.srcLen → t.hostMem = s.hostMem.writeBytes (j.dst + j.outNow) b ∧
        t.store.jobs = r ++ [{ j with inNow := j.inNow + n, outNow := j.outNow + b.length, frames := j.frames + 1 }] ∧ t.drawers = s.drawers) ∧
      (∀ n, f = .skip n → j.inNow + n ≠ j.srcLen → t.hostMem = s.hostMem ∧ t.store.jobs = r ++ [{ j with inNow := j.inNow + n }] ∧ t.drawers = s.drawers) ∧
      (f = .broken → t.store.jobs = r ∧ ∃ u, u.drawers = s.drawers ∧ u.hostMem = s.hostMem ∧
        t = postResult j.drawer Status.invalidField noDetail (j.result 0 j.inNow 0) u) ∧
      (f = .badSum → t.store.jobs = r ∧ ∃ u, u.drawers = s.drawers ∧ t = postResult j.drawer Status.integrity noDetail (j.result 0 j.inNow 0) u ∧
        ∀ a, a < j.dst + j.outNow ∨ j.dst + j.dstLen ≤ a → u.hostMem.read a = s.hostMem.read a)) ∧
  (∀ (s : State) (j : Job) (k : Nat), s.live = true → s.store.jobs = [j] → j.cancel = [k] → k ≠ j.drawer → (s.drawer k).st = .busy → (s.drawer j.drawer).st = .busy →
    ∃ t, exec .compressionFrame s = .next t ∧ t.store.jobs = [] ∧ (t.drawer j.drawer).st ≠ .busy ∧ (t.drawer k).st ≠ .busy)) ∧
  ((∀ (s : State) (d : Nat) (c : DrawerCmd), s.accepted d 0x0E0C c = true → c.endsAt 16 = true →
    (c.q 8 ≠ 0 → c.w 0 = 0 →
      (s.store.jobs.any (·.handle == c.q 8) = true → exec (.memJobCancel d) s = .next (fail d Status.busy s)) ∧
      (s.store.jobs.any (·.handle == c.q 8) = false → s.store.handles.any (·.num == c.q 8) = true → exec (.memJobCancel d) s = .next
        (fail d Status.abortedOk { s with store := { s.store with handles := s.store.handles.filter (·.num != c.q 8) } })) ∧
      (s.store.jobs.any (·.handle == c.q 8) = false → s.store.handles.any (·.num == c.q 8) = false → exec (.memJobCancel d) s = .next (fail d Status.alreadyDone s))) ∧
    (c.q 8 = 0 → c.w 0 ≤ 19 →
      ((∀ j ∈ s.store.jobs, (s.drawer j.drawer).num ≠ c.w 0) → exec (.memJobCancel d) s = .next (fail d Status.alreadyDone s)) ∧
      (∀ j, s.store.jobs = [j] → (s.drawer j.drawer).num = c.w 0 → (s.drawer j.drawer).orphan = false → ∃ t, exec (.memJobCancel d) s = .next t ∧
        t.store.jobs = [{ j with cancel := j.cancel ++ [d] }] ∧ (t.drawer d).begun = true ∧ t = { s with store := { s.store with jobs := t.store.jobs }, drawers := t.drawers }))) ∧
  (∀ (s : State) (h : Nat), s.live = true →
    ((∀ x ∈ s.store.handles, x.num = h → s.now < x.issued + 60000000000) → exec (.handleExpiry h) s = .next s) ∧
    ((∃ x ∈ s.store.handles, x.num = h ∧ x.issued + 60000000000 ≤ s.now) → (∀ j ∈ s.store.jobs, j.handle ≠ h) →
      exec (.handleExpiry h) s = .next { s with store := { s.store with handles := s.store.handles.filter (·.num != h) } }) ∧
    ((∃ j ∈ s.store.jobs, j.handle = h) → exec (.handleExpiry h) s = .next s)))

/-! ### The Store -/

/-- STORE.CREATE_QUEUE makes a pair that does not exist, after the admin pair, over spans that the host has registered; STORE.DELETE_QUEUE removes one
that is idle, the admin pair last (R277, R278). The doorbells (R279): a doorbell of a queue that does not exist does nothing, a value out of range
is reported and changes no queue, and else the tail, or the head with the entries that it releases, takes the value. ENTRY_FETCH (R280, R283, R284):
with nothing that may be fetched nothing changes; a fetched entry moves the head by one; one whose CID is in use completes at once as a duplicate,
one with a bad field completes at once with its status, and any other becomes outstanding. COMPLETION_POST writes the oldest completion that is due,
with the phase, and moves the tail; with nothing due nothing changes, and while the queue is full the completion is held (R281, R282). A decided
command leaves the outstanding ones, and its completion is due on its queue (R280, R282). Completes: storeCreateQueue, storeDeleteQueue,
sqTailDoorbell, cqHeadDoorbell, entryFetch, completionPost. -/
def Obligations.QueuePairsEntriesAndCompletions : Prop :=
  (∀ (s : State) (d : Nat) (c : DrawerCmd), (c.w 0 ≤ 3 ∧ s.sys.stage = 2) ∨ c.w 0 = 0xFF →
    (s.accepted d 0x0901 c = true → c.endsAt 36 = true → c.q 8 % 4096 = 0 → c.q 16 % 4096 = 0 → 2 ≤ c.w 24 → c.w 24 ≤ (if c.w 0 = 0xFF then 64 else 256) → c.w 24 ≤ c.w 28 →
      c.w 28 ≤ (if c.w 0 = 0xFF then 128 else 512) → c.w 32 ≤ 63 →
      (s.covered (c.q 8) (64 * c.w 24) false = false ∨ s.covered (c.q 16) (16 * c.w 28) true = false ∨ (c.w 0 ≤ 3 ∧ s.pair? 4 = none) →
        exec (.storeCreateQueue d) s = .next (fail d Status.notPermitted s)) ∧
      (s.covered (c.q 8) (64 * c.w 24) false = true → s.covered (c.q 16) (16 * c.w 28) true = true → (c.w 0 ≤ 3 → (s.pair? 4).isSome = true) →
        ((s.pair? (qIndex (c.w 0))).isSome = true → exec (.storeCreateQueue d) s = .next (fail d Status.busy s)) ∧
        (s.pair? (qIndex (c.w 0)) = none → exec (.storeCreateQueue d) s = .next (done d [] { s with store := { s.store with
          pairs := s.store.pairs.set (qIndex (c.w 0)) (some { sqBase := c.q 8, cqBase := c.q 16, sqEntries := c.w 24, cqEntries := c.w 28, vector := c.w 32 }) } })))) ∧
    (s.accepted d 0x0902 c = true → c.endsAt 4 = true →
      (s.pair? (qIndex (c.w 0)) = none → exec (.storeDeleteQueue d) s = .next (invalid d 0 s)) ∧
      (∀ p, s.pair? (qIndex (c.w 0)) = some p →
        (c.w 0 = 0xFF → (∃ i, i < 4 ∧ (s.pair? i).isSome = true) → exec (.storeDeleteQueue d) s = .next (fail d Status.notPermitted s)) ∧
        ((c.w 0 = 0xFF → ∀ i, i < 4 → s.pair? i = none) →
          (s.store.cmds.any (·.q == qIndex (c.w 0)) = true ∨ p.held ≠ [] ∨ p.unreleased ≠ [] → exec (.storeDeleteQueue d) s = .next (fail d Status.busy s)) ∧
          (s.store.cmds.any (·.q == qIndex (c.w 0)) = false → p.held = [] → p.unreleased = [] → exec (.storeDeleteQueue d) s = .next (done d []
            { s with store := { s.store with pairs := s.store.pairs.set (qIndex (c.w 0)) none } })))))) ∧
  ((∀ (s : State) (q v : Nat) (h : List HostStore), s.live = true → s.pair? (qIndex q) = none → exec (.sqTailDoorbell q ⟨v, h⟩) s = .next (s.hostStores h) ∧
    exec (.cqHeadDoorbell q v) s = .next s) ∧
  (∀ (s : State) (q v : Nat) (h : List HostStore) (p : QPair), s.live = true → s.pair? (qIndex q) = some p → v < 65536 →
    (p.sqEntries ≤ v → exec (.sqTailDoorbell q ⟨v, h⟩) s = .next (raise 176 (sqid (qIndex q)) [] none (s.hostStores h))) ∧
    (v < p.sqEntries → exec (.sqTailDoorbell q ⟨v, h⟩) s = .next ((s.hostStores h).setPair (qIndex q) fun p => { p with sqTail := v })) ∧
    (p.cqEntries ≤ v ∨ p.unreleased.length < (v + p.cqEntries - p.cqHead) % p.cqEntries →
      exec (.cqHeadDoorbell q v) s = .next (raise 176 (sqid (qIndex q)) [] none s)) ∧
    (v < p.cqEntries → (v + p.cqEntries - p.cqHead) % p.cqEntries ≤ p.unreleased.length → exec (.cqHeadDoorbell q v) s = .next
      (s.setPair (qIndex q) fun p => { p with cqHead := v, unreleased := p.unreleased.drop ((v + p.cqEntries - p.cqHead) % p.cqEntries) })))) ∧
  ((∀ (s : State) (q : Nat), s.live = true → s.canFetch (qIndex q) = false → exec (.entryFetch q) s = .next s) ∧
  (∀ (s : State) (q k : Nat) (p : QPair) (e : SqEntry), s.live = true → k = qIndex q → s.pair? k = some p → s.canFetch k = true → p.resetTo = none →
    e = parseEntry (s.hostRead (p.sqBase + 64 * p.sqHead) 64) → ∃ t p', exec (.entryFetch q) s = .next t ∧ t.pair? k = some p' ∧ p'.sqHead = (p.sqHead + 1) % p.sqEntries ∧
      (s.cidInUse k e.cid = true → p'.held = p.held ++ [{ cid := e.cid, status := Status.invalidField, dup := true, opcode := e.opcode, field := 2 }] ∧
        t.store.cmds = s.store.cmds) ∧
      (s.cidInUse k e.cid = false → p.marked.contains p.sqHead = true → p'.held = p.held ++ [{ cid := e.cid, status := Status.aborted, opcode := e.opcode, field := 0xFF }] ∧
        t.store.cmds = s.store.cmds) ∧
      (∀ st f, s.cidInUse k e.cid = false → p.marked.contains p.sqHead = false → s.refusal k e = some (st, f) →
        p'.held = p.held ++ [{ cid := e.cid, status := st, opcode := e.opcode, field := f }] ∧ t.store.cmds = s.store.cmds) ∧
      (s.cidInUse k e.cid = false → p.marked.contains p.sqHead = false → s.refusal k e = none → p'.held = p.held ∧ ∃ c, t.store.cmds = s.store.cmds ++ [c] ∧
        c.q = k ∧ c.entry = e ∧ c.fetched = s.now ∧ c.begun = false ∧ c.service = s.sys.service) ∧
      t = { s with store := t.store, ev := t.ev, hostMem := t.hostMem })) ∧
  ((∀ (s : State) (q : Nat), s.live = true → (∀ p, s.pair? (qIndex q) = some p → p.held = []) → exec (.completionPost q) s = .next s) ∧
  (∀ (s : State) (q : Nat) (p : QPair) (c : Completion) (r : List Completion), s.live = true → s.pair? (qIndex q) = some p → p.held = c :: r →
    p.cqEntries ≤ p.unreleased.length → ∃ t p', exec (.completionPost q) s = .next t ∧ t.pair? (qIndex q) = some p' ∧ p'.held = p.held ∧ p'.cqTail = p.cqTail ∧
      p'.unreleased = p.unreleased ∧ t.store.cmds = s.store.cmds) ∧
  (∀ (s : State) (q : Nat) (p : QPair) (c : Completion) (r : List Completion), s.live = true → s.pair? (qIndex q) = some p → p.held = c :: r →
    p.unreleased.length < p.cqEntries → ∃ t p', exec (.completionPost q) s = .next t ∧ t.pair? (qIndex q) = some p' ∧ p'.held = r ∧
      p'.cqTail = (p.cqTail + 1) % p.cqEntries ∧ p'.unreleased = p.unreleased ++ [(c.cid, c.dup)] ∧
      p'.phase = (if p.cqEntries ≤ p.cqTail + 1 then !p.phase else p.phase) ∧
      t.hostMem = s.hostMem.writeBytes (p.cqBase + 16 * p.cqTail) (c.bytes (qIndex q) p.sqHead p.phase) ∧ t = { s with store := t.store, ev := t.ev, hostMem := t.hostMem }) ∧
  (∀ (s : State) (k cid st a b f : Nat) (c : StoreCmd) (p : QPair), s.store.cmds.find? (fun c => c.q == k && c.entry.cid == cid) = some c → s.pair? k = some p →
    ∃ t p', complete k cid st a b f s = t ∧ t.pair? k = some p' ∧ p'.held = p.held ++ [{ cid := cid, status := st, r0 := a, r1 := b, opcode := c.entry.opcode, field := f }] ∧
      t.store.cmds = s.store.cmds.filter (fun c => !(c.q == k && c.entry.cid == cid)) ∧ t.hostMem = s.hostMem ∧ t.drawers = s.drawers))

/-- The checks of WRITE_RECORD before it accepts a record (R290): no set, a device stream, or a closed clip is NOT_PERMITTED, an unknown clip and
indices past the end are INVALID_FIELD, no room is NO_SPACE, and else the command waits for its records. READ_RECORD (R291): an unknown name is
INVALID_FIELD, a short buffer NO_SPACE with the length it takes, and a record still in the Store buffer is written to the host and completes with
its lengths. VERIFY_RECORD reads its records one after the other; an unknown one ends it with INVALID_FIELD and the count verified (R292). TRIM_CLIP
(R293): the clip being recorded is NOT_PERMITTED, an unknown one INVALID_FIELD; else every record that it names is trimmed and the command completes
with the medium. FLUSH of nothing accepted since the last start completes OK (R296). ABORT (R298): a command that can still be aborted ends with
ABORTED and the Abort answers ABORTED_OK; one past its commit point, or not there, is ALREADY_DONE. Completes: writeRecord, readRecord,
verifyRecord, trimClip, flush, abort. -/
def Obligations.RecordCommands : Prop :=
  (∀ (s u : State) (q cid : Nat) (c : StoreCmd), s.outstanding q cid 0x01 c = true → u = ensureHostKey s →
    (u.set? = none ∨ c.entry.stream < 10 → exec (.writeRecord q cid) s = .next (complete (qIndex q) cid Status.notPermitted 0 0 0xFF u)) ∧
    (u.set?.isSome = true → 10 ≤ c.entry.stream → c.entry.clip ≠ 0xFFFFFFFF → u.store.clip = none → (u.store.mounted.elim [] (·.clips)).any (·.1 == c.entry.clip) = false →
      exec (.writeRecord q cid) s = .next (complete (qIndex q) cid Status.invalidField 0 0 4 u)) ∧
    (∀ k, u.set?.isSome = true → 10 ≤ c.entry.stream → (c.entry.clip = 0xFFFFFFFF ∧ u.workKey? 1 0 = some k) ∨
        (c.entry.clip ≠ 0xFFFFFFFF ∧ u.store.clip.any (fun x => x.num == c.entry.clip && !x.closing) = true) →
      (0xFFFFFFFE < c.entry.index + c.entry.records - 1 → exec (.writeRecord q cid) s = .next (complete (qIndex q) cid Status.invalidField 0 0 0xC u)) ∧
      (c.entry.index + c.entry.records - 1 ≤ 0xFFFFFFFE →
        (u.spaceFree < sumNat ((List.range c.entry.records).map fun r => recBytes (c.entry.recLength r)) →
          exec (.writeRecord q cid) s = .next (complete (qIndex q) cid Status.noSpace 0 0 0xFF u)) ∧
        (sumNat ((List.range c.entry.records).map fun r => recBytes (c.entry.recLength r)) ≤ u.spaceFree →
          exec (.writeRecord q cid) s = .next (u.setCmd (qIndex q) cid fun c => { c with begun := true }))))) ∧
  ((∀ (s u : State) (q cid : Nat) (c : StoreCmd), s.outstanding q cid 0x02 c = true → u = (if c.entry.clip = 0xFFFFFFFF then ensureHostKey s else s) →
    (c.entry.clear = true → c.entry.stream < 10 → exec (.readRecord q cid) s = .next (complete (qIndex q) cid Status.notPermitted 0 0 0xFF s)) ∧
    (c.entry.clear = false → u.findRec c.entry.clip c.entry.stream c.entry.index = none →
      exec (.readRecord q cid) s = .next (complete (qIndex q) cid Status.invalidField 0 0 0xC u)) ∧
    (∀ r, c.entry.clear = false → u.findRec c.entry.clip c.entry.stream c.entry.index = some r →
      (c.entry.length < recBytes r.payload.length →
        exec (.readRecord q cid) s = .next (complete (qIndex q) cid Status.noSpace (recBytes r.payload.length) r.payload.length 0xFF u)) ∧
      (recBytes r.payload.length ≤ c.entry.length → r.st = .accepted → ∃ t v, exec (.readRecord q cid) s = .next t ∧
        (u.recordGood r (u.heldKey c.entry.clip) = false → t = complete (qIndex q) cid Status.integrity 0 0 0xFF v ∧ v.hostMem = s.hostMem) ∧
        (u.recordGood r (u.heldKey c.entry.clip) = true → t = complete (qIndex q) cid Status.ok (r.stored u.setId).length r.payload.length 0xFF v ∧
          v.hostMem = s.hostMem.writeBytes c.entry.buf (r.stored u.setId))) ∧
      (recBytes r.payload.length ≤ c.entry.length → r.st ≠ .accepted → u.readPorts r = [] → ∃ t v, exec (.readRecord q cid) s = .next t ∧
        t = complete (qIndex q) cid Status.mediaError 0 0 0xFF v ∧ v.hostMem = s.hostMem) ∧
      (recBytes r.payload.length ≤ c.entry.length → r.st ≠ .accepted → u.readPorts r ≠ [] → ∃ t x, exec (.readRecord q cid) s = .next t ∧
        t.store.cmds.find? (fun x => x.q == qIndex q && x.entry.cid == cid) = some x ∧ x.begun = true ∧ x.set = [r.seq] ∧ t.hostMem = s.hostMem))) ∧
  (∀ (s u : State) (q cid : Nat) (c : StoreCmd), s.outstanding q cid 0x03 c = true → u = ensureHostKey (s.setCmd (qIndex q) cid fun c => { c with begun := true }) →
    c.accepted = 0 → c.entry.count ≠ 0 →
    (u.findRec c.entry.clip c.entry.stream c.entry.index = none → exec (.verifyRecord q cid) s = .next (complete (qIndex q) cid Status.invalidField 0 c.entry.index 0xC u)) ∧
    (∀ r, u.findRec c.entry.clip c.entry.stream c.entry.index = some r → r.st ≠ .accepted → u.readPorts r ≠ [] → ∃ t x, exec (.verifyRecord q cid) s = .next t ∧
      t.store.cmds.find? (fun x => x.q == qIndex q && x.entry.cid == cid) = some x ∧ x.begun = true ∧ x.set = [r.seq] ∧ t.hostMem = s.hostMem))) ∧
  ((∀ (s : State) (q cid : Nat) (c : StoreCmd), s.outstanding q cid 0x04 c = true →
    (c.entry.clip ≠ 0xFFFFFFFF → s.store.clip.any (·.num == c.entry.clip) = true → exec (.trimClip q cid) s = .next (complete (qIndex q) cid Status.notPermitted 0 0 0xFF s)) ∧
    (∀ m, s.set? = some m → (c.entry.clip = 0xFFFFFFFF ∨ s.store.clip.any (·.num == c.entry.clip) = false) →
      (c.entry.clip ≠ 0xFFFFFFFF → m.clips.any (·.1 == c.entry.clip) = false → exec (.trimClip q cid) s = .next (complete (qIndex q) cid Status.invalidField 0 0 4 s)) ∧
      (c.entry.clip = 0xFFFFFFFF ∨ m.clips.any (·.1 == c.entry.clip) = true → ∃ t u, exec (.trimClip q cid) s = .next t ∧ t = pump u ∧
        (∀ r ∈ s.store.recs, r.trims c.entry = true → ∃ x ∈ u.store.recs, x.seq = r.seq ∧ x.trimmed.isSome = true)))) ∧
  (∀ (s : State) (q cid : Nat) (c : StoreCmd), s.outstanding q cid 0x05 c = true → s.store.cmds = [c] → qIndex q ≠ 4 → c.set = [] → ∃ t u, exec (.flush q cid) s = .next t ∧
    t = complete (qIndex q) cid Status.ok 0 0 0xFF u ∧ u.store.cmds = [{ c with begun := true }] ∧ u.hostMem = s.hostMem) ∧
  (∀ (s : State) (q cid a b : Nat) (c : StoreCmd), s.outstanding q cid 0x06 c = true → a = c.entry.arg0 / 65536 → b = c.entry.arg0 % 65536 →
    (3 < a ∨ (a = qIndex q ∧ b = cid) → exec (.abort q cid) s = .next (complete (qIndex q) cid Status.invalidField 0 0 0x20 s)) ∧
    (∀ x, a ≤ 3 → ¬ (a = qIndex q ∧ b = cid) → s.store.cmds.find? (fun x => x.q == a && x.entry.cid == b) = some x → x.entry.opcode ≠ 6 →
      (x.abortable = true → exec (.abort q cid) s = .next (complete (qIndex q) cid Status.abortedOk 0 0 0xFF
        (complete a b Status.aborted (if x.entry.opcode = 1 then x.accepted else 0) 0 0xFF s))) ∧
      (x.abortable = false → exec (.abort q cid) s = .next (complete (qIndex q) cid Status.alreadyDone 0 0 0xFF s))) ∧
    (a ≤ 3 → ¬ (a = qIndex q ∧ b = cid) → s.store.cmds.find? (fun x => x.q == a && x.entry.cid == b) = none → s.pair? a = none →
      exec (.abort q cid) s = .next (complete (qIndex q) cid Status.alreadyDone 0 0 0xFF s))))

/-- The admin commands: IDENTIFY writes the device's or the set's data (R301), GET_LOG_PAGE the part of the page that the entry names (R302),
GET_FEATURES and SET_FEATURES read and set the three features within their limits (R303), FIRMWARE_DOWNLOAD stages a piece of an image (R304).
STORE.RESET (R299): a second one is BUSY; it drops the staged image, fixes at each queue where the fetching of old entries ends, and waits.
STORE_RESET_DONE ends it when every completion has been posted. Completes: identify, getLogPage, getFeatures, setFeatures, firmwareDownload,
storeReset, storeResetDone. -/
def Obligations.AdminCommandsAndStoreReset : Prop :=
  ((∀ (s : State) (q cid : Nat) (c : StoreCmd), s.outstanding q cid 0x81 c = true → exec (.identify q cid) s = .next (complete (qIndex q) cid Status.ok 0 0 0xFF
    { s with hostMem := s.hostMem.writeBytes c.entry.buf (if c.entry.arg0 = 0 then s.identifyDevice else s.identifyMedia) })) ∧
  (∀ (s : State) (q cid : Nat) (c : StoreCmd), s.outstanding q cid 0x82 c = true → ∃ t u b, exec (.getLogPage q cid) s = .next t ∧ t = complete (qIndex q) cid Status.ok b.length 0 0xFF u ∧
    u.hostMem = s.hostMem.writeBytes c.entry.buf b ∧ (∃ n, b = ((s.logPage c.entry.arg0 n).drop c.entry.arg1).take c.entry.length) ∧ b.length ≤ c.entry.length ∧
    u = { s with hostMem := u.hostMem, sys := { s.sys with free := u.sys.free } }) ∧
  (∀ (s : State) (q cid : Nat) (c : StoreCmd), s.outstanding q cid 0x83 c = true →
    (c.entry.arg0 = 1 → exec (.getFeatures q cid) s = .next (complete (qIndex q) cid Status.ok (s.store.hostShare / 1048576) 0 0xFF s)) ∧
    (c.entry.arg0 = 3 → exec (.getFeatures q cid) s = .next (complete (qIndex q) cid Status.ok s.store.arbBurst 0 0xFF s)) ∧
    (c.entry.arg0 = 2 → s.pair? (qIndex c.entry.arg1) = none → exec (.getFeatures q cid) s = .next (complete (qIndex q) cid Status.invalidField 0 0 0x24 s)) ∧
    (∀ p, c.entry.arg0 = 2 → s.pair? (qIndex c.entry.arg1) = some p →
      exec (.getFeatures q cid) s = .next (complete (qIndex q) cid Status.ok (p.coalCount + 65536 * p.coalTime) 0 0xFF s))) ∧
  (∀ (s : State) (q cid v : Nat) (c : StoreCmd), s.outstanding q cid 0x84 c = true → v = c.entry.arg2 →
    (c.entry.arg0 = 1 → (v < 16 ∨ 1024 < v ∨ (∃ m, s.mem.plan = some m ∧ m.storePages * 4096 < 2 * v * 1048576) → exec (.setFeatures q cid) s = .next (complete (qIndex q) cid Status.invalidField 0 0 0x28 s)) ∧
      (16 ≤ v → v ≤ 1024 → (∀ m, s.mem.plan = some m → 2 * v * 1048576 ≤ m.storePages * 4096) → exec (.setFeatures q cid) s = .next (complete (qIndex q) cid Status.ok 0 0 0xFF
        { s with store := { s.store with hostShare := v * 1048576 } }))) ∧
    (c.entry.arg0 = 3 → (v = 0 ∨ 16 < v → exec (.setFeatures q cid) s = .next (complete (qIndex q) cid Status.invalidField 0 0 0x28 s)) ∧
      (v ≠ 0 → v ≤ 16 → exec (.setFeatures q cid) s = .next (complete (qIndex q) cid Status.ok 0 0 0xFF { s with store := { s.store with arbBurst := v } }))) ∧
    (∀ p n m, c.entry.arg0 = 2 → n < 256 → m ≤ 1000 → v = n + 65536 * m → s.pair? (qIndex c.entry.arg1) = some p → p.unsignalled = 0 →
      exec (.setFeatures q cid) s = .next (complete (qIndex q) cid Status.ok 0 0 0xFF
        (s.setPair (qIndex c.entry.arg1) fun p => { p with coalCount := n, coalTime := m })))) ∧
  (∀ (s : State) (q cid : Nat) (c : StoreCmd), s.outstanding q cid 0x85 c = true → exec (.firmwareDownload q cid) s = .next (complete (qIndex q) cid Status.ok c.entry.length 0 0xFF
    { s with store := { s.store with staged := s.store.staged ++ [(c.entry.arg0, s.hostRead c.entry.buf c.entry.length)] } }))) ∧
  ((∀ (s : State) (d : Nat) (c : DrawerCmd), s.accepted d 0x0903 c = true → c.endsAt 0 = true →
    (s.store.resetting.isSome = true → exec (.storeReset d) s = .next (fail d Status.busy s)) ∧
    (s.store.resetting = none → ∃ t, exec (.storeReset d) s = .next t ∧ t.store.resetting = some d ∧ t.store.staged = [] ∧
      (t.drawer d).begun = true ∧ (∀ k p, s.pair? k = some p → ∃ p', t.pair? k = some p' ∧ p'.resetTo = some p.sqTail ∧ p'.sqHead = p.sqHead) ∧ t.hostMem = s.hostMem)) ∧
  (∀ s : State, s.live = true → s.store.resetting = none ∨ s.store.cmds ≠ [] → exec .storeResetDone s = .next s) ∧
  (∀ (s : State) (d : Nat), s.live = true → s.store.resetting = some d → s.store.cmds = [] → (∀ p, some p ∈ s.store.pairs → p.held = [] ∧ ∀ x, p.resetTo = some x → p.sqHead = x) →
    ∃ t u, exec .storeResetDone s = .next t ∧ t = raise 180 0 [] none (done d [] u) ∧ u.store.resetting = none ∧
      u.store.pairs = s.store.pairs.map (fun p => p.map fun p => { p with resetTo := none, marked := [] }) ∧
      u = { s with store := { s.store with resetting := none, pairs := u.store.pairs } }))

/-! ### The media -/

/-- RECORD_ACCEPT takes a due GAP first, then the pipeline's records, then the host's (R295, R328): with nothing that waits no record joins the journal;
a GAP leaves its queue; a pipeline record of no open clip leaves its queue unwritten. RECORD_ON_MEDIUM: the earliest record whose Writes and Flushes
have completed is on the medium (R313), and with no such record nothing changes. The timers of the media: an NVMe command outstanding for 5 s is
aborted, and 1 s after an abort the controller is reset and its commands issued again, or the member fails (R312); a member with a volatile cache
and data in it gets a Flush every 4 ms (R313); a checkpoint is due 1 s after the last (R324) and a superblock 2 s after the last (R319). Completes:
recordAccept, recordOnMedium, nvmeCommandTimeout, nvmeAbortTimeout, memberFlushTimer, checkpointTimer, superblockTimer. -/
def Obligations.RecordsReachTheMedium : Prop :=
  ((∀ s : State, s.live = true → s.store.gaps = [] → s.store.incoming = [] → (∀ c ∈ s.store.cmds, c.entry.opcode ≠ 1 ∨ c.begun = false ∨ c.entry.records ≤ c.accepted) →
    exec .recordAccept s = .next (settle s)) ∧
  (∀ (s : State) (l f n k : Nat) (r : List (Nat × Nat × Nat × Nat)), s.live = true → s.store.gaps = (l, f, n, k) :: r → ∃ u, exec .recordAccept s = .next (settle u) ∧
    u.store.gaps = r ∧ u.store.incoming = s.store.incoming ∧ u.store.cmds = s.store.cmds) ∧
  (∀ (s : State) (i : Incoming) (r : List Incoming), s.live = true → s.store.gaps = [] → s.store.incoming = i :: r → (s.store.clip = none ∨ s.set? = none) →
    ∃ u, exec .recordAccept s = .next (settle u) ∧ u.store.incoming = r ∧ u.store.recs = s.store.recs ∧ u.store.gaps = []) ∧
  (∀ (s : State) (c : StoreCmd) (m : Mounted), s.live = true → s.store.gaps = [] → s.store.incoming = [] → s.set? = some m →
    s.store.cmds.find? (fun c => c.entry.opcode == 1 && c.begun && decide (c.accepted < c.entry.records)) = some c →
    s.store.hostShare < sumNat (s.store.recs.map fun r => if r.st == .accepted && r.host then r.payload.length else 0) + c.entry.recLength c.accepted →
    exec .recordAccept s = .next (settle s))) ∧
  ((∀ s : State, s.live = true → (∀ r ∈ s.store.recs, r.durable = false) → exec .recordOnMedium s = .next s) ∧
  (∀ (s : State) (r : Rec), s.live = true → s.store.recs.find? Rec.durable = some r → r.kind ≠ 6 → ∃ u, exec .recordOnMedium s = .next (settle u) ∧
    u.store.recs = s.store.recs.map (fun q => if q.seq = r.seq ∧ q.st = .accepted then { q with st := .onMedium } else q) ∧ (r.kind ≠ 5 → u.hostMem = s.hostMem) ∧ u.drawers = s.drawers) ∧
  (∀ (s : State) (r : Rec), s.live = true → s.store.recs.find? Rec.durable = some r → r.kind = 6 → ∃ u, exec .recordOnMedium s = .next (settle u) ∧
    (s.store.mounted = none → ∀ q ∈ u.store.recs, q.trimmed ≠ some r.seq) ∧ u.hostMem = s.hostMem ∧ u.drawers = s.drawers)) ∧
  ((∀ (s : State) (m n : Nat), s.live = true → ∃ t, exec (.nvmeCommandTimeout m n) s = .next t ∧
    (at! t.store.members m).cmds = (at! s.store.members m).cmds.map (fun c =>
      if c.id = n ∧ c.aborted = none ∧ c.since + 5000000000 ≤ s.now then { c with aborted := some s.now } else c) ∧
    (∀ k, k ≠ m → at! t.store.members k = at! s.store.members k) ∧ t = { s with store := { s.store with members := t.store.members } }) ∧
  (∀ (s : State) (m n : Nat) (b : Bool), s.live = true →
    ((∀ c ∈ (at! s.store.members m).cmds, c.id = n → ∀ t, c.aborted = some t → s.now < t + 1000000000) → exec (.nvmeAbortTimeout m n b) s = .next s) ∧
    (∀ c t, c ∈ (at! s.store.members m).cmds → c.id = n → c.aborted = some t → t + 1000000000 ≤ s.now →
      (2 ≤ ((at! s.store.members m).resets.filter fun t => decide (s.now < t + 60000000000)).length → exec (.nvmeAbortTimeout m n b) s = .next (failMember m s)) ∧
      (((at! s.store.members m).resets.filter fun t => decide (s.now < t + 60000000000)).length < 2 → ∃ u, exec (.nvmeAbortTimeout m n b) s = .next (if b = true then u else failMember m u) ∧
        (∀ x ∈ (at! u.store.members m).cmds, x.aborted = none ∧ x.since = s.now) ∧ (at! u.store.members m).cmds.length = (at! s.store.members m).cmds.length ∧
        (∀ k, k ≠ m → at! u.store.members k = at! s.store.members k)))) ∧
  (∀ (s : State) (m : Nat), s.live = true →
    ((at! s.store.members m).st ≠ .ready ∨ (at! s.store.members m).ident.writeCache = false ∨ (at! s.store.members m).dirty = false ∨
        s.now < (at! s.store.members m).lastFlush + ms 4 → exec (.memberFlushTimer m) s = .next s) ∧
    ((at! s.store.members m).st = .ready → (at! s.store.members m).ident.writeCache = true → (at! s.store.members m).dirty = true →
      (at! s.store.members m).lastFlush + ms 4 ≤ s.now → (∀ c ∈ (at! s.store.members m).cmds, c.kind ≠ .flush) → m < s.store.members.length →
      ∃ t x, exec (.memberFlushTimer m) s = .next t ∧ (at! t.store.members m).cmds = (at! s.store.members m).cmds ++ [x] ∧ x.kind = .flush ∧ x.since = s.now ∧
        (at! t.store.members m).lastFlush = s.now ∧ (at! t.store.members m).dirty = false ∧ t = { s with store := { s.store with members := t.store.members } })) ∧
  (∀ s : State, s.live = true → s.set? = none → exec .checkpointTimer s = .next s ∧ exec .superblockTimer s = .next s) ∧
  (∀ (s : State) (m : Mounted), s.live = true → s.set? = some m →
    (m.dirtyCkpt = false ∨ s.now < m.lastCkpt + 1000000000 → exec .checkpointTimer s = .next s) ∧
    (m.dirtyCkpt = true → m.lastCkpt + 1000000000 ≤ s.now → exec .checkpointTimer s = .next (settle (checkpoint s))) ∧
    (m.dirtySuper = false ∨ s.now < m.lastSuper + 2000000000 → exec .superblockTimer s = .next s) ∧
    (m.dirtySuper = true → m.superStep = none → m.superDue = none → m.lastSuper + 2000000000 ≤ s.now → exec .superblockTimer s = .next (settle
      { s with store := { s.store with mounted := some { m with superDue := some m.ckptOn.1 } } }))))

/-- STORE.FORM_SET (R315): in Maintenance mode, with a Production key, it deallocates the members' data areas and waits; a slot that holds no such key
is NOT_PERMITTED, and a mounted set is BUSY. STORE.MOUNT (R336) with a set mounted is BUSY, with no superblock INTEGRITY. STORE.UNMOUNT (R326) with
a clip open or no set is NOT_PERMITTED. STORE.CLIP_START (R326, R332, R333): in Service mode and P0 with a Production key it opens a clip under the
next clip number, with its own new key; one clip at a time. STORE.CLIP_CLOSE closes it after its last frame (R326, R330); STORE.GET_CLIP answers a
clip's entry; STORE.PLAY needs the clip's key and an Open decode context that plays clips (R341). Completes: storeFormSet, storeMount, storeUnmount,
storeClipStart, storeClipClose, storeGetClip, storePlay. -/
def Obligations.SetsAndClips : Prop :=
  ((∀ (s : State) (d : Nat) (c : DrawerCmd), s.accepted d 0x0904 c = true → c.endsAt 12 = true → c.w 0 ≠ 0 → c.w 0 ≤ 15 → (∀ p ∈ maskBits 4 (c.w 0), s.memberReady p = true) →
    c.w 4 ≤ 1 → (c.w 4 = 1 → c.w 0 = 15) → c.w 8 ≤ 63 →
    (at! s.sec.slots (c.w 8) = none → exec (.storeFormSet d) s = .next (fail d Status.notPermitted s)) ∧
    (∀ k, at! s.sec.slots (c.w 8) = some k →
      (s.sys.service = true ∨ s.sec.debugOpen = true ∨ bit k.usage 0 = false → exec (.storeFormSet d) s = .next (fail d Status.notPermitted s)) ∧
      (s.sys.service = false → s.sec.debugOpen = false → bit k.usage 0 = true →
        (s.sec.entropyBad = true ∨ s.store.mounted.isSome = true → exec (.storeFormSet d) s = .next (fail d Status.busy s)) ∧
        (s.sec.entropyBad = false → s.store.mounted = none → ∃ t m, exec (.storeFormSet d) s = .next t ∧ t.store.mounted = some m ∧ m.phase = .forming ∧ m.drawer = some d ∧
          m.super.ports = maskBits 4 (c.w 0) ∧ m.super.parity = (c.w 4 == 1) ∧ m.super.hostKeyId = k.id ∧ 1 ≤ m.super.setId ∧ m.super.setId ≤ 2 ^ 32 - 1 ∧ t.store.recs = [] ∧
          (t.drawer d).begun = true ∧ (∀ p ∈ maskBits 4 (c.w 0), p < s.store.members.length → ∃ x ∈ (at! t.store.members p).cmds, x.kind = .deallocate))))) ∧
  (∀ (s : State) (d : Nat) (c : DrawerCmd), s.accepted d 0x0905 c = true → c.endsAt 0 = true →
    (s.store.mounted.isSome = true → exec (.storeMount d) s = .next (fail d Status.busy s)) ∧
    (s.store.mounted = none → s.store.super = none → exec (.storeMount d) s = .next (fail d Status.integrity (s.begin d))) ∧
    (∀ x cp, s.store.mounted = none → s.store.super = some x → (∀ n ∈ x.serials, ∃ p, p < 4 ∧ s.memberReady p = true ∧ (at! s.store.members p).ident.serial = n) →
      s.store.recs.find? (fun r => r.seq == x.ckptSeq && r.kind == 8 && r.counts x.setId) = some cp → ∃ t, exec (.storeMount d) s = .next (settle t) ∧
        ∃ m, t.store.mounted = some m ∧ m.phase = .mounting ∧ m.drawer = some d ∧ m.degraded = false)) ∧
  (∀ (s : State) (d : Nat) (c : DrawerCmd), s.accepted d 0x0906 c = true → c.endsAt 0 = true →
    (s.store.clip.isSome = true ∨ s.set? = none → exec (.storeUnmount d) s = .next (fail d Status.notPermitted s)) ∧
    (∀ m, s.store.clip = none → s.set? = some m →
      ((∃ x ∈ s.store.cmds, x.q < 4 ∧ x.entry.opcode < 5) → exec (.storeUnmount d) s = .next (fail d Status.busy s)) ∧
      ((∀ x ∈ s.store.cmds, 4 ≤ x.q ∨ 5 ≤ x.entry.opcode) → ∃ u, exec (.storeUnmount d) s = .next (settle u) ∧
        u.store.mounted = some { m with phase := .unmounting, drawer := some d, report := [] } ∧ (u.drawer d).begun = true ∧
        u = { s with store := { s.store with mounted := u.store.mounted }, drawers := u.drawers })))) ∧
  ((∀ (s : State) (d : Nat) (c : DrawerCmd), s.accepted d 0x0907 c = true → c.endsAt 12 = true → c.w 0 ≤ s.larderFrames.length → c.w 4 < 1024 → bit (c.w 4) 8 = false → c.w 8 ≤ 63 →
    (s.set? = none ∨ at! s.sec.slots (c.w 8) = none → exec (.storeClipStart d) s = .next (fail d Status.notPermitted s)) ∧
    (∀ m k, s.set? = some m → at! s.sec.slots (c.w 8) = some k →
      (s.sys.service = false ∨ s.sys.pstate ≠ 0 ∨ s.sec.debugOpen = true ∨ bit k.usage 0 = false → exec (.storeClipStart d) s = .next (fail d Status.notPermitted s)) ∧
      (s.sys.service = true → s.sys.pstate = 0 → s.sec.debugOpen = false → bit k.usage 0 = true →
        (s.store.clip.isSome = true ∨ s.activating = true ∨ s.entering = true ∨ s.sec.entropyBad = true → exec (.storeClipStart d) s = .next (fail d Status.busy s)) ∧
        (s.store.clip = none → s.activating = false → s.entering = false → s.sec.entropyBad = false → ∃ u x, exec (.storeClipStart d) s = .next (settle u) ∧
          u.store.clip = some x ∧ x.num = m.nextClip ∧ x.slot = c.w 8 ∧ x.keyId = k.id ∧ x.closing = false ∧ (u.workKey? 0 0).isSome = true ∧ (u.drawer d).st ≠ .busy)))) ∧
  (∀ (s : State) (d : Nat) (c : DrawerCmd), s.accepted d 0x0908 c = true → c.endsAt 0 = true →
    (s.store.clip = none → exec (.storeClipClose d) s = .next (fail d Status.notPermitted s)) ∧
    (∀ k, s.store.clip = some k → k.drawer.isSome = true → exec (.storeClipClose d) s = .next (fail d Status.busy s)) ∧
    (∀ k, s.store.clip = some k → k.drawer = none → ∃ u x, exec (.storeClipClose d) s = .next (settle u) ∧ u.store.clip = some x ∧ x.closing = true ∧ x.drawer = some d ∧
      x.num = k.num ∧ (u.drawer d).begun = true ∧ (k.closing = true → x.lastFrame = k.lastFrame) ∧
      (k.closing = false → k.live = true → x.lastFrame = wrap 32 ((at! s.sensors k.lead).nextFrame + 2 ^ 32 - 1)))) ∧
  (∀ (s : State) (d : Nat) (c : DrawerCmd), s.accepted d 0x0909 c = true → c.endsAt 4 = true →
    ((∀ m, s.store.mounted = some m → ∀ x ∈ m.clips, x.1 ≠ c.w 0) → exec (.storeGetClip d) s = .next (invalid d 0 s)) ∧
    (∀ m n a b e f, s.store.mounted = some m → m.clips.find? (·.1 == c.w 0) = some (n, a, b, e, f) → ∃ r, exec (.storeGetClip d) s = .next
      (done d (le 4 n ++ le 4 a ++ le 8 b ++ le 8 e ++ le 8 f ++ r) s))) ∧
  (∀ (s : State) (d i : Nat) (c : DrawerCmd) (m : Mounted) (r : Rec), s.accepted d 0x090A c = true → c.endsAt 20 = true → s.set? = some m → m.clips.any (·.1 == c.w 0) = true →
    c.w 4 ≤ 7 → s.findRec (c.w 0) (c.w 4) (c.w 8) = some r → c.w 12 ≤ 1 → c.w 16 ≤ 31 → i = 32 * c.w 12 + c.w 16 →
    (s.playKey (c.w 0) = none ∨ (s.ctx i).st ≠ .openSt ∨ (s.ctx i).entry.decode = false ∨ (s.ctx i).entry.inClip = false →
      exec (.storePlay d) s = .next (fail d Status.notPermitted s)) ∧
    (∀ k n, s.playKey (c.w 0) = some (k, n) → (s.ctx i).st = .openSt → (s.ctx i).entry.decode = true → (s.ctx i).entry.inClip = true →
      ((∃ p ∈ s.store.plays, p.ctx = i) → exec (.storePlay d) s = .next (fail d Status.busy s)) ∧
      ((∀ p ∈ s.store.plays, p.ctx ≠ i) → exec (.storePlay d) s = .next (playNext 4096 i (done d [] (holdKey 2 i k (some n)
        { s with store := { s.store with plays := s.store.plays ++ [{ clip := c.w 0, stream := c.w 4, index := c.w 8, ctx := i }] } })))))))

/-- FIRMWARE_COMMIT (R305, R306): an image that fails its checks changes no slot; a good one commits its slot, and with an activation waits for the
handover. FIRMWARE_SERVES within the hold time ends the activation, and after it ACTIVATION_HOLD_EXPIRY goes back to the firmware that ran before
(R306, R520). Completes: firmwareCommit, activationHoldExpiry, firmwareServes. -/
def Obligations.FirmwareIsCommittedAndActivated : Prop :=
  (∀ (s : State) (q cid a n : Nat) (c : StoreCmd), s.outstanding q cid 0x86 c = true → a = c.entry.arg0 % 4 → n = c.entry.arg0 / 4 →
    ((s.sys.bootSel = true ∧ a ≠ 1) ∨ (a ≠ 2 ∧ s.sys.image.any (·.slot == n) = true) ∨ (a ≠ 0 ∧ s.store.clip.isSome = true) →
      exec (.firmwareCommit q cid) s = .next (complete (qIndex q) cid Status.notPermitted 0 0 0xFF s)) ∧
    ((s.sys.bootSel = true → a = 1) → (a ≠ 2 → s.sys.image.any (·.slot == n) = false) → (a ≠ 0 → s.store.clip = none) →
      (a ≠ 2 → s.imageCheck s.stagedImage ≠ 0 → exec (.firmwareCommit q cid) s = .next (complete (qIndex q) cid
        (if s.imageCheck s.stagedImage = 1 then Status.integrity else Status.notPermitted) 0 0 0xFF (raise 262 0 [] none s))) ∧
      (a = 0 → s.imageCheck s.stagedImage = 0 → ∃ u, exec (.firmwareCommit q cid) s = .next (complete (qIndex q) cid Status.ok (fieldLe s.imageBytes 8 2) 0 0xFF u) ∧
        u.sys.flash.slots = s.sys.flash.slots.set n s.stagedImage ∧ u.store.staged = [] ∧ u.sys.image = s.sys.image) ∧
      (a ≠ 0 → a = 2 ∨ s.imageCheck s.stagedImage = 0 → s.sys.stage ≠ 0 → ∃ u x, exec (.firmwareCommit q cid) s = .next (settle u) ∧ u.store.activation = some x ∧ x.cid = cid ∧
        x.slot = n ∧ x.handover = none ∧ u.sys.flash.slots = (if a = 2 then s.sys.flash.slots else s.sys.flash.slots.set n s.stagedImage)) ∧
      (a ≠ 0 → a = 2 ∨ s.imageCheck s.stagedImage = 0 → s.sys.stage = 0 → ∃ t, exec (.firmwareCommit q cid) s = .next t ∧ t.sys.bootCommit = some (cid, n) ∧
        t.sys.loading = some { bytes := t.sys.flash.slots.getD n [], slot := n } ∧
        t.sys.flash.slots = (if a = 2 then s.sys.flash.slots else s.sys.flash.slots.set n s.stagedImage)))) ∧
  (∀ s : State, s.live = true → s.store.activation = none ∨ (∃ a, s.store.activation = some a ∧ a.handover = none) →
    exec .firmwareServes s = .next s ∧ exec .activationHoldExpiry s = .next s) ∧
  (∀ (s : State) (a : Activation) (t : Nat), s.live = true → s.store.activation = some a → a.handover = some t →
    (t + 2000000000 ≤ s.now → exec .firmwareServes s = .next s ∧ ∃ u, exec .activationHoldExpiry s = .next u ∧ u.store.activation = none ∧ u.sys.handover = false ∧
      u.sys.image = s.sys.image ∧ u.sys.safeCause = 5 ∧ (∀ d, (s.drawer d).st = .busy → (s.drawer d).begun = false → (u.drawer d).st ≠ .busy)) ∧
    (s.now < t + 2000000000 → exec .activationHoldExpiry s = .next s ∧ ∃ u, exec .firmwareServes s = .next u ∧ u.store.activation = none ∧ u.sys.handover = false ∧
      u.sys.image = some { bytes := s.sys.flash.slots.getD a.slot [], slot := a.slot } ∧ u.sys.rollbackDue = true))

/-- Every command that a Drawer carries runs, whatever its payload: when the Drawer has accepted it and it has not begun, the step answers a next state in which
the Drawer is no longer Busy, since the result has been posted, or the command has begun and waits for its end (R433, R435). It names the 104 Drawer
commands; the effect of each is stated with its family. -/
def Obligations.EveryDrawerCommandIsAnsweredOrBegins : Prop :=
  ∀ (s : State) (d op : Nat) (v : Bool) (img : PlanImage) (i : Instr) (c : DrawerCmd), (i, op) ∈ drawerCmds d v img → s.accepted d op c = true →
    ∃ t, exec i s = .next t ∧ ((t.drawer d).st ≠ .busy ∨ (t.drawer d).begun = true)

/-! ### Invariants of every step -/

/-- Every step takes the command at the front of the queue and no other, keeps the rest well formed, and keeps host memory in its canonical form; an
empty queue stays empty. -/
def Obligations.EveryStepKeepsQueueAndHostMemory : Prop :=
  ∀ s t : State, s.hostMem.wf = true → s.queueWf = true → step s = .next t → t.pending = s.pending.tail ∧ t.queueWf = true ∧ t.hostMem.wf = true

/-- Every step keeps STAGE within 0 to 2 and PSTATE within 0 to 3, with no power-state entry or command that names a state above P3. -/
def Obligations.EveryStepKeepsBootAndPowerLegal : Prop :=
  ∀ s t : State, s.legal = true → step s = .next t → t.legal = true

/-- Every step keeps the sizes of the device's tables. -/
def Obligations.EveryStepKeepsTheTableSizes : Prop :=
  ∀ s t : State, s.sized = true → step s = .next t → t.sized = true
end

