-- ==== Sys2Proof/Laws/Mem.lean ====
section
/-! SUPPORT. Laws of sparse memories: canonical form, read after write, and untouched addresses. -/

namespace Sys2Proof.Machine

open Sys2Proof

section
variable {α : Type} [DecidableEq α] (d : Nat → α)

theorem Sparse.wfFrom_mono {l : List (Nat × α)} {lo lo' : Nat} (h : Sparse.wfFrom d lo l = true) (hl : lo' ≤ lo) :
    Sparse.wfFrom d lo' l = true := by
  cases l with
  | nil => rfl
  | cons x r =>
    simp only [Sparse.wfFrom, Bool.and_eq_true, decide_eq_true_eq] at h ⊢
    exact ⟨⟨Nat.le_trans hl h.1.1, h.1.2⟩, h.2⟩

/-- An address below every listed one reads as unlisted. -/
theorem Sparse.get_below {l : List (Nat × α)} {lo a : Nat} (h : Sparse.wfFrom d lo l = true) (ha : a < lo) :
    Sparse.get d l a = d a := by
  cases l with
  | nil => rfl
  | cons x r =>
    simp only [Sparse.wfFrom, Bool.and_eq_true, decide_eq_true_eq] at h
    have h1 : a < x.1 := Nat.lt_of_lt_of_le ha h.1.1
    have h2 : a ≠ x.1 := by omega
    simp [Sparse.get, h1, h2]

/-- A write keeps the canonical form. -/
theorem Sparse.wfFrom_set (l : List (Nat × α)) (lo a : Nat) (v : α) (h : Sparse.wfFrom d lo l = true) (ha : lo ≤ a) :
    Sparse.wfFrom d lo (Sparse.set d l a v) = true := by
  induction l generalizing lo with
  | nil =>
    unfold Sparse.set
    split
    · rfl
    · simp_all [Sparse.wfFrom]
  | cons x r ih =>
    have h' := h
    simp only [Sparse.wfFrom, Bool.and_eq_true, decide_eq_true_eq] at h
    obtain ⟨⟨h1, h2⟩, h3⟩ := h
    unfold Sparse.set
    split
    · rename_i e
      split
      · exact Sparse.wfFrom_mono d h3 (by omega)
      · simp_all [Sparse.wfFrom]
    · split
      · split
        · exact h'
        · simp only [Sparse.wfFrom, Bool.and_eq_true, decide_eq_true_eq]
          simp_all
          try omega
      · simp only [Sparse.wfFrom, Bool.and_eq_true, decide_eq_true_eq]
        exact ⟨⟨h1, h2⟩, ih (x.1 + 1) h3 (by omega)⟩

/-- An address reads what was written there. -/
theorem Sparse.get_set_same (l : List (Nat × α)) (lo a : Nat) (v : α) (h : Sparse.wfFrom d lo l = true) :
    Sparse.get d (Sparse.set d l a v) a = v := by
  induction l generalizing lo with
  | nil =>
    unfold Sparse.set
    split <;> simp_all [Sparse.get]
  | cons x r ih =>
    simp only [Sparse.wfFrom, Bool.and_eq_true, decide_eq_true_eq] at h
    obtain ⟨⟨h1, h2⟩, h3⟩ := h
    unfold Sparse.set
    split
    · split
      · have := Sparse.get_below d h3 (a := a) (by omega)
        simp_all
      · simp [Sparse.get]
    · split
      · split
        · simp_all [Sparse.get]
        · simp [Sparse.get]
      · rename_i n1 n2
        simp [Sparse.get, n1, n2, ih (x.1 + 1) h3]

/-- Every other address reads as before. -/
theorem Sparse.get_set_other (l : List (Nat × α)) (lo a b : Nat) (v : α) (h : Sparse.wfFrom d lo l = true) (hb : b ≠ a) :
    Sparse.get d (Sparse.set d l a v) b = Sparse.get d l b := by
  induction l generalizing lo with
  | nil =>
    unfold Sparse.set
    split
    · rfl
    · simp [Sparse.get, hb]
  | cons x r ih =>
    simp only [Sparse.wfFrom, Bool.and_eq_true, decide_eq_true_eq] at h
    obtain ⟨⟨h1, h2⟩, h3⟩ := h
    unfold Sparse.set
    split
    · rename_i e
      split
      · have e' : b ≠ x.1 := by omega
        by_cases hlt : b < x.1
        · have := Sparse.get_below d h3 (a := b) (by omega)
          simp [Sparse.get, e', hlt, this]
        · simp [Sparse.get, e', hlt]
      · simp [Sparse.get, ← e, hb]
    · split
      · split
        · rfl
        · rename_i n1 n2 n3
          by_cases hlt : b < a
          · have e1 : b ≠ x.1 := by omega
            have e2 : b < x.1 := by omega
            simp [Sparse.get, hb, hlt, e1, e2]
          · simp [Sparse.get, hb, hlt]
      · simp only [Sparse.get, ih (x.1 + 1) h3]

end

theorem Memory.wf_write (m : Memory) (a : Nat) (b : Byte) (h : m.wf = true) : (m.write a b).wf = true :=
  Sparse.wfFrom_set _ m 0 a b h (Nat.zero_le a)

theorem Memory.read_write_same (m : Memory) (a : Nat) (b : Byte) (h : m.wf = true) : (m.write a b).read a = b :=
  Sparse.get_set_same _ m 0 a b h

theorem Memory.read_write_other (m : Memory) (a x : Nat) (b : Byte) (h : m.wf = true) (hx : x ≠ a) :
    (m.write a b).read x = m.read x :=
  Sparse.get_set_other _ m 0 a x b h hx

/-- Writing bytes keeps the canonical form. -/
theorem Memory.wf_writeBytes (m : Memory) (a : Nat) (bs : Bytes) (h : m.wf = true) : (m.writeBytes a bs).wf = true := by
  induction bs generalizing m a with
  | nil => exact h
  | cons b bs ih => exact ih (m.write a b) (a + 1) (Memory.wf_write m a b h)

/-- Bytes outside those written read as before. -/
theorem Memory.read_writeBytes_other (m : Memory) (a x : Nat) (bs : Bytes) (h : m.wf = true) (hx : x < a ∨ a + bs.length ≤ x) :
    (m.writeBytes a bs).read x = m.read x := by
  induction bs generalizing m a with
  | nil => rfl
  | cons b bs ih =>
    simp only [List.length_cons] at hx
    unfold Memory.writeBytes
    rw [ih (m.write a b) (a + 1) (Memory.wf_write m a b h) (by omega)]
    exact Memory.read_write_other m a x b h (by omega)

end Sys2Proof.Machine
end

