-- ==== Sys2Proof/Laws/Ops.lean ====
section
/-! SUPPORT. What the shared operations do, said once: provers cite these lemmas instead of unfolding the operations. -/

namespace Sys2Proof.Machine

open Sys2Proof

/-! ### Running core -/

theorem whenLive_live {s : State} (f : State → State) (h : s.live = true) : whenLive s f = .next (f s) := by
  simp [whenLive, h]

theorem whenLive_held {s : State} (f : State → State) (h : s.live = false) : whenLive s f = .next s := by
  simp [whenLive, h]

/-- `whenLive` always answers a next state: the meaning's, or the state itself. -/
theorem whenLive_cases (s : State) (f : State → State) : whenLive s f = .next (f s) ∨ whenLive s f = .next s := by
  unfold whenLive
  split
  · exact .inl rfl
  · exact .inr rfl

/-! ### Indexed tables -/

@[simp] theorem upd_length {α : Type} (l : List α) (i : Nat) (f : α → α) : (upd l i f).length = l.length := by
  simp [upd]

theorem at!_upd_same {α : Type} [Inhabited α] {l : List α} {i : Nat} (f : α → α) (h : i < l.length) :
    at! (upd l i f) i = f (at! l i) := by
  simp [upd, at!, h, List.getD_eq_getElem?_getD]

theorem at!_upd_other {α : Type} [Inhabited α] (l : List α) {i k : Nat} (f : α → α) (h : k ≠ i) :
    at! (upd l i f) k = at! l k := by
  simp [upd, at!, List.getD_eq_getElem?_getD, Ne.symm h]

/-- An entry past the end of a table reads as the default. -/
theorem at!_past {α : Type} [Inhabited α] {l : List α} {i : Nat} (h : l.length ≤ i) : at! l i = default := by
  simp [at!, List.getD_eq_getElem?_getD, h]

theorem at!_mem {α : Type} [Inhabited α] {l : List α} {i : Nat} (h : i < l.length) : at! l i ∈ l := by
  simp [at!, List.getD_eq_getElem?_getD, h]

/-! ### Drawer commands -/

theorem accepted_live {s : State} {d op : Nat} {c : DrawerCmd} (h : s.accepted d op c = true) : s.live = true := by
  simp [State.accepted] at h
  exact h.1.1.1.1.1

theorem accepted_busy {s : State} {d op : Nat} {c : DrawerCmd} (h : s.accepted d op c = true) : (s.drawer d).st = .busy := by
  simp [State.accepted] at h
  exact h.1.1.1.1.2

theorem accepted_cmd {s : State} {d op : Nat} {c : DrawerCmd} (h : s.accepted d op c = true) : (s.drawer d).cmd = c := by
  simp [State.accepted] at h
  exact h.1.1.2

/-- An accepted command runs. -/
theorem drawerCmd_accepted {s : State} {d op : Nat} {c : DrawerCmd} (f : DrawerCmd → State) (h : s.accepted d op c = true) :
    drawerCmd d op s f = f c := by
  simp [State.accepted] at h
  obtain ⟨⟨⟨⟨⟨_, h1⟩, h2⟩, h3⟩, h4⟩, h5⟩ := h
  simp [drawerCmd, h1, h2, h3, h4, h5]

/-- `drawerCmd` runs the command or leaves the state. -/
theorem drawerCmd_cases (d op : Nat) (s : State) (f : DrawerCmd → State) :
    drawerCmd d op s f = f (s.drawer d).cmd ∨ drawerCmd d op s f = s := by
  unfold drawerCmd
  simp only []
  split
  · exact .inl rfl
  · exact .inr rfl

theorem begunCmd_cases (d op : Nat) (s : State) (f : DrawerCmd → State) :
    begunCmd d op s f = f (s.drawer d).cmd ∨ begunCmd d op s f = s := by
  unfold begunCmd
  simp only []
  split
  · exact .inl rfl
  · exact .inr rfl

/-- A payload that passes check 6 of R547. -/
theorem firstBad_none {c : DrawerCmd} {n : Nat} {l : List (Bool × Nat)} (h : c.endsAt n = true) (hl : l.find? (·.1) = none) :
    firstBad c n l = none := by
  simp only [firstBad, hl]
  simpa [DrawerCmd.endsAt] using h

theorem checked_none {d : Nat} {c : DrawerCmd} {n : Nat} {l : List (Bool × Nat)} {s : State} (f : State → State)
    (h : c.endsAt n = true) (hl : l.find? (·.1) = none) : checked d c n l s f = f s := by
  simp [checked, firstBad_none h hl]

/-- `checked` answers INVALID_FIELD at one byte, or goes on. -/
theorem checked_cases (d : Nat) (c : DrawerCmd) (n : Nat) (l : List (Bool × Nat)) (s : State) (f : State → State) :
    checked d c n l s f = f s ∨ ∃ o, checked d c n l s f = invalid d o s := by
  unfold checked
  split
  · exact .inr ⟨_, rfl⟩
  · exact .inl rfl

theorem withDest_cases (d : Nat) (b : Nat × Nat) (need : Nat) (s : State) (f : State → State) :
    withDest d b need s f = f s ∨ ∃ k, withDest d b need s f = fail d k s := by
  unfold withDest
  split
  · split
    · exact .inr ⟨_, rfl⟩
    · exact .inl rfl
  · exact .inr ⟨_, rfl⟩

/-- A Drawer that is not Free has an entry in the table. -/
theorem drawer_lt {s : State} {d : Nat} (h : (s.drawer d).st ≠ .free) : d < s.drawers.length := by
  rcases Nat.lt_or_ge d s.drawers.length with h' | h'
  · exact h'
  · exact absurd (by simp [State.drawer, at!, List.getD_eq_getElem?_getD, List.getElem?_eq_none h']; rfl) h

theorem drawer_setDrawer_same {s : State} {d : Nat} (f : Drawer → Drawer) (h : d < s.drawers.length) :
    (s.setDrawer d f).drawer d = f (s.drawer d) := by
  simp [State.setDrawer, State.drawer, at!, upd, h, List.getD_eq_getElem?_getD]

theorem drawer_setDrawer_other (s : State) {d k : Nat} (f : Drawer → Drawer) (h : k ≠ d) :
    (s.setDrawer d f).drawer k = s.drawer k := by
  simp [State.setDrawer, State.drawer, at!, upd, List.getD_eq_getElem?_getD, Ne.symm h]

/-- A mask with one bit names that bit. -/
theorem maskBits_two_pow {n d : Nat} (h : d < n) : maskBits n (2 ^ d) = [d] := by
  unfold maskBits
  have hb : ∀ i, bit (2 ^ d) i = decide (i = d) := by
    intro i
    unfold bit
    rcases Nat.lt_trichotomy i d with hi | hi | hi
    · obtain ⟨k, rfl⟩ := Nat.exists_eq_add_of_lt hi
      have : 2 ^ (i + k + 1) / 2 ^ i = 2 * 2 ^ k := by
        rw [show i + k + 1 = i + (k + 1) by omega, Nat.pow_add, Nat.mul_div_cancel_left _ (Nat.two_pow_pos i)]
        omega
      have e : ¬ i = i + k + 1 := by omega
      simp [this, e]
    · subst hi; simp [Nat.div_self (Nat.two_pow_pos i)]
    · have e : ¬ i = d := by omega
      simp [Nat.div_eq_of_lt (Nat.pow_lt_pow_right (by omega : 1 < 2) hi), e]
  simp only [hb]
  induction n with
  | zero => omega
  | succ n ih =>
    rw [List.range_succ, List.filter_append]
    rcases Nat.lt_or_ge d n with hd | hd
    · have e : ¬ n = d := by omega
      simp [ih hd, e]
    · have e : n = d := by omega
      subst e
      have : (List.range n).filter (fun i => decide (i = n)) = [] := by
        simp; omega
      simp [this]

/-! ### Events -/

/-- Raising an event changes only the event state and host memory. -/
theorem raise_frame (n i : Nat) (args : List Nat) (tk : Option Ticket) (s : State) :
    raise n i args tk s = { s with ev := (raise n i args tk s).ev, hostMem := (raise n i args tk s).hostMem } := by
  unfold raise
  simp only []
  repeat' split
  all_goals rfl

theorem raise_masked {n i : Nat} {args : List Nat} {tk : Option Ticket} {s : State} (h : s.sys.stage = 0 ∨ s.ev.isMasked n = true) :
    raise n i args tk s = s := by
  simp [raise, h]

@[simp] theorem raise_drawers (n i : Nat) (args : List Nat) (tk : Option Ticket) (s : State) : (raise n i args tk s).drawers = s.drawers := by
  rw [raise_frame]
@[simp] theorem raise_drawer (n i : Nat) (args : List Nat) (tk : Option Ticket) (s : State) (d : Nat) :
    (raise n i args tk s).drawer d = s.drawer d := by
  simp [State.drawer]
@[simp] theorem raise_time (n i : Nat) (args : List Nat) (tk : Option Ticket) (s : State) : (raise n i args tk s).time = s.time := by
  rw [raise_frame]
@[simp] theorem raise_sys (n i : Nat) (args : List Nat) (tk : Option Ticket) (s : State) : (raise n i args tk s).sys = s.sys := by
  rw [raise_frame]
@[simp] theorem raise_sec (n i : Nat) (args : List Nat) (tk : Option Ticket) (s : State) : (raise n i args tk s).sec = s.sec := by
  rw [raise_frame]
@[simp] theorem raise_mem (n i : Nat) (args : List Nat) (tk : Option Ticket) (s : State) : (raise n i args tk s).mem = s.mem := by
  rw [raise_frame]
@[simp] theorem raise_store (n i : Nat) (args : List Nat) (tk : Option Ticket) (s : State) : (raise n i args tk s).store = s.store := by
  rw [raise_frame]
@[simp] theorem raise_sensors (n i : Nat) (args : List Nat) (tk : Option Ticket) (s : State) : (raise n i args tk s).sensors = s.sensors := by
  rw [raise_frame]
@[simp] theorem raise_ports (n i : Nat) (args : List Nat) (tk : Option Ticket) (s : State) : (raise n i args tk s).ports = s.ports := by
  rw [raise_frame]
@[simp] theorem raise_table (n i : Nat) (args : List Nat) (tk : Option Ticket) (s : State) : (raise n i args tk s).table = s.table := by
  rw [raise_frame]
@[simp] theorem raise_shelves (n i : Nat) (args : List Nat) (tk : Option Ticket) (s : State) : (raise n i args tk s).shelves = s.shelves := by
  rw [raise_frame]
@[simp] theorem raise_units (n i : Nat) (args : List Nat) (tk : Option Ticket) (s : State) : (raise n i args tk s).units = s.units := by
  rw [raise_frame]
@[simp] theorem raise_sdi (n i : Nat) (args : List Nat) (tk : Option Ticket) (s : State) : (raise n i args tk s).sdi = s.sdi := by
  rw [raise_frame]
@[simp] theorem raise_disp (n i : Nat) (args : List Nat) (tk : Option Ticket) (s : State) : (raise n i args tk s).disp = s.disp := by
  rw [raise_frame]
@[simp] theorem raise_ctxs (n i : Nat) (args : List Nat) (tk : Option Ticket) (s : State) : (raise n i args tk s).ctxs = s.ctxs := by
  rw [raise_frame]
@[simp] theorem raise_engines (n i : Nat) (args : List Nat) (tk : Option Ticket) (s : State) : (raise n i args tk s).engines = s.engines := by
  rw [raise_frame]
@[simp] theorem raise_rend (n i : Nat) (args : List Nat) (tk : Option Ticket) (s : State) : (raise n i args tk s).rend = s.rend := by
  rw [raise_frame]
@[simp] theorem raise_audio (n i : Nat) (args : List Nat) (tk : Option Ticket) (s : State) : (raise n i args tk s).audio = s.audio := by
  rw [raise_frame]
@[simp] theorem raise_net (n i : Nat) (args : List Nat) (tk : Option Ticket) (s : State) : (raise n i args tk s).net = s.net := by
  rw [raise_frame]
@[simp] theorem raise_bufs (n i : Nat) (args : List Nat) (tk : Option Ticket) (s : State) : (raise n i args tk s).bufs = s.bufs := by
  rw [raise_frame]
@[simp] theorem raise_pending (n i : Nat) (args : List Nat) (tk : Option Ticket) (s : State) : (raise n i args tk s).pending = s.pending := by
  rw [raise_frame]

/-- An event with a limited rate changes only the event state and host memory. -/
theorem raiseLimitedBy_frame (span k n src i : Nat) (args : Nat → List Nat) (s : State) :
    raiseLimitedBy span k n src i args s =
      { s with ev := (raiseLimitedBy span k n src i args s).ev, hostMem := (raiseLimitedBy span k n src i args s).hostMem } := by
  unfold raiseLimitedBy
  simp only []
  split
  · split
    · rw [raise_frame]
    · rfl
  · split
    · rw [raise_frame]
    · rfl

/-! ### Results -/

/-- A result changes only the Drawers, the keys of ended sessions, the remote reply, the events and host memory. -/
theorem postResult_frame (d st det : Nat) (pl : Bytes) (s : State) :
    postResult d st det pl s =
      { s with
        drawers := (postResult d st det pl s).drawers, sec := (postResult d st det pl s).sec, net := (postResult d st det pl s).net
        ev := (postResult d st det pl s).ev, hostMem := (postResult d st det pl s).hostMem } := by
  unfold postResult
  simp only []
  repeat' split
  all_goals first | rfl | (rw [raise_frame]; rfl)

@[simp] theorem postResult_time (d st det : Nat) (pl : Bytes) (s : State) : (postResult d st det pl s).time = s.time := by
  rw [postResult_frame]
@[simp] theorem postResult_sys (d st det : Nat) (pl : Bytes) (s : State) : (postResult d st det pl s).sys = s.sys := by
  rw [postResult_frame]
@[simp] theorem postResult_mem (d st det : Nat) (pl : Bytes) (s : State) : (postResult d st det pl s).mem = s.mem := by
  rw [postResult_frame]
@[simp] theorem postResult_store (d st det : Nat) (pl : Bytes) (s : State) : (postResult d st det pl s).store = s.store := by
  rw [postResult_frame]
@[simp] theorem postResult_sensors (d st det : Nat) (pl : Bytes) (s : State) : (postResult d st det pl s).sensors = s.sensors := by
  rw [postResult_frame]
@[simp] theorem postResult_ports (d st det : Nat) (pl : Bytes) (s : State) : (postResult d st det pl s).ports = s.ports := by
  rw [postResult_frame]
@[simp] theorem postResult_shelves (d st det : Nat) (pl : Bytes) (s : State) : (postResult d st det pl s).shelves = s.shelves := by
  rw [postResult_frame]
@[simp] theorem postResult_units (d st det : Nat) (pl : Bytes) (s : State) : (postResult d st det pl s).units = s.units := by
  rw [postResult_frame]
@[simp] theorem postResult_pending (d st det : Nat) (pl : Bytes) (s : State) : (postResult d st det pl s).pending = s.pending := by
  rw [postResult_frame]

/-- After a result the Drawer of a Busy command is not Busy. -/
theorem postResult_not_busy {d : Nat} (st det : Nat) (pl : Bytes) {s : State} (h : (s.drawer d).st = .busy) :
    ((postResult d st det pl s).drawer d).st ≠ .busy := by
  have hl : d < s.drawers.length := drawer_lt (by simp [h])
  simp only [postResult, h, ne_eq, not_true, if_false]
  repeat' split
  all_goals simp [State.drawer, State.setDrawer, State.pruneEnded, at!, upd, List.getD_eq_getElem?_getD, hl]

/-! ### Store commands -/

theorem outstanding_live {s : State} {q cid op : Nat} {c : StoreCmd} (h : s.outstanding q cid op c = true) : s.live = true := by
  simp [State.outstanding] at h
  exact h.1.1.1

/-- An outstanding command that has not begun runs. -/
theorem storeCmd_outstanding {s : State} {q cid op : Nat} {c : StoreCmd} (f : Nat → StoreCmd → State)
    (h : s.outstanding q cid op c = true) : storeCmd q cid op s f = f (qIndex q) c := by
  simp [State.outstanding] at h
  obtain ⟨⟨⟨_, h1⟩, h2⟩, h3⟩ := h
  simp [storeCmd, h1, h2, h3]

theorem storeCmd_cases (q cid op : Nat) (s : State) (f : Nat → StoreCmd → State) :
    (∃ c, storeCmd q cid op s f = f (qIndex q) c) ∨ storeCmd q cid op s f = s := by
  unfold storeCmd
  simp only []
  split
  · split
    · exact .inl ⟨_, rfl⟩
    · exact .inr rfl
  · exact .inr rfl

end Sys2Proof.Machine
end

