-- ==== Sys2Proof/Laws/State.lean ====
section
/-! SUPPORT. What each named update of the state leaves in every other field, and what it leaves in its own. -/

namespace Sys2Proof.Machine

/-! ### setDrawer -/

@[simp] theorem State.setDrawer_pending (s : State) (d : Nat) (f : Drawer → Drawer) : (s.setDrawer d f).pending = s.pending := rfl
@[simp] theorem State.setDrawer_sys (s : State) (d : Nat) (f : Drawer → Drawer) : (s.setDrawer d f).sys = s.sys := rfl
@[simp] theorem State.setDrawer_sec (s : State) (d : Nat) (f : Drawer → Drawer) : (s.setDrawer d f).sec = s.sec := rfl
@[simp] theorem State.setDrawer_units (s : State) (d : Nat) (f : Drawer → Drawer) : (s.setDrawer d f).units = s.units := rfl
@[simp] theorem State.setDrawer_therm (s : State) (d : Nat) (f : Drawer → Drawer) : (s.setDrawer d f).therm = s.therm := rfl
@[simp] theorem State.setDrawer_slack (s : State) (d : Nat) (f : Drawer → Drawer) : (s.setDrawer d f).slack = s.slack := rfl
@[simp] theorem State.setDrawer_holds (s : State) (d : Nat) (f : Drawer → Drawer) : (s.setDrawer d f).holds = s.holds := rfl
@[simp] theorem State.setDrawer_calHeldAt (s : State) (d : Nat) (f : Drawer → Drawer) : (s.setDrawer d f).calHeldAt = s.calHeldAt := rfl
@[simp] theorem State.setDrawer_rejects (s : State) (d : Nat) (f : Drawer → Drawer) : (s.setDrawer d f).rejects = s.rejects := rfl
@[simp] theorem State.setDrawer_readData (s : State) (d : Nat) (f : Drawer → Drawer) : (s.setDrawer d f).readData = s.readData := rfl
@[simp] theorem State.setDrawer_ev (s : State) (d : Nat) (f : Drawer → Drawer) : (s.setDrawer d f).ev = s.ev := rfl
@[simp] theorem State.setDrawer_hostMem (s : State) (d : Nat) (f : Drawer → Drawer) : (s.setDrawer d f).hostMem = s.hostMem := rfl
@[simp] theorem State.setDrawer_bufs (s : State) (d : Nat) (f : Drawer → Drawer) : (s.setDrawer d f).bufs = s.bufs := rfl
@[simp] theorem State.setDrawer_net (s : State) (d : Nat) (f : Drawer → Drawer) : (s.setDrawer d f).net = s.net := rfl
@[simp] theorem State.setDrawer_time (s : State) (d : Nat) (f : Drawer → Drawer) : (s.setDrawer d f).time = s.time := rfl
@[simp] theorem State.setDrawer_holdTable (s : State) (d : Nat) (f : Drawer → Drawer) : (s.setDrawer d f).holdTable = s.holdTable := rfl
@[simp] theorem State.setDrawer_holdSample (s : State) (d : Nat) (f : Drawer → Drawer) : (s.setDrawer d f).holdSample = s.holdSample := rfl
@[simp] theorem State.setDrawer_audio (s : State) (d : Nat) (f : Drawer → Drawer) : (s.setDrawer d f).audio = s.audio := rfl
@[simp] theorem State.setDrawer_shelves (s : State) (d : Nat) (f : Drawer → Drawer) : (s.setDrawer d f).shelves = s.shelves := rfl
@[simp] theorem State.setDrawer_planCtr (s : State) (d : Nat) (f : Drawer → Drawer) : (s.setDrawer d f).planCtr = s.planCtr := rfl
@[simp] theorem State.setDrawer_ports (s : State) (d : Nat) (f : Drawer → Drawer) : (s.setDrawer d f).ports = s.ports := rfl
@[simp] theorem State.setDrawer_sensors (s : State) (d : Nat) (f : Drawer → Drawer) : (s.setDrawer d f).sensors = s.sensors := rfl
@[simp] theorem State.setDrawer_table (s : State) (d : Nat) (f : Drawer → Drawer) : (s.setDrawer d f).table = s.table := rfl
@[simp] theorem State.setDrawer_fePos (s : State) (d : Nat) (f : Drawer → Drawer) : (s.setDrawer d f).fePos = s.fePos := rfl
@[simp] theorem State.setDrawer_csPos (s : State) (d : Nat) (f : Drawer → Drawer) : (s.setDrawer d f).csPos = s.csPos := rfl
@[simp] theorem State.setDrawer_rend (s : State) (d : Nat) (f : Drawer → Drawer) : (s.setDrawer d f).rend = s.rend := rfl
@[simp] theorem State.setDrawer_ctxs (s : State) (d : Nat) (f : Drawer → Drawer) : (s.setDrawer d f).ctxs = s.ctxs := rfl
@[simp] theorem State.setDrawer_engines (s : State) (d : Nat) (f : Drawer → Drawer) : (s.setDrawer d f).engines = s.engines := rfl
@[simp] theorem State.setDrawer_sdi (s : State) (d : Nat) (f : Drawer → Drawer) : (s.setDrawer d f).sdi = s.sdi := rfl
@[simp] theorem State.setDrawer_disp (s : State) (d : Nat) (f : Drawer → Drawer) : (s.setDrawer d f).disp = s.disp := rfl
@[simp] theorem State.setDrawer_hostRings (s : State) (d : Nat) (f : Drawer → Drawer) : (s.setDrawer d f).hostRings = s.hostRings := rfl
@[simp] theorem State.setDrawer_reviews (s : State) (d : Nat) (f : Drawer → Drawer) : (s.setDrawer d f).reviews = s.reviews := rfl
@[simp] theorem State.setDrawer_mem (s : State) (d : Nat) (f : Drawer → Drawer) : (s.setDrawer d f).mem = s.mem := rfl
@[simp] theorem State.setDrawer_store (s : State) (d : Nat) (f : Drawer → Drawer) : (s.setDrawer d f).store = s.store := rfl
@[simp] theorem State.setDrawer_drawers_length (s : State) (d : Nat) (f : Drawer → Drawer) : (s.setDrawer d f).drawers.length = s.drawers.length := upd_length _ _ _
theorem State.setDrawer_drawers_same (s : State) (d : Nat) (f : Drawer → Drawer) (h : d < s.drawers.length) : at! (s.setDrawer d f).drawers d = f (at! s.drawers d) := at!_upd_same f h
theorem State.setDrawer_drawers_other (s : State) {i : Nat} (d : Nat) (f : Drawer → Drawer) (h : i ≠ d) : at! (s.setDrawer d f).drawers i = at! s.drawers i := at!_upd_other s.drawers f h

/-! ### begin -/

@[simp] theorem State.begin_pending (s : State) (d : Nat) : (s.begin d).pending = s.pending := rfl
@[simp] theorem State.begin_sys (s : State) (d : Nat) : (s.begin d).sys = s.sys := rfl
@[simp] theorem State.begin_sec (s : State) (d : Nat) : (s.begin d).sec = s.sec := rfl
@[simp] theorem State.begin_units (s : State) (d : Nat) : (s.begin d).units = s.units := rfl
@[simp] theorem State.begin_therm (s : State) (d : Nat) : (s.begin d).therm = s.therm := rfl
@[simp] theorem State.begin_slack (s : State) (d : Nat) : (s.begin d).slack = s.slack := rfl
@[simp] theorem State.begin_holds (s : State) (d : Nat) : (s.begin d).holds = s.holds := rfl
@[simp] theorem State.begin_calHeldAt (s : State) (d : Nat) : (s.begin d).calHeldAt = s.calHeldAt := rfl
@[simp] theorem State.begin_rejects (s : State) (d : Nat) : (s.begin d).rejects = s.rejects := rfl
@[simp] theorem State.begin_readData (s : State) (d : Nat) : (s.begin d).readData = s.readData := rfl
@[simp] theorem State.begin_ev (s : State) (d : Nat) : (s.begin d).ev = s.ev := rfl
@[simp] theorem State.begin_hostMem (s : State) (d : Nat) : (s.begin d).hostMem = s.hostMem := rfl
@[simp] theorem State.begin_bufs (s : State) (d : Nat) : (s.begin d).bufs = s.bufs := rfl
@[simp] theorem State.begin_net (s : State) (d : Nat) : (s.begin d).net = s.net := rfl
@[simp] theorem State.begin_time (s : State) (d : Nat) : (s.begin d).time = s.time := rfl
@[simp] theorem State.begin_holdTable (s : State) (d : Nat) : (s.begin d).holdTable = s.holdTable := rfl
@[simp] theorem State.begin_holdSample (s : State) (d : Nat) : (s.begin d).holdSample = s.holdSample := rfl
@[simp] theorem State.begin_audio (s : State) (d : Nat) : (s.begin d).audio = s.audio := rfl
@[simp] theorem State.begin_shelves (s : State) (d : Nat) : (s.begin d).shelves = s.shelves := rfl
@[simp] theorem State.begin_planCtr (s : State) (d : Nat) : (s.begin d).planCtr = s.planCtr := rfl
@[simp] theorem State.begin_ports (s : State) (d : Nat) : (s.begin d).ports = s.ports := rfl
@[simp] theorem State.begin_sensors (s : State) (d : Nat) : (s.begin d).sensors = s.sensors := rfl
@[simp] theorem State.begin_table (s : State) (d : Nat) : (s.begin d).table = s.table := rfl
@[simp] theorem State.begin_fePos (s : State) (d : Nat) : (s.begin d).fePos = s.fePos := rfl
@[simp] theorem State.begin_csPos (s : State) (d : Nat) : (s.begin d).csPos = s.csPos := rfl
@[simp] theorem State.begin_rend (s : State) (d : Nat) : (s.begin d).rend = s.rend := rfl
@[simp] theorem State.begin_ctxs (s : State) (d : Nat) : (s.begin d).ctxs = s.ctxs := rfl
@[simp] theorem State.begin_engines (s : State) (d : Nat) : (s.begin d).engines = s.engines := rfl
@[simp] theorem State.begin_sdi (s : State) (d : Nat) : (s.begin d).sdi = s.sdi := rfl
@[simp] theorem State.begin_disp (s : State) (d : Nat) : (s.begin d).disp = s.disp := rfl
@[simp] theorem State.begin_hostRings (s : State) (d : Nat) : (s.begin d).hostRings = s.hostRings := rfl
@[simp] theorem State.begin_reviews (s : State) (d : Nat) : (s.begin d).reviews = s.reviews := rfl
@[simp] theorem State.begin_mem (s : State) (d : Nat) : (s.begin d).mem = s.mem := rfl
@[simp] theorem State.begin_store (s : State) (d : Nat) : (s.begin d).store = s.store := rfl

/-! ### hostWrite -/

@[simp] theorem State.hostWrite_pending (s : State) (a : Nat) (bs : Bytes) : (s.hostWrite a bs).pending = s.pending := rfl
@[simp] theorem State.hostWrite_sys (s : State) (a : Nat) (bs : Bytes) : (s.hostWrite a bs).sys = s.sys := rfl
@[simp] theorem State.hostWrite_sec (s : State) (a : Nat) (bs : Bytes) : (s.hostWrite a bs).sec = s.sec := rfl
@[simp] theorem State.hostWrite_units (s : State) (a : Nat) (bs : Bytes) : (s.hostWrite a bs).units = s.units := rfl
@[simp] theorem State.hostWrite_therm (s : State) (a : Nat) (bs : Bytes) : (s.hostWrite a bs).therm = s.therm := rfl
@[simp] theorem State.hostWrite_slack (s : State) (a : Nat) (bs : Bytes) : (s.hostWrite a bs).slack = s.slack := rfl
@[simp] theorem State.hostWrite_holds (s : State) (a : Nat) (bs : Bytes) : (s.hostWrite a bs).holds = s.holds := rfl
@[simp] theorem State.hostWrite_calHeldAt (s : State) (a : Nat) (bs : Bytes) : (s.hostWrite a bs).calHeldAt = s.calHeldAt := rfl
@[simp] theorem State.hostWrite_drawers (s : State) (a : Nat) (bs : Bytes) : (s.hostWrite a bs).drawers = s.drawers := rfl
@[simp] theorem State.hostWrite_rejects (s : State) (a : Nat) (bs : Bytes) : (s.hostWrite a bs).rejects = s.rejects := rfl
@[simp] theorem State.hostWrite_readData (s : State) (a : Nat) (bs : Bytes) : (s.hostWrite a bs).readData = s.readData := rfl
@[simp] theorem State.hostWrite_ev (s : State) (a : Nat) (bs : Bytes) : (s.hostWrite a bs).ev = s.ev := rfl
@[simp] theorem State.hostWrite_bufs (s : State) (a : Nat) (bs : Bytes) : (s.hostWrite a bs).bufs = s.bufs := rfl
@[simp] theorem State.hostWrite_net (s : State) (a : Nat) (bs : Bytes) : (s.hostWrite a bs).net = s.net := rfl
@[simp] theorem State.hostWrite_time (s : State) (a : Nat) (bs : Bytes) : (s.hostWrite a bs).time = s.time := rfl
@[simp] theorem State.hostWrite_holdTable (s : State) (a : Nat) (bs : Bytes) : (s.hostWrite a bs).holdTable = s.holdTable := rfl
@[simp] theorem State.hostWrite_holdSample (s : State) (a : Nat) (bs : Bytes) : (s.hostWrite a bs).holdSample = s.holdSample := rfl
@[simp] theorem State.hostWrite_audio (s : State) (a : Nat) (bs : Bytes) : (s.hostWrite a bs).audio = s.audio := rfl
@[simp] theorem State.hostWrite_shelves (s : State) (a : Nat) (bs : Bytes) : (s.hostWrite a bs).shelves = s.shelves := rfl
@[simp] theorem State.hostWrite_planCtr (s : State) (a : Nat) (bs : Bytes) : (s.hostWrite a bs).planCtr = s.planCtr := rfl
@[simp] theorem State.hostWrite_ports (s : State) (a : Nat) (bs : Bytes) : (s.hostWrite a bs).ports = s.ports := rfl
@[simp] theorem State.hostWrite_sensors (s : State) (a : Nat) (bs : Bytes) : (s.hostWrite a bs).sensors = s.sensors := rfl
@[simp] theorem State.hostWrite_table (s : State) (a : Nat) (bs : Bytes) : (s.hostWrite a bs).table = s.table := rfl
@[simp] theorem State.hostWrite_fePos (s : State) (a : Nat) (bs : Bytes) : (s.hostWrite a bs).fePos = s.fePos := rfl
@[simp] theorem State.hostWrite_csPos (s : State) (a : Nat) (bs : Bytes) : (s.hostWrite a bs).csPos = s.csPos := rfl
@[simp] theorem State.hostWrite_rend (s : State) (a : Nat) (bs : Bytes) : (s.hostWrite a bs).rend = s.rend := rfl
@[simp] theorem State.hostWrite_ctxs (s : State) (a : Nat) (bs : Bytes) : (s.hostWrite a bs).ctxs = s.ctxs := rfl
@[simp] theorem State.hostWrite_engines (s : State) (a : Nat) (bs : Bytes) : (s.hostWrite a bs).engines = s.engines := rfl
@[simp] theorem State.hostWrite_sdi (s : State) (a : Nat) (bs : Bytes) : (s.hostWrite a bs).sdi = s.sdi := rfl
@[simp] theorem State.hostWrite_disp (s : State) (a : Nat) (bs : Bytes) : (s.hostWrite a bs).disp = s.disp := rfl
@[simp] theorem State.hostWrite_hostRings (s : State) (a : Nat) (bs : Bytes) : (s.hostWrite a bs).hostRings = s.hostRings := rfl
@[simp] theorem State.hostWrite_reviews (s : State) (a : Nat) (bs : Bytes) : (s.hostWrite a bs).reviews = s.reviews := rfl
@[simp] theorem State.hostWrite_mem (s : State) (a : Nat) (bs : Bytes) : (s.hostWrite a bs).mem = s.mem := rfl
@[simp] theorem State.hostWrite_store (s : State) (a : Nat) (bs : Bytes) : (s.hostWrite a bs).store = s.store := rfl

/-! ### setAudio -/

@[simp] theorem State.setAudio_pending (s : State) (k : Nat) (f : AudioDir → AudioDir) : (s.setAudio k f).pending = s.pending := rfl
@[simp] theorem State.setAudio_sys (s : State) (k : Nat) (f : AudioDir → AudioDir) : (s.setAudio k f).sys = s.sys := rfl
@[simp] theorem State.setAudio_sec (s : State) (k : Nat) (f : AudioDir → AudioDir) : (s.setAudio k f).sec = s.sec := rfl
@[simp] theorem State.setAudio_units (s : State) (k : Nat) (f : AudioDir → AudioDir) : (s.setAudio k f).units = s.units := rfl
@[simp] theorem State.setAudio_therm (s : State) (k : Nat) (f : AudioDir → AudioDir) : (s.setAudio k f).therm = s.therm := rfl
@[simp] theorem State.setAudio_slack (s : State) (k : Nat) (f : AudioDir → AudioDir) : (s.setAudio k f).slack = s.slack := rfl
@[simp] theorem State.setAudio_holds (s : State) (k : Nat) (f : AudioDir → AudioDir) : (s.setAudio k f).holds = s.holds := rfl
@[simp] theorem State.setAudio_calHeldAt (s : State) (k : Nat) (f : AudioDir → AudioDir) : (s.setAudio k f).calHeldAt = s.calHeldAt := rfl
@[simp] theorem State.setAudio_drawers (s : State) (k : Nat) (f : AudioDir → AudioDir) : (s.setAudio k f).drawers = s.drawers := rfl
@[simp] theorem State.setAudio_rejects (s : State) (k : Nat) (f : AudioDir → AudioDir) : (s.setAudio k f).rejects = s.rejects := rfl
@[simp] theorem State.setAudio_readData (s : State) (k : Nat) (f : AudioDir → AudioDir) : (s.setAudio k f).readData = s.readData := rfl
@[simp] theorem State.setAudio_ev (s : State) (k : Nat) (f : AudioDir → AudioDir) : (s.setAudio k f).ev = s.ev := rfl
@[simp] theorem State.setAudio_hostMem (s : State) (k : Nat) (f : AudioDir → AudioDir) : (s.setAudio k f).hostMem = s.hostMem := rfl
@[simp] theorem State.setAudio_bufs (s : State) (k : Nat) (f : AudioDir → AudioDir) : (s.setAudio k f).bufs = s.bufs := rfl
@[simp] theorem State.setAudio_net (s : State) (k : Nat) (f : AudioDir → AudioDir) : (s.setAudio k f).net = s.net := rfl
@[simp] theorem State.setAudio_time (s : State) (k : Nat) (f : AudioDir → AudioDir) : (s.setAudio k f).time = s.time := rfl
@[simp] theorem State.setAudio_holdTable (s : State) (k : Nat) (f : AudioDir → AudioDir) : (s.setAudio k f).holdTable = s.holdTable := rfl
@[simp] theorem State.setAudio_holdSample (s : State) (k : Nat) (f : AudioDir → AudioDir) : (s.setAudio k f).holdSample = s.holdSample := rfl
@[simp] theorem State.setAudio_shelves (s : State) (k : Nat) (f : AudioDir → AudioDir) : (s.setAudio k f).shelves = s.shelves := rfl
@[simp] theorem State.setAudio_planCtr (s : State) (k : Nat) (f : AudioDir → AudioDir) : (s.setAudio k f).planCtr = s.planCtr := rfl
@[simp] theorem State.setAudio_ports (s : State) (k : Nat) (f : AudioDir → AudioDir) : (s.setAudio k f).ports = s.ports := rfl
@[simp] theorem State.setAudio_sensors (s : State) (k : Nat) (f : AudioDir → AudioDir) : (s.setAudio k f).sensors = s.sensors := rfl
@[simp] theorem State.setAudio_table (s : State) (k : Nat) (f : AudioDir → AudioDir) : (s.setAudio k f).table = s.table := rfl
@[simp] theorem State.setAudio_fePos (s : State) (k : Nat) (f : AudioDir → AudioDir) : (s.setAudio k f).fePos = s.fePos := rfl
@[simp] theorem State.setAudio_csPos (s : State) (k : Nat) (f : AudioDir → AudioDir) : (s.setAudio k f).csPos = s.csPos := rfl
@[simp] theorem State.setAudio_rend (s : State) (k : Nat) (f : AudioDir → AudioDir) : (s.setAudio k f).rend = s.rend := rfl
@[simp] theorem State.setAudio_ctxs (s : State) (k : Nat) (f : AudioDir → AudioDir) : (s.setAudio k f).ctxs = s.ctxs := rfl
@[simp] theorem State.setAudio_engines (s : State) (k : Nat) (f : AudioDir → AudioDir) : (s.setAudio k f).engines = s.engines := rfl
@[simp] theorem State.setAudio_sdi (s : State) (k : Nat) (f : AudioDir → AudioDir) : (s.setAudio k f).sdi = s.sdi := rfl
@[simp] theorem State.setAudio_disp (s : State) (k : Nat) (f : AudioDir → AudioDir) : (s.setAudio k f).disp = s.disp := rfl
@[simp] theorem State.setAudio_hostRings (s : State) (k : Nat) (f : AudioDir → AudioDir) : (s.setAudio k f).hostRings = s.hostRings := rfl
@[simp] theorem State.setAudio_reviews (s : State) (k : Nat) (f : AudioDir → AudioDir) : (s.setAudio k f).reviews = s.reviews := rfl
@[simp] theorem State.setAudio_mem (s : State) (k : Nat) (f : AudioDir → AudioDir) : (s.setAudio k f).mem = s.mem := rfl
@[simp] theorem State.setAudio_store (s : State) (k : Nat) (f : AudioDir → AudioDir) : (s.setAudio k f).store = s.store := rfl
@[simp] theorem State.setAudio_audio_length (s : State) (k : Nat) (f : AudioDir → AudioDir) : (s.setAudio k f).audio.length = s.audio.length := upd_length _ _ _
theorem State.setAudio_audio_same (s : State) (k : Nat) (f : AudioDir → AudioDir) (h : k < s.audio.length) : at! (s.setAudio k f).audio k = f (at! s.audio k) := at!_upd_same f h
theorem State.setAudio_audio_other (s : State) {i : Nat} (k : Nat) (f : AudioDir → AudioDir) (h : i ≠ k) : at! (s.setAudio k f).audio i = at! s.audio i := at!_upd_other s.audio f h

/-! ### onSys -/

@[simp] theorem State.onSys_pending (s : State) (f : SysState → SysState) : (s.onSys f).pending = s.pending := rfl
@[simp] theorem State.onSys_sec (s : State) (f : SysState → SysState) : (s.onSys f).sec = s.sec := rfl
@[simp] theorem State.onSys_units (s : State) (f : SysState → SysState) : (s.onSys f).units = s.units := rfl
@[simp] theorem State.onSys_therm (s : State) (f : SysState → SysState) : (s.onSys f).therm = s.therm := rfl
@[simp] theorem State.onSys_slack (s : State) (f : SysState → SysState) : (s.onSys f).slack = s.slack := rfl
@[simp] theorem State.onSys_holds (s : State) (f : SysState → SysState) : (s.onSys f).holds = s.holds := rfl
@[simp] theorem State.onSys_calHeldAt (s : State) (f : SysState → SysState) : (s.onSys f).calHeldAt = s.calHeldAt := rfl
@[simp] theorem State.onSys_drawers (s : State) (f : SysState → SysState) : (s.onSys f).drawers = s.drawers := rfl
@[simp] theorem State.onSys_rejects (s : State) (f : SysState → SysState) : (s.onSys f).rejects = s.rejects := rfl
@[simp] theorem State.onSys_readData (s : State) (f : SysState → SysState) : (s.onSys f).readData = s.readData := rfl
@[simp] theorem State.onSys_ev (s : State) (f : SysState → SysState) : (s.onSys f).ev = s.ev := rfl
@[simp] theorem State.onSys_hostMem (s : State) (f : SysState → SysState) : (s.onSys f).hostMem = s.hostMem := rfl
@[simp] theorem State.onSys_bufs (s : State) (f : SysState → SysState) : (s.onSys f).bufs = s.bufs := rfl
@[simp] theorem State.onSys_net (s : State) (f : SysState → SysState) : (s.onSys f).net = s.net := rfl
@[simp] theorem State.onSys_time (s : State) (f : SysState → SysState) : (s.onSys f).time = s.time := rfl
@[simp] theorem State.onSys_holdTable (s : State) (f : SysState → SysState) : (s.onSys f).holdTable = s.holdTable := rfl
@[simp] theorem State.onSys_holdSample (s : State) (f : SysState → SysState) : (s.onSys f).holdSample = s.holdSample := rfl
@[simp] theorem State.onSys_audio (s : State) (f : SysState → SysState) : (s.onSys f).audio = s.audio := rfl
@[simp] theorem State.onSys_shelves (s : State) (f : SysState → SysState) : (s.onSys f).shelves = s.shelves := rfl
@[simp] theorem State.onSys_planCtr (s : State) (f : SysState → SysState) : (s.onSys f).planCtr = s.planCtr := rfl
@[simp] theorem State.onSys_ports (s : State) (f : SysState → SysState) : (s.onSys f).ports = s.ports := rfl
@[simp] theorem State.onSys_sensors (s : State) (f : SysState → SysState) : (s.onSys f).sensors = s.sensors := rfl
@[simp] theorem State.onSys_table (s : State) (f : SysState → SysState) : (s.onSys f).table = s.table := rfl
@[simp] theorem State.onSys_fePos (s : State) (f : SysState → SysState) : (s.onSys f).fePos = s.fePos := rfl
@[simp] theorem State.onSys_csPos (s : State) (f : SysState → SysState) : (s.onSys f).csPos = s.csPos := rfl
@[simp] theorem State.onSys_rend (s : State) (f : SysState → SysState) : (s.onSys f).rend = s.rend := rfl
@[simp] theorem State.onSys_ctxs (s : State) (f : SysState → SysState) : (s.onSys f).ctxs = s.ctxs := rfl
@[simp] theorem State.onSys_engines (s : State) (f : SysState → SysState) : (s.onSys f).engines = s.engines := rfl
@[simp] theorem State.onSys_sdi (s : State) (f : SysState → SysState) : (s.onSys f).sdi = s.sdi := rfl
@[simp] theorem State.onSys_disp (s : State) (f : SysState → SysState) : (s.onSys f).disp = s.disp := rfl
@[simp] theorem State.onSys_hostRings (s : State) (f : SysState → SysState) : (s.onSys f).hostRings = s.hostRings := rfl
@[simp] theorem State.onSys_reviews (s : State) (f : SysState → SysState) : (s.onSys f).reviews = s.reviews := rfl
@[simp] theorem State.onSys_mem (s : State) (f : SysState → SysState) : (s.onSys f).mem = s.mem := rfl
@[simp] theorem State.onSys_store (s : State) (f : SysState → SysState) : (s.onSys f).store = s.store := rfl

/-! ### onMem -/

@[simp] theorem State.onMem_pending (s : State) (f : MemState → MemState) : (s.onMem f).pending = s.pending := rfl
@[simp] theorem State.onMem_sys (s : State) (f : MemState → MemState) : (s.onMem f).sys = s.sys := rfl
@[simp] theorem State.onMem_sec (s : State) (f : MemState → MemState) : (s.onMem f).sec = s.sec := rfl
@[simp] theorem State.onMem_units (s : State) (f : MemState → MemState) : (s.onMem f).units = s.units := rfl
@[simp] theorem State.onMem_therm (s : State) (f : MemState → MemState) : (s.onMem f).therm = s.therm := rfl
@[simp] theorem State.onMem_slack (s : State) (f : MemState → MemState) : (s.onMem f).slack = s.slack := rfl
@[simp] theorem State.onMem_holds (s : State) (f : MemState → MemState) : (s.onMem f).holds = s.holds := rfl
@[simp] theorem State.onMem_calHeldAt (s : State) (f : MemState → MemState) : (s.onMem f).calHeldAt = s.calHeldAt := rfl
@[simp] theorem State.onMem_drawers (s : State) (f : MemState → MemState) : (s.onMem f).drawers = s.drawers := rfl
@[simp] theorem State.onMem_rejects (s : State) (f : MemState → MemState) : (s.onMem f).rejects = s.rejects := rfl
@[simp] theorem State.onMem_readData (s : State) (f : MemState → MemState) : (s.onMem f).readData = s.readData := rfl
@[simp] theorem State.onMem_ev (s : State) (f : MemState → MemState) : (s.onMem f).ev = s.ev := rfl
@[simp] theorem State.onMem_hostMem (s : State) (f : MemState → MemState) : (s.onMem f).hostMem = s.hostMem := rfl
@[simp] theorem State.onMem_bufs (s : State) (f : MemState → MemState) : (s.onMem f).bufs = s.bufs := rfl
@[simp] theorem State.onMem_net (s : State) (f : MemState → MemState) : (s.onMem f).net = s.net := rfl
@[simp] theorem State.onMem_time (s : State) (f : MemState → MemState) : (s.onMem f).time = s.time := rfl
@[simp] theorem State.onMem_holdTable (s : State) (f : MemState → MemState) : (s.onMem f).holdTable = s.holdTable := rfl
@[simp] theorem State.onMem_holdSample (s : State) (f : MemState → MemState) : (s.onMem f).holdSample = s.holdSample := rfl
@[simp] theorem State.onMem_audio (s : State) (f : MemState → MemState) : (s.onMem f).audio = s.audio := rfl
@[simp] theorem State.onMem_shelves (s : State) (f : MemState → MemState) : (s.onMem f).shelves = s.shelves := rfl
@[simp] theorem State.onMem_planCtr (s : State) (f : MemState → MemState) : (s.onMem f).planCtr = s.planCtr := rfl
@[simp] theorem State.onMem_ports (s : State) (f : MemState → MemState) : (s.onMem f).ports = s.ports := rfl
@[simp] theorem State.onMem_sensors (s : State) (f : MemState → MemState) : (s.onMem f).sensors = s.sensors := rfl
@[simp] theorem State.onMem_table (s : State) (f : MemState → MemState) : (s.onMem f).table = s.table := rfl
@[simp] theorem State.onMem_fePos (s : State) (f : MemState → MemState) : (s.onMem f).fePos = s.fePos := rfl
@[simp] theorem State.onMem_csPos (s : State) (f : MemState → MemState) : (s.onMem f).csPos = s.csPos := rfl
@[simp] theorem State.onMem_rend (s : State) (f : MemState → MemState) : (s.onMem f).rend = s.rend := rfl
@[simp] theorem State.onMem_ctxs (s : State) (f : MemState → MemState) : (s.onMem f).ctxs = s.ctxs := rfl
@[simp] theorem State.onMem_engines (s : State) (f : MemState → MemState) : (s.onMem f).engines = s.engines := rfl
@[simp] theorem State.onMem_sdi (s : State) (f : MemState → MemState) : (s.onMem f).sdi = s.sdi := rfl
@[simp] theorem State.onMem_disp (s : State) (f : MemState → MemState) : (s.onMem f).disp = s.disp := rfl
@[simp] theorem State.onMem_hostRings (s : State) (f : MemState → MemState) : (s.onMem f).hostRings = s.hostRings := rfl
@[simp] theorem State.onMem_reviews (s : State) (f : MemState → MemState) : (s.onMem f).reviews = s.reviews := rfl
@[simp] theorem State.onMem_store (s : State) (f : MemState → MemState) : (s.onMem f).store = s.store := rfl

/-! ### onStore -/

@[simp] theorem State.onStore_pending (s : State) (f : StoreState → StoreState) : (s.onStore f).pending = s.pending := rfl
@[simp] theorem State.onStore_sys (s : State) (f : StoreState → StoreState) : (s.onStore f).sys = s.sys := rfl
@[simp] theorem State.onStore_sec (s : State) (f : StoreState → StoreState) : (s.onStore f).sec = s.sec := rfl
@[simp] theorem State.onStore_units (s : State) (f : StoreState → StoreState) : (s.onStore f).units = s.units := rfl
@[simp] theorem State.onStore_therm (s : State) (f : StoreState → StoreState) : (s.onStore f).therm = s.therm := rfl
@[simp] theorem State.onStore_slack (s : State) (f : StoreState → StoreState) : (s.onStore f).slack = s.slack := rfl
@[simp] theorem State.onStore_holds (s : State) (f : StoreState → StoreState) : (s.onStore f).holds = s.holds := rfl
@[simp] theorem State.onStore_calHeldAt (s : State) (f : StoreState → StoreState) : (s.onStore f).calHeldAt = s.calHeldAt := rfl
@[simp] theorem State.onStore_drawers (s : State) (f : StoreState → StoreState) : (s.onStore f).drawers = s.drawers := rfl
@[simp] theorem State.onStore_rejects (s : State) (f : StoreState → StoreState) : (s.onStore f).rejects = s.rejects := rfl
@[simp] theorem State.onStore_readData (s : State) (f : StoreState → StoreState) : (s.onStore f).readData = s.readData := rfl
@[simp] theorem State.onStore_ev (s : State) (f : StoreState → StoreState) : (s.onStore f).ev = s.ev := rfl
@[simp] theorem State.onStore_hostMem (s : State) (f : StoreState → StoreState) : (s.onStore f).hostMem = s.hostMem := rfl
@[simp] theorem State.onStore_bufs (s : State) (f : StoreState → StoreState) : (s.onStore f).bufs = s.bufs := rfl
@[simp] theorem State.onStore_net (s : State) (f : StoreState → StoreState) : (s.onStore f).net = s.net := rfl
@[simp] theorem State.onStore_time (s : State) (f : StoreState → StoreState) : (s.onStore f).time = s.time := rfl
@[simp] theorem State.onStore_holdTable (s : State) (f : StoreState → StoreState) : (s.onStore f).holdTable = s.holdTable := rfl
@[simp] theorem State.onStore_holdSample (s : State) (f : StoreState → StoreState) : (s.onStore f).holdSample = s.holdSample := rfl
@[simp] theorem State.onStore_audio (s : State) (f : StoreState → StoreState) : (s.onStore f).audio = s.audio := rfl
@[simp] theorem State.onStore_shelves (s : State) (f : StoreState → StoreState) : (s.onStore f).shelves = s.shelves := rfl
@[simp] theorem State.onStore_planCtr (s : State) (f : StoreState → StoreState) : (s.onStore f).planCtr = s.planCtr := rfl
@[simp] theorem State.onStore_ports (s : State) (f : StoreState → StoreState) : (s.onStore f).ports = s.ports := rfl
@[simp] theorem State.onStore_sensors (s : State) (f : StoreState → StoreState) : (s.onStore f).sensors = s.sensors := rfl
@[simp] theorem State.onStore_table (s : State) (f : StoreState → StoreState) : (s.onStore f).table = s.table := rfl
@[simp] theorem State.onStore_fePos (s : State) (f : StoreState → StoreState) : (s.onStore f).fePos = s.fePos := rfl
@[simp] theorem State.onStore_csPos (s : State) (f : StoreState → StoreState) : (s.onStore f).csPos = s.csPos := rfl
@[simp] theorem State.onStore_rend (s : State) (f : StoreState → StoreState) : (s.onStore f).rend = s.rend := rfl
@[simp] theorem State.onStore_ctxs (s : State) (f : StoreState → StoreState) : (s.onStore f).ctxs = s.ctxs := rfl
@[simp] theorem State.onStore_engines (s : State) (f : StoreState → StoreState) : (s.onStore f).engines = s.engines := rfl
@[simp] theorem State.onStore_sdi (s : State) (f : StoreState → StoreState) : (s.onStore f).sdi = s.sdi := rfl
@[simp] theorem State.onStore_disp (s : State) (f : StoreState → StoreState) : (s.onStore f).disp = s.disp := rfl
@[simp] theorem State.onStore_hostRings (s : State) (f : StoreState → StoreState) : (s.onStore f).hostRings = s.hostRings := rfl
@[simp] theorem State.onStore_reviews (s : State) (f : StoreState → StoreState) : (s.onStore f).reviews = s.reviews := rfl
@[simp] theorem State.onStore_mem (s : State) (f : StoreState → StoreState) : (s.onStore f).mem = s.mem := rfl

/-! ### setCtx -/

@[simp] theorem State.setCtx_pending (s : State) (k : Nat) (f : HevcCtx → HevcCtx) : (s.setCtx k f).pending = s.pending := rfl
@[simp] theorem State.setCtx_sys (s : State) (k : Nat) (f : HevcCtx → HevcCtx) : (s.setCtx k f).sys = s.sys := rfl
@[simp] theorem State.setCtx_sec (s : State) (k : Nat) (f : HevcCtx → HevcCtx) : (s.setCtx k f).sec = s.sec := rfl
@[simp] theorem State.setCtx_units (s : State) (k : Nat) (f : HevcCtx → HevcCtx) : (s.setCtx k f).units = s.units := rfl
@[simp] theorem State.setCtx_therm (s : State) (k : Nat) (f : HevcCtx → HevcCtx) : (s.setCtx k f).therm = s.therm := rfl
@[simp] theorem State.setCtx_slack (s : State) (k : Nat) (f : HevcCtx → HevcCtx) : (s.setCtx k f).slack = s.slack := rfl
@[simp] theorem State.setCtx_holds (s : State) (k : Nat) (f : HevcCtx → HevcCtx) : (s.setCtx k f).holds = s.holds := rfl
@[simp] theorem State.setCtx_calHeldAt (s : State) (k : Nat) (f : HevcCtx → HevcCtx) : (s.setCtx k f).calHeldAt = s.calHeldAt := rfl
@[simp] theorem State.setCtx_drawers (s : State) (k : Nat) (f : HevcCtx → HevcCtx) : (s.setCtx k f).drawers = s.drawers := rfl
@[simp] theorem State.setCtx_rejects (s : State) (k : Nat) (f : HevcCtx → HevcCtx) : (s.setCtx k f).rejects = s.rejects := rfl
@[simp] theorem State.setCtx_readData (s : State) (k : Nat) (f : HevcCtx → HevcCtx) : (s.setCtx k f).readData = s.readData := rfl
@[simp] theorem State.setCtx_ev (s : State) (k : Nat) (f : HevcCtx → HevcCtx) : (s.setCtx k f).ev = s.ev := rfl
@[simp] theorem State.setCtx_hostMem (s : State) (k : Nat) (f : HevcCtx → HevcCtx) : (s.setCtx k f).hostMem = s.hostMem := rfl
@[simp] theorem State.setCtx_bufs (s : State) (k : Nat) (f : HevcCtx → HevcCtx) : (s.setCtx k f).bufs = s.bufs := rfl
@[simp] theorem State.setCtx_net (s : State) (k : Nat) (f : HevcCtx → HevcCtx) : (s.setCtx k f).net = s.net := rfl
@[simp] theorem State.setCtx_time (s : State) (k : Nat) (f : HevcCtx → HevcCtx) : (s.setCtx k f).time = s.time := rfl
@[simp] theorem State.setCtx_holdTable (s : State) (k : Nat) (f : HevcCtx → HevcCtx) : (s.setCtx k f).holdTable = s.holdTable := rfl
@[simp] theorem State.setCtx_holdSample (s : State) (k : Nat) (f : HevcCtx → HevcCtx) : (s.setCtx k f).holdSample = s.holdSample := rfl
@[simp] theorem State.setCtx_audio (s : State) (k : Nat) (f : HevcCtx → HevcCtx) : (s.setCtx k f).audio = s.audio := rfl
@[simp] theorem State.setCtx_shelves (s : State) (k : Nat) (f : HevcCtx → HevcCtx) : (s.setCtx k f).shelves = s.shelves := rfl
@[simp] theorem State.setCtx_planCtr (s : State) (k : Nat) (f : HevcCtx → HevcCtx) : (s.setCtx k f).planCtr = s.planCtr := rfl
@[simp] theorem State.setCtx_ports (s : State) (k : Nat) (f : HevcCtx → HevcCtx) : (s.setCtx k f).ports = s.ports := rfl
@[simp] theorem State.setCtx_sensors (s : State) (k : Nat) (f : HevcCtx → HevcCtx) : (s.setCtx k f).sensors = s.sensors := rfl
@[simp] theorem State.setCtx_table (s : State) (k : Nat) (f : HevcCtx → HevcCtx) : (s.setCtx k f).table = s.table := rfl
@[simp] theorem State.setCtx_fePos (s : State) (k : Nat) (f : HevcCtx → HevcCtx) : (s.setCtx k f).fePos = s.fePos := rfl
@[simp] theorem State.setCtx_csPos (s : State) (k : Nat) (f : HevcCtx → HevcCtx) : (s.setCtx k f).csPos = s.csPos := rfl
@[simp] theorem State.setCtx_rend (s : State) (k : Nat) (f : HevcCtx → HevcCtx) : (s.setCtx k f).rend = s.rend := rfl
@[simp] theorem State.setCtx_engines (s : State) (k : Nat) (f : HevcCtx → HevcCtx) : (s.setCtx k f).engines = s.engines := rfl
@[simp] theorem State.setCtx_sdi (s : State) (k : Nat) (f : HevcCtx → HevcCtx) : (s.setCtx k f).sdi = s.sdi := rfl
@[simp] theorem State.setCtx_disp (s : State) (k : Nat) (f : HevcCtx → HevcCtx) : (s.setCtx k f).disp = s.disp := rfl
@[simp] theorem State.setCtx_hostRings (s : State) (k : Nat) (f : HevcCtx → HevcCtx) : (s.setCtx k f).hostRings = s.hostRings := rfl
@[simp] theorem State.setCtx_reviews (s : State) (k : Nat) (f : HevcCtx → HevcCtx) : (s.setCtx k f).reviews = s.reviews := rfl
@[simp] theorem State.setCtx_mem (s : State) (k : Nat) (f : HevcCtx → HevcCtx) : (s.setCtx k f).mem = s.mem := rfl
@[simp] theorem State.setCtx_store (s : State) (k : Nat) (f : HevcCtx → HevcCtx) : (s.setCtx k f).store = s.store := rfl
@[simp] theorem State.setCtx_ctxs_length (s : State) (k : Nat) (f : HevcCtx → HevcCtx) : (s.setCtx k f).ctxs.length = s.ctxs.length := upd_length _ _ _
theorem State.setCtx_ctxs_same (s : State) (k : Nat) (f : HevcCtx → HevcCtx) (h : k < s.ctxs.length) : at! (s.setCtx k f).ctxs k = f (at! s.ctxs k) := at!_upd_same f h
theorem State.setCtx_ctxs_other (s : State) {i : Nat} (k : Nat) (f : HevcCtx → HevcCtx) (h : i ≠ k) : at! (s.setCtx k f).ctxs i = at! s.ctxs i := at!_upd_other s.ctxs f h

/-! ### setRend -/

@[simp] theorem State.setRend_pending (s : State) (k : Nat) (f : RendSlot → RendSlot) : (s.setRend k f).pending = s.pending := rfl
@[simp] theorem State.setRend_sys (s : State) (k : Nat) (f : RendSlot → RendSlot) : (s.setRend k f).sys = s.sys := rfl
@[simp] theorem State.setRend_sec (s : State) (k : Nat) (f : RendSlot → RendSlot) : (s.setRend k f).sec = s.sec := rfl
@[simp] theorem State.setRend_units (s : State) (k : Nat) (f : RendSlot → RendSlot) : (s.setRend k f).units = s.units := rfl
@[simp] theorem State.setRend_therm (s : State) (k : Nat) (f : RendSlot → RendSlot) : (s.setRend k f).therm = s.therm := rfl
@[simp] theorem State.setRend_slack (s : State) (k : Nat) (f : RendSlot → RendSlot) : (s.setRend k f).slack = s.slack := rfl
@[simp] theorem State.setRend_holds (s : State) (k : Nat) (f : RendSlot → RendSlot) : (s.setRend k f).holds = s.holds := rfl
@[simp] theorem State.setRend_calHeldAt (s : State) (k : Nat) (f : RendSlot → RendSlot) : (s.setRend k f).calHeldAt = s.calHeldAt := rfl
@[simp] theorem State.setRend_drawers (s : State) (k : Nat) (f : RendSlot → RendSlot) : (s.setRend k f).drawers = s.drawers := rfl
@[simp] theorem State.setRend_rejects (s : State) (k : Nat) (f : RendSlot → RendSlot) : (s.setRend k f).rejects = s.rejects := rfl
@[simp] theorem State.setRend_readData (s : State) (k : Nat) (f : RendSlot → RendSlot) : (s.setRend k f).readData = s.readData := rfl
@[simp] theorem State.setRend_ev (s : State) (k : Nat) (f : RendSlot → RendSlot) : (s.setRend k f).ev = s.ev := rfl
@[simp] theorem State.setRend_hostMem (s : State) (k : Nat) (f : RendSlot → RendSlot) : (s.setRend k f).hostMem = s.hostMem := rfl
@[simp] theorem State.setRend_bufs (s : State) (k : Nat) (f : RendSlot → RendSlot) : (s.setRend k f).bufs = s.bufs := rfl
@[simp] theorem State.setRend_net (s : State) (k : Nat) (f : RendSlot → RendSlot) : (s.setRend k f).net = s.net := rfl
@[simp] theorem State.setRend_time (s : State) (k : Nat) (f : RendSlot → RendSlot) : (s.setRend k f).time = s.time := rfl
@[simp] theorem State.setRend_holdTable (s : State) (k : Nat) (f : RendSlot → RendSlot) : (s.setRend k f).holdTable = s.holdTable := rfl
@[simp] theorem State.setRend_holdSample (s : State) (k : Nat) (f : RendSlot → RendSlot) : (s.setRend k f).holdSample = s.holdSample := rfl
@[simp] theorem State.setRend_audio (s : State) (k : Nat) (f : RendSlot → RendSlot) : (s.setRend k f).audio = s.audio := rfl
@[simp] theorem State.setRend_shelves (s : State) (k : Nat) (f : RendSlot → RendSlot) : (s.setRend k f).shelves = s.shelves := rfl
@[simp] theorem State.setRend_planCtr (s : State) (k : Nat) (f : RendSlot → RendSlot) : (s.setRend k f).planCtr = s.planCtr := rfl
@[simp] theorem State.setRend_ports (s : State) (k : Nat) (f : RendSlot → RendSlot) : (s.setRend k f).ports = s.ports := rfl
@[simp] theorem State.setRend_sensors (s : State) (k : Nat) (f : RendSlot → RendSlot) : (s.setRend k f).sensors = s.sensors := rfl
@[simp] theorem State.setRend_table (s : State) (k : Nat) (f : RendSlot → RendSlot) : (s.setRend k f).table = s.table := rfl
@[simp] theorem State.setRend_fePos (s : State) (k : Nat) (f : RendSlot → RendSlot) : (s.setRend k f).fePos = s.fePos := rfl
@[simp] theorem State.setRend_csPos (s : State) (k : Nat) (f : RendSlot → RendSlot) : (s.setRend k f).csPos = s.csPos := rfl
@[simp] theorem State.setRend_ctxs (s : State) (k : Nat) (f : RendSlot → RendSlot) : (s.setRend k f).ctxs = s.ctxs := rfl
@[simp] theorem State.setRend_engines (s : State) (k : Nat) (f : RendSlot → RendSlot) : (s.setRend k f).engines = s.engines := rfl
@[simp] theorem State.setRend_sdi (s : State) (k : Nat) (f : RendSlot → RendSlot) : (s.setRend k f).sdi = s.sdi := rfl
@[simp] theorem State.setRend_disp (s : State) (k : Nat) (f : RendSlot → RendSlot) : (s.setRend k f).disp = s.disp := rfl
@[simp] theorem State.setRend_hostRings (s : State) (k : Nat) (f : RendSlot → RendSlot) : (s.setRend k f).hostRings = s.hostRings := rfl
@[simp] theorem State.setRend_reviews (s : State) (k : Nat) (f : RendSlot → RendSlot) : (s.setRend k f).reviews = s.reviews := rfl
@[simp] theorem State.setRend_mem (s : State) (k : Nat) (f : RendSlot → RendSlot) : (s.setRend k f).mem = s.mem := rfl
@[simp] theorem State.setRend_store (s : State) (k : Nat) (f : RendSlot → RendSlot) : (s.setRend k f).store = s.store := rfl
@[simp] theorem State.setRend_rend_length (s : State) (k : Nat) (f : RendSlot → RendSlot) : (s.setRend k f).rend.length = s.rend.length := upd_length _ _ _
theorem State.setRend_rend_same (s : State) (k : Nat) (f : RendSlot → RendSlot) (h : k < s.rend.length) : at! (s.setRend k f).rend k = f (at! s.rend k) := at!_upd_same f h
theorem State.setRend_rend_other (s : State) {i : Nat} (k : Nat) (f : RendSlot → RendSlot) (h : i ≠ k) : at! (s.setRend k f).rend i = at! s.rend i := at!_upd_other s.rend f h

/-! ### setAcq -/

@[simp] theorem State.setAcq_pending (s : State) (k : Nat) (f : Acquisition → Acquisition) : (s.setAcq k f).pending = s.pending := rfl
@[simp] theorem State.setAcq_sys (s : State) (k : Nat) (f : Acquisition → Acquisition) : (s.setAcq k f).sys = s.sys := rfl
@[simp] theorem State.setAcq_sec (s : State) (k : Nat) (f : Acquisition → Acquisition) : (s.setAcq k f).sec = s.sec := rfl
@[simp] theorem State.setAcq_units (s : State) (k : Nat) (f : Acquisition → Acquisition) : (s.setAcq k f).units = s.units := rfl
@[simp] theorem State.setAcq_therm (s : State) (k : Nat) (f : Acquisition → Acquisition) : (s.setAcq k f).therm = s.therm := rfl
@[simp] theorem State.setAcq_slack (s : State) (k : Nat) (f : Acquisition → Acquisition) : (s.setAcq k f).slack = s.slack := rfl
@[simp] theorem State.setAcq_holds (s : State) (k : Nat) (f : Acquisition → Acquisition) : (s.setAcq k f).holds = s.holds := rfl
@[simp] theorem State.setAcq_calHeldAt (s : State) (k : Nat) (f : Acquisition → Acquisition) : (s.setAcq k f).calHeldAt = s.calHeldAt := rfl
@[simp] theorem State.setAcq_drawers (s : State) (k : Nat) (f : Acquisition → Acquisition) : (s.setAcq k f).drawers = s.drawers := rfl
@[simp] theorem State.setAcq_rejects (s : State) (k : Nat) (f : Acquisition → Acquisition) : (s.setAcq k f).rejects = s.rejects := rfl
@[simp] theorem State.setAcq_readData (s : State) (k : Nat) (f : Acquisition → Acquisition) : (s.setAcq k f).readData = s.readData := rfl
@[simp] theorem State.setAcq_ev (s : State) (k : Nat) (f : Acquisition → Acquisition) : (s.setAcq k f).ev = s.ev := rfl
@[simp] theorem State.setAcq_hostMem (s : State) (k : Nat) (f : Acquisition → Acquisition) : (s.setAcq k f).hostMem = s.hostMem := rfl
@[simp] theorem State.setAcq_bufs (s : State) (k : Nat) (f : Acquisition → Acquisition) : (s.setAcq k f).bufs = s.bufs := rfl
@[simp] theorem State.setAcq_net (s : State) (k : Nat) (f : Acquisition → Acquisition) : (s.setAcq k f).net = s.net := rfl
@[simp] theorem State.setAcq_time (s : State) (k : Nat) (f : Acquisition → Acquisition) : (s.setAcq k f).time = s.time := rfl
@[simp] theorem State.setAcq_holdTable (s : State) (k : Nat) (f : Acquisition → Acquisition) : (s.setAcq k f).holdTable = s.holdTable := rfl
@[simp] theorem State.setAcq_holdSample (s : State) (k : Nat) (f : Acquisition → Acquisition) : (s.setAcq k f).holdSample = s.holdSample := rfl
@[simp] theorem State.setAcq_audio (s : State) (k : Nat) (f : Acquisition → Acquisition) : (s.setAcq k f).audio = s.audio := rfl
@[simp] theorem State.setAcq_shelves (s : State) (k : Nat) (f : Acquisition → Acquisition) : (s.setAcq k f).shelves = s.shelves := rfl
@[simp] theorem State.setAcq_planCtr (s : State) (k : Nat) (f : Acquisition → Acquisition) : (s.setAcq k f).planCtr = s.planCtr := rfl
@[simp] theorem State.setAcq_ports (s : State) (k : Nat) (f : Acquisition → Acquisition) : (s.setAcq k f).ports = s.ports := rfl
@[simp] theorem State.setAcq_sensors (s : State) (k : Nat) (f : Acquisition → Acquisition) : (s.setAcq k f).sensors = s.sensors := rfl
@[simp] theorem State.setAcq_table (s : State) (k : Nat) (f : Acquisition → Acquisition) : (s.setAcq k f).table = s.table := rfl
@[simp] theorem State.setAcq_fePos (s : State) (k : Nat) (f : Acquisition → Acquisition) : (s.setAcq k f).fePos = s.fePos := rfl
@[simp] theorem State.setAcq_csPos (s : State) (k : Nat) (f : Acquisition → Acquisition) : (s.setAcq k f).csPos = s.csPos := rfl
@[simp] theorem State.setAcq_rend (s : State) (k : Nat) (f : Acquisition → Acquisition) : (s.setAcq k f).rend = s.rend := rfl
@[simp] theorem State.setAcq_ctxs (s : State) (k : Nat) (f : Acquisition → Acquisition) : (s.setAcq k f).ctxs = s.ctxs := rfl
@[simp] theorem State.setAcq_engines (s : State) (k : Nat) (f : Acquisition → Acquisition) : (s.setAcq k f).engines = s.engines := rfl
@[simp] theorem State.setAcq_sdi (s : State) (k : Nat) (f : Acquisition → Acquisition) : (s.setAcq k f).sdi = s.sdi := rfl
@[simp] theorem State.setAcq_disp (s : State) (k : Nat) (f : Acquisition → Acquisition) : (s.setAcq k f).disp = s.disp := rfl
@[simp] theorem State.setAcq_hostRings (s : State) (k : Nat) (f : Acquisition → Acquisition) : (s.setAcq k f).hostRings = s.hostRings := rfl
@[simp] theorem State.setAcq_reviews (s : State) (k : Nat) (f : Acquisition → Acquisition) : (s.setAcq k f).reviews = s.reviews := rfl
@[simp] theorem State.setAcq_store (s : State) (k : Nat) (f : Acquisition → Acquisition) : (s.setAcq k f).store = s.store := rfl

/-! ### setUnit -/

@[simp] theorem State.setUnit_pending (s : State) (u : UnitId) (f : UnitRec → UnitRec) : (s.setUnit u f).pending = s.pending := rfl
@[simp] theorem State.setUnit_sys (s : State) (u : UnitId) (f : UnitRec → UnitRec) : (s.setUnit u f).sys = s.sys := rfl
@[simp] theorem State.setUnit_sec (s : State) (u : UnitId) (f : UnitRec → UnitRec) : (s.setUnit u f).sec = s.sec := rfl
@[simp] theorem State.setUnit_therm (s : State) (u : UnitId) (f : UnitRec → UnitRec) : (s.setUnit u f).therm = s.therm := rfl
@[simp] theorem State.setUnit_slack (s : State) (u : UnitId) (f : UnitRec → UnitRec) : (s.setUnit u f).slack = s.slack := rfl
@[simp] theorem State.setUnit_holds (s : State) (u : UnitId) (f : UnitRec → UnitRec) : (s.setUnit u f).holds = s.holds := rfl
@[simp] theorem State.setUnit_calHeldAt (s : State) (u : UnitId) (f : UnitRec → UnitRec) : (s.setUnit u f).calHeldAt = s.calHeldAt := rfl
@[simp] theorem State.setUnit_drawers (s : State) (u : UnitId) (f : UnitRec → UnitRec) : (s.setUnit u f).drawers = s.drawers := rfl
@[simp] theorem State.setUnit_rejects (s : State) (u : UnitId) (f : UnitRec → UnitRec) : (s.setUnit u f).rejects = s.rejects := rfl
@[simp] theorem State.setUnit_readData (s : State) (u : UnitId) (f : UnitRec → UnitRec) : (s.setUnit u f).readData = s.readData := rfl
@[simp] theorem State.setUnit_ev (s : State) (u : UnitId) (f : UnitRec → UnitRec) : (s.setUnit u f).ev = s.ev := rfl
@[simp] theorem State.setUnit_hostMem (s : State) (u : UnitId) (f : UnitRec → UnitRec) : (s.setUnit u f).hostMem = s.hostMem := rfl
@[simp] theorem State.setUnit_bufs (s : State) (u : UnitId) (f : UnitRec → UnitRec) : (s.setUnit u f).bufs = s.bufs := rfl
@[simp] theorem State.setUnit_net (s : State) (u : UnitId) (f : UnitRec → UnitRec) : (s.setUnit u f).net = s.net := rfl
@[simp] theorem State.setUnit_time (s : State) (u : UnitId) (f : UnitRec → UnitRec) : (s.setUnit u f).time = s.time := rfl
@[simp] theorem State.setUnit_holdTable (s : State) (u : UnitId) (f : UnitRec → UnitRec) : (s.setUnit u f).holdTable = s.holdTable := rfl
@[simp] theorem State.setUnit_holdSample (s : State) (u : UnitId) (f : UnitRec → UnitRec) : (s.setUnit u f).holdSample = s.holdSample := rfl
@[simp] theorem State.setUnit_audio (s : State) (u : UnitId) (f : UnitRec → UnitRec) : (s.setUnit u f).audio = s.audio := rfl
@[simp] theorem State.setUnit_shelves (s : State) (u : UnitId) (f : UnitRec → UnitRec) : (s.setUnit u f).shelves = s.shelves := rfl
@[simp] theorem State.setUnit_planCtr (s : State) (u : UnitId) (f : UnitRec → UnitRec) : (s.setUnit u f).planCtr = s.planCtr := rfl
@[simp] theorem State.setUnit_ports (s : State) (u : UnitId) (f : UnitRec → UnitRec) : (s.setUnit u f).ports = s.ports := rfl
@[simp] theorem State.setUnit_sensors (s : State) (u : UnitId) (f : UnitRec → UnitRec) : (s.setUnit u f).sensors = s.sensors := rfl
@[simp] theorem State.setUnit_table (s : State) (u : UnitId) (f : UnitRec → UnitRec) : (s.setUnit u f).table = s.table := rfl
@[simp] theorem State.setUnit_fePos (s : State) (u : UnitId) (f : UnitRec → UnitRec) : (s.setUnit u f).fePos = s.fePos := rfl
@[simp] theorem State.setUnit_csPos (s : State) (u : UnitId) (f : UnitRec → UnitRec) : (s.setUnit u f).csPos = s.csPos := rfl
@[simp] theorem State.setUnit_rend (s : State) (u : UnitId) (f : UnitRec → UnitRec) : (s.setUnit u f).rend = s.rend := rfl
@[simp] theorem State.setUnit_ctxs (s : State) (u : UnitId) (f : UnitRec → UnitRec) : (s.setUnit u f).ctxs = s.ctxs := rfl
@[simp] theorem State.setUnit_engines (s : State) (u : UnitId) (f : UnitRec → UnitRec) : (s.setUnit u f).engines = s.engines := rfl
@[simp] theorem State.setUnit_sdi (s : State) (u : UnitId) (f : UnitRec → UnitRec) : (s.setUnit u f).sdi = s.sdi := rfl
@[simp] theorem State.setUnit_disp (s : State) (u : UnitId) (f : UnitRec → UnitRec) : (s.setUnit u f).disp = s.disp := rfl
@[simp] theorem State.setUnit_hostRings (s : State) (u : UnitId) (f : UnitRec → UnitRec) : (s.setUnit u f).hostRings = s.hostRings := rfl
@[simp] theorem State.setUnit_reviews (s : State) (u : UnitId) (f : UnitRec → UnitRec) : (s.setUnit u f).reviews = s.reviews := rfl
@[simp] theorem State.setUnit_mem (s : State) (u : UnitId) (f : UnitRec → UnitRec) : (s.setUnit u f).mem = s.mem := rfl
@[simp] theorem State.setUnit_store (s : State) (u : UnitId) (f : UnitRec → UnitRec) : (s.setUnit u f).store = s.store := rfl

/-! ### setEntry -/

@[simp] theorem State.setEntry_pending (s : State) (k : Nat) (f : Entry → Entry) : (s.setEntry k f).pending = s.pending := rfl
@[simp] theorem State.setEntry_sys (s : State) (k : Nat) (f : Entry → Entry) : (s.setEntry k f).sys = s.sys := rfl
@[simp] theorem State.setEntry_sec (s : State) (k : Nat) (f : Entry → Entry) : (s.setEntry k f).sec = s.sec := rfl
@[simp] theorem State.setEntry_units (s : State) (k : Nat) (f : Entry → Entry) : (s.setEntry k f).units = s.units := rfl
@[simp] theorem State.setEntry_therm (s : State) (k : Nat) (f : Entry → Entry) : (s.setEntry k f).therm = s.therm := rfl
@[simp] theorem State.setEntry_slack (s : State) (k : Nat) (f : Entry → Entry) : (s.setEntry k f).slack = s.slack := rfl
@[simp] theorem State.setEntry_holds (s : State) (k : Nat) (f : Entry → Entry) : (s.setEntry k f).holds = s.holds := rfl
@[simp] theorem State.setEntry_calHeldAt (s : State) (k : Nat) (f : Entry → Entry) : (s.setEntry k f).calHeldAt = s.calHeldAt := rfl
@[simp] theorem State.setEntry_drawers (s : State) (k : Nat) (f : Entry → Entry) : (s.setEntry k f).drawers = s.drawers := rfl
@[simp] theorem State.setEntry_rejects (s : State) (k : Nat) (f : Entry → Entry) : (s.setEntry k f).rejects = s.rejects := rfl
@[simp] theorem State.setEntry_readData (s : State) (k : Nat) (f : Entry → Entry) : (s.setEntry k f).readData = s.readData := rfl
@[simp] theorem State.setEntry_ev (s : State) (k : Nat) (f : Entry → Entry) : (s.setEntry k f).ev = s.ev := rfl
@[simp] theorem State.setEntry_hostMem (s : State) (k : Nat) (f : Entry → Entry) : (s.setEntry k f).hostMem = s.hostMem := rfl
@[simp] theorem State.setEntry_bufs (s : State) (k : Nat) (f : Entry → Entry) : (s.setEntry k f).bufs = s.bufs := rfl
@[simp] theorem State.setEntry_net (s : State) (k : Nat) (f : Entry → Entry) : (s.setEntry k f).net = s.net := rfl
@[simp] theorem State.setEntry_time (s : State) (k : Nat) (f : Entry → Entry) : (s.setEntry k f).time = s.time := rfl
@[simp] theorem State.setEntry_holdTable (s : State) (k : Nat) (f : Entry → Entry) : (s.setEntry k f).holdTable = s.holdTable := rfl
@[simp] theorem State.setEntry_holdSample (s : State) (k : Nat) (f : Entry → Entry) : (s.setEntry k f).holdSample = s.holdSample := rfl
@[simp] theorem State.setEntry_audio (s : State) (k : Nat) (f : Entry → Entry) : (s.setEntry k f).audio = s.audio := rfl
@[simp] theorem State.setEntry_shelves (s : State) (k : Nat) (f : Entry → Entry) : (s.setEntry k f).shelves = s.shelves := rfl
@[simp] theorem State.setEntry_planCtr (s : State) (k : Nat) (f : Entry → Entry) : (s.setEntry k f).planCtr = s.planCtr := rfl
@[simp] theorem State.setEntry_ports (s : State) (k : Nat) (f : Entry → Entry) : (s.setEntry k f).ports = s.ports := rfl
@[simp] theorem State.setEntry_sensors (s : State) (k : Nat) (f : Entry → Entry) : (s.setEntry k f).sensors = s.sensors := rfl
@[simp] theorem State.setEntry_fePos (s : State) (k : Nat) (f : Entry → Entry) : (s.setEntry k f).fePos = s.fePos := rfl
@[simp] theorem State.setEntry_csPos (s : State) (k : Nat) (f : Entry → Entry) : (s.setEntry k f).csPos = s.csPos := rfl
@[simp] theorem State.setEntry_rend (s : State) (k : Nat) (f : Entry → Entry) : (s.setEntry k f).rend = s.rend := rfl
@[simp] theorem State.setEntry_ctxs (s : State) (k : Nat) (f : Entry → Entry) : (s.setEntry k f).ctxs = s.ctxs := rfl
@[simp] theorem State.setEntry_engines (s : State) (k : Nat) (f : Entry → Entry) : (s.setEntry k f).engines = s.engines := rfl
@[simp] theorem State.setEntry_sdi (s : State) (k : Nat) (f : Entry → Entry) : (s.setEntry k f).sdi = s.sdi := rfl
@[simp] theorem State.setEntry_disp (s : State) (k : Nat) (f : Entry → Entry) : (s.setEntry k f).disp = s.disp := rfl
@[simp] theorem State.setEntry_hostRings (s : State) (k : Nat) (f : Entry → Entry) : (s.setEntry k f).hostRings = s.hostRings := rfl
@[simp] theorem State.setEntry_reviews (s : State) (k : Nat) (f : Entry → Entry) : (s.setEntry k f).reviews = s.reviews := rfl
@[simp] theorem State.setEntry_mem (s : State) (k : Nat) (f : Entry → Entry) : (s.setEntry k f).mem = s.mem := rfl
@[simp] theorem State.setEntry_store (s : State) (k : Nat) (f : Entry → Entry) : (s.setEntry k f).store = s.store := rfl
@[simp] theorem State.setEntry_table_length (s : State) (k : Nat) (f : Entry → Entry) : (s.setEntry k f).table.length = s.table.length := upd_length _ _ _

/-! ### setSensor -/

@[simp] theorem State.setSensor_pending (s : State) (k : Nat) (f : Sensor → Sensor) : (s.setSensor k f).pending = s.pending := rfl
@[simp] theorem State.setSensor_sys (s : State) (k : Nat) (f : Sensor → Sensor) : (s.setSensor k f).sys = s.sys := rfl
@[simp] theorem State.setSensor_sec (s : State) (k : Nat) (f : Sensor → Sensor) : (s.setSensor k f).sec = s.sec := rfl
@[simp] theorem State.setSensor_units (s : State) (k : Nat) (f : Sensor → Sensor) : (s.setSensor k f).units = s.units := rfl
@[simp] theorem State.setSensor_therm (s : State) (k : Nat) (f : Sensor → Sensor) : (s.setSensor k f).therm = s.therm := rfl
@[simp] theorem State.setSensor_slack (s : State) (k : Nat) (f : Sensor → Sensor) : (s.setSensor k f).slack = s.slack := rfl
@[simp] theorem State.setSensor_holds (s : State) (k : Nat) (f : Sensor → Sensor) : (s.setSensor k f).holds = s.holds := rfl
@[simp] theorem State.setSensor_calHeldAt (s : State) (k : Nat) (f : Sensor → Sensor) : (s.setSensor k f).calHeldAt = s.calHeldAt := rfl
@[simp] theorem State.setSensor_drawers (s : State) (k : Nat) (f : Sensor → Sensor) : (s.setSensor k f).drawers = s.drawers := rfl
@[simp] theorem State.setSensor_rejects (s : State) (k : Nat) (f : Sensor → Sensor) : (s.setSensor k f).rejects = s.rejects := rfl
@[simp] theorem State.setSensor_readData (s : State) (k : Nat) (f : Sensor → Sensor) : (s.setSensor k f).readData = s.readData := rfl
@[simp] theorem State.setSensor_ev (s : State) (k : Nat) (f : Sensor → Sensor) : (s.setSensor k f).ev = s.ev := rfl
@[simp] theorem State.setSensor_hostMem (s : State) (k : Nat) (f : Sensor → Sensor) : (s.setSensor k f).hostMem = s.hostMem := rfl
@[simp] theorem State.setSensor_bufs (s : State) (k : Nat) (f : Sensor → Sensor) : (s.setSensor k f).bufs = s.bufs := rfl
@[simp] theorem State.setSensor_net (s : State) (k : Nat) (f : Sensor → Sensor) : (s.setSensor k f).net = s.net := rfl
@[simp] theorem State.setSensor_time (s : State) (k : Nat) (f : Sensor → Sensor) : (s.setSensor k f).time = s.time := rfl
@[simp] theorem State.setSensor_holdTable (s : State) (k : Nat) (f : Sensor → Sensor) : (s.setSensor k f).holdTable = s.holdTable := rfl
@[simp] theorem State.setSensor_holdSample (s : State) (k : Nat) (f : Sensor → Sensor) : (s.setSensor k f).holdSample = s.holdSample := rfl
@[simp] theorem State.setSensor_audio (s : State) (k : Nat) (f : Sensor → Sensor) : (s.setSensor k f).audio = s.audio := rfl
@[simp] theorem State.setSensor_shelves (s : State) (k : Nat) (f : Sensor → Sensor) : (s.setSensor k f).shelves = s.shelves := rfl
@[simp] theorem State.setSensor_planCtr (s : State) (k : Nat) (f : Sensor → Sensor) : (s.setSensor k f).planCtr = s.planCtr := rfl
@[simp] theorem State.setSensor_ports (s : State) (k : Nat) (f : Sensor → Sensor) : (s.setSensor k f).ports = s.ports := rfl
@[simp] theorem State.setSensor_table (s : State) (k : Nat) (f : Sensor → Sensor) : (s.setSensor k f).table = s.table := rfl
@[simp] theorem State.setSensor_fePos (s : State) (k : Nat) (f : Sensor → Sensor) : (s.setSensor k f).fePos = s.fePos := rfl
@[simp] theorem State.setSensor_csPos (s : State) (k : Nat) (f : Sensor → Sensor) : (s.setSensor k f).csPos = s.csPos := rfl
@[simp] theorem State.setSensor_rend (s : State) (k : Nat) (f : Sensor → Sensor) : (s.setSensor k f).rend = s.rend := rfl
@[simp] theorem State.setSensor_ctxs (s : State) (k : Nat) (f : Sensor → Sensor) : (s.setSensor k f).ctxs = s.ctxs := rfl
@[simp] theorem State.setSensor_engines (s : State) (k : Nat) (f : Sensor → Sensor) : (s.setSensor k f).engines = s.engines := rfl
@[simp] theorem State.setSensor_sdi (s : State) (k : Nat) (f : Sensor → Sensor) : (s.setSensor k f).sdi = s.sdi := rfl
@[simp] theorem State.setSensor_disp (s : State) (k : Nat) (f : Sensor → Sensor) : (s.setSensor k f).disp = s.disp := rfl
@[simp] theorem State.setSensor_hostRings (s : State) (k : Nat) (f : Sensor → Sensor) : (s.setSensor k f).hostRings = s.hostRings := rfl
@[simp] theorem State.setSensor_reviews (s : State) (k : Nat) (f : Sensor → Sensor) : (s.setSensor k f).reviews = s.reviews := rfl
@[simp] theorem State.setSensor_mem (s : State) (k : Nat) (f : Sensor → Sensor) : (s.setSensor k f).mem = s.mem := rfl
@[simp] theorem State.setSensor_store (s : State) (k : Nat) (f : Sensor → Sensor) : (s.setSensor k f).store = s.store := rfl
@[simp] theorem State.setSensor_sensors_length (s : State) (k : Nat) (f : Sensor → Sensor) : (s.setSensor k f).sensors.length = s.sensors.length := upd_length _ _ _
theorem State.setSensor_sensors_same (s : State) (k : Nat) (f : Sensor → Sensor) (h : k < s.sensors.length) : at! (s.setSensor k f).sensors k = f (at! s.sensors k) := at!_upd_same f h
theorem State.setSensor_sensors_other (s : State) {i : Nat} (k : Nat) (f : Sensor → Sensor) (h : i ≠ k) : at! (s.setSensor k f).sensors i = at! s.sensors i := at!_upd_other s.sensors f h

/-! ### setPort -/

@[simp] theorem State.setPort_pending (s : State) (k : Nat) (f : Port → Port) : (s.setPort k f).pending = s.pending := rfl
@[simp] theorem State.setPort_sys (s : State) (k : Nat) (f : Port → Port) : (s.setPort k f).sys = s.sys := rfl
@[simp] theorem State.setPort_sec (s : State) (k : Nat) (f : Port → Port) : (s.setPort k f).sec = s.sec := rfl
@[simp] theorem State.setPort_units (s : State) (k : Nat) (f : Port → Port) : (s.setPort k f).units = s.units := rfl
@[simp] theorem State.setPort_therm (s : State) (k : Nat) (f : Port → Port) : (s.setPort k f).therm = s.therm := rfl
@[simp] theorem State.setPort_slack (s : State) (k : Nat) (f : Port → Port) : (s.setPort k f).slack = s.slack := rfl
@[simp] theorem State.setPort_holds (s : State) (k : Nat) (f : Port → Port) : (s.setPort k f).holds = s.holds := rfl
@[simp] theorem State.setPort_calHeldAt (s : State) (k : Nat) (f : Port → Port) : (s.setPort k f).calHeldAt = s.calHeldAt := rfl
@[simp] theorem State.setPort_drawers (s : State) (k : Nat) (f : Port → Port) : (s.setPort k f).drawers = s.drawers := rfl
@[simp] theorem State.setPort_rejects (s : State) (k : Nat) (f : Port → Port) : (s.setPort k f).rejects = s.rejects := rfl
@[simp] theorem State.setPort_readData (s : State) (k : Nat) (f : Port → Port) : (s.setPort k f).readData = s.readData := rfl
@[simp] theorem State.setPort_ev (s : State) (k : Nat) (f : Port → Port) : (s.setPort k f).ev = s.ev := rfl
@[simp] theorem State.setPort_hostMem (s : State) (k : Nat) (f : Port → Port) : (s.setPort k f).hostMem = s.hostMem := rfl
@[simp] theorem State.setPort_bufs (s : State) (k : Nat) (f : Port → Port) : (s.setPort k f).bufs = s.bufs := rfl
@[simp] theorem State.setPort_net (s : State) (k : Nat) (f : Port → Port) : (s.setPort k f).net = s.net := rfl
@[simp] theorem State.setPort_time (s : State) (k : Nat) (f : Port → Port) : (s.setPort k f).time = s.time := rfl
@[simp] theorem State.setPort_holdTable (s : State) (k : Nat) (f : Port → Port) : (s.setPort k f).holdTable = s.holdTable := rfl
@[simp] theorem State.setPort_holdSample (s : State) (k : Nat) (f : Port → Port) : (s.setPort k f).holdSample = s.holdSample := rfl
@[simp] theorem State.setPort_audio (s : State) (k : Nat) (f : Port → Port) : (s.setPort k f).audio = s.audio := rfl
@[simp] theorem State.setPort_shelves (s : State) (k : Nat) (f : Port → Port) : (s.setPort k f).shelves = s.shelves := rfl
@[simp] theorem State.setPort_planCtr (s : State) (k : Nat) (f : Port → Port) : (s.setPort k f).planCtr = s.planCtr := rfl
@[simp] theorem State.setPort_sensors (s : State) (k : Nat) (f : Port → Port) : (s.setPort k f).sensors = s.sensors := rfl
@[simp] theorem State.setPort_table (s : State) (k : Nat) (f : Port → Port) : (s.setPort k f).table = s.table := rfl
@[simp] theorem State.setPort_fePos (s : State) (k : Nat) (f : Port → Port) : (s.setPort k f).fePos = s.fePos := rfl
@[simp] theorem State.setPort_csPos (s : State) (k : Nat) (f : Port → Port) : (s.setPort k f).csPos = s.csPos := rfl
@[simp] theorem State.setPort_rend (s : State) (k : Nat) (f : Port → Port) : (s.setPort k f).rend = s.rend := rfl
@[simp] theorem State.setPort_ctxs (s : State) (k : Nat) (f : Port → Port) : (s.setPort k f).ctxs = s.ctxs := rfl
@[simp] theorem State.setPort_engines (s : State) (k : Nat) (f : Port → Port) : (s.setPort k f).engines = s.engines := rfl
@[simp] theorem State.setPort_sdi (s : State) (k : Nat) (f : Port → Port) : (s.setPort k f).sdi = s.sdi := rfl
@[simp] theorem State.setPort_disp (s : State) (k : Nat) (f : Port → Port) : (s.setPort k f).disp = s.disp := rfl
@[simp] theorem State.setPort_hostRings (s : State) (k : Nat) (f : Port → Port) : (s.setPort k f).hostRings = s.hostRings := rfl
@[simp] theorem State.setPort_reviews (s : State) (k : Nat) (f : Port → Port) : (s.setPort k f).reviews = s.reviews := rfl
@[simp] theorem State.setPort_mem (s : State) (k : Nat) (f : Port → Port) : (s.setPort k f).mem = s.mem := rfl
@[simp] theorem State.setPort_store (s : State) (k : Nat) (f : Port → Port) : (s.setPort k f).store = s.store := rfl
@[simp] theorem State.setPort_ports_length (s : State) (k : Nat) (f : Port → Port) : (s.setPort k f).ports.length = s.ports.length := upd_length _ _ _
theorem State.setPort_ports_same (s : State) (k : Nat) (f : Port → Port) (h : k < s.ports.length) : at! (s.setPort k f).ports k = f (at! s.ports k) := at!_upd_same f h
theorem State.setPort_ports_other (s : State) {i : Nat} (k : Nat) (f : Port → Port) (h : i ≠ k) : at! (s.setPort k f).ports i = at! s.ports i := at!_upd_other s.ports f h

/-! ### setLane -/

@[simp] theorem State.setLane_pending (s : State) (p k : Nat) (f : Lane → Lane) : (s.setLane p k f).pending = s.pending := rfl
@[simp] theorem State.setLane_sys (s : State) (p k : Nat) (f : Lane → Lane) : (s.setLane p k f).sys = s.sys := rfl
@[simp] theorem State.setLane_sec (s : State) (p k : Nat) (f : Lane → Lane) : (s.setLane p k f).sec = s.sec := rfl
@[simp] theorem State.setLane_units (s : State) (p k : Nat) (f : Lane → Lane) : (s.setLane p k f).units = s.units := rfl
@[simp] theorem State.setLane_therm (s : State) (p k : Nat) (f : Lane → Lane) : (s.setLane p k f).therm = s.therm := rfl
@[simp] theorem State.setLane_slack (s : State) (p k : Nat) (f : Lane → Lane) : (s.setLane p k f).slack = s.slack := rfl
@[simp] theorem State.setLane_holds (s : State) (p k : Nat) (f : Lane → Lane) : (s.setLane p k f).holds = s.holds := rfl
@[simp] theorem State.setLane_calHeldAt (s : State) (p k : Nat) (f : Lane → Lane) : (s.setLane p k f).calHeldAt = s.calHeldAt := rfl
@[simp] theorem State.setLane_drawers (s : State) (p k : Nat) (f : Lane → Lane) : (s.setLane p k f).drawers = s.drawers := rfl
@[simp] theorem State.setLane_rejects (s : State) (p k : Nat) (f : Lane → Lane) : (s.setLane p k f).rejects = s.rejects := rfl
@[simp] theorem State.setLane_readData (s : State) (p k : Nat) (f : Lane → Lane) : (s.setLane p k f).readData = s.readData := rfl
@[simp] theorem State.setLane_ev (s : State) (p k : Nat) (f : Lane → Lane) : (s.setLane p k f).ev = s.ev := rfl
@[simp] theorem State.setLane_hostMem (s : State) (p k : Nat) (f : Lane → Lane) : (s.setLane p k f).hostMem = s.hostMem := rfl
@[simp] theorem State.setLane_bufs (s : State) (p k : Nat) (f : Lane → Lane) : (s.setLane p k f).bufs = s.bufs := rfl
@[simp] theorem State.setLane_net (s : State) (p k : Nat) (f : Lane → Lane) : (s.setLane p k f).net = s.net := rfl
@[simp] theorem State.setLane_time (s : State) (p k : Nat) (f : Lane → Lane) : (s.setLane p k f).time = s.time := rfl
@[simp] theorem State.setLane_holdTable (s : State) (p k : Nat) (f : Lane → Lane) : (s.setLane p k f).holdTable = s.holdTable := rfl
@[simp] theorem State.setLane_holdSample (s : State) (p k : Nat) (f : Lane → Lane) : (s.setLane p k f).holdSample = s.holdSample := rfl
@[simp] theorem State.setLane_audio (s : State) (p k : Nat) (f : Lane → Lane) : (s.setLane p k f).audio = s.audio := rfl
@[simp] theorem State.setLane_shelves (s : State) (p k : Nat) (f : Lane → Lane) : (s.setLane p k f).shelves = s.shelves := rfl
@[simp] theorem State.setLane_planCtr (s : State) (p k : Nat) (f : Lane → Lane) : (s.setLane p k f).planCtr = s.planCtr := rfl
@[simp] theorem State.setLane_sensors (s : State) (p k : Nat) (f : Lane → Lane) : (s.setLane p k f).sensors = s.sensors := rfl
@[simp] theorem State.setLane_table (s : State) (p k : Nat) (f : Lane → Lane) : (s.setLane p k f).table = s.table := rfl
@[simp] theorem State.setLane_fePos (s : State) (p k : Nat) (f : Lane → Lane) : (s.setLane p k f).fePos = s.fePos := rfl
@[simp] theorem State.setLane_csPos (s : State) (p k : Nat) (f : Lane → Lane) : (s.setLane p k f).csPos = s.csPos := rfl
@[simp] theorem State.setLane_rend (s : State) (p k : Nat) (f : Lane → Lane) : (s.setLane p k f).rend = s.rend := rfl
@[simp] theorem State.setLane_ctxs (s : State) (p k : Nat) (f : Lane → Lane) : (s.setLane p k f).ctxs = s.ctxs := rfl
@[simp] theorem State.setLane_engines (s : State) (p k : Nat) (f : Lane → Lane) : (s.setLane p k f).engines = s.engines := rfl
@[simp] theorem State.setLane_sdi (s : State) (p k : Nat) (f : Lane → Lane) : (s.setLane p k f).sdi = s.sdi := rfl
@[simp] theorem State.setLane_disp (s : State) (p k : Nat) (f : Lane → Lane) : (s.setLane p k f).disp = s.disp := rfl
@[simp] theorem State.setLane_hostRings (s : State) (p k : Nat) (f : Lane → Lane) : (s.setLane p k f).hostRings = s.hostRings := rfl
@[simp] theorem State.setLane_reviews (s : State) (p k : Nat) (f : Lane → Lane) : (s.setLane p k f).reviews = s.reviews := rfl
@[simp] theorem State.setLane_mem (s : State) (p k : Nat) (f : Lane → Lane) : (s.setLane p k f).mem = s.mem := rfl
@[simp] theorem State.setLane_store (s : State) (p k : Nat) (f : Lane → Lane) : (s.setLane p k f).store = s.store := rfl

/-! ### setIfc -/

@[simp] theorem State.setIfc_pending (s : State) (k : Nat) (f : CellarIfc → CellarIfc) : (s.setIfc k f).pending = s.pending := rfl
@[simp] theorem State.setIfc_sys (s : State) (k : Nat) (f : CellarIfc → CellarIfc) : (s.setIfc k f).sys = s.sys := rfl
@[simp] theorem State.setIfc_sec (s : State) (k : Nat) (f : CellarIfc → CellarIfc) : (s.setIfc k f).sec = s.sec := rfl
@[simp] theorem State.setIfc_units (s : State) (k : Nat) (f : CellarIfc → CellarIfc) : (s.setIfc k f).units = s.units := rfl
@[simp] theorem State.setIfc_therm (s : State) (k : Nat) (f : CellarIfc → CellarIfc) : (s.setIfc k f).therm = s.therm := rfl
@[simp] theorem State.setIfc_slack (s : State) (k : Nat) (f : CellarIfc → CellarIfc) : (s.setIfc k f).slack = s.slack := rfl
@[simp] theorem State.setIfc_holds (s : State) (k : Nat) (f : CellarIfc → CellarIfc) : (s.setIfc k f).holds = s.holds := rfl
@[simp] theorem State.setIfc_calHeldAt (s : State) (k : Nat) (f : CellarIfc → CellarIfc) : (s.setIfc k f).calHeldAt = s.calHeldAt := rfl
@[simp] theorem State.setIfc_drawers (s : State) (k : Nat) (f : CellarIfc → CellarIfc) : (s.setIfc k f).drawers = s.drawers := rfl
@[simp] theorem State.setIfc_rejects (s : State) (k : Nat) (f : CellarIfc → CellarIfc) : (s.setIfc k f).rejects = s.rejects := rfl
@[simp] theorem State.setIfc_readData (s : State) (k : Nat) (f : CellarIfc → CellarIfc) : (s.setIfc k f).readData = s.readData := rfl
@[simp] theorem State.setIfc_ev (s : State) (k : Nat) (f : CellarIfc → CellarIfc) : (s.setIfc k f).ev = s.ev := rfl
@[simp] theorem State.setIfc_hostMem (s : State) (k : Nat) (f : CellarIfc → CellarIfc) : (s.setIfc k f).hostMem = s.hostMem := rfl
@[simp] theorem State.setIfc_bufs (s : State) (k : Nat) (f : CellarIfc → CellarIfc) : (s.setIfc k f).bufs = s.bufs := rfl
@[simp] theorem State.setIfc_net (s : State) (k : Nat) (f : CellarIfc → CellarIfc) : (s.setIfc k f).net = s.net := rfl
@[simp] theorem State.setIfc_time (s : State) (k : Nat) (f : CellarIfc → CellarIfc) : (s.setIfc k f).time = s.time := rfl
@[simp] theorem State.setIfc_holdTable (s : State) (k : Nat) (f : CellarIfc → CellarIfc) : (s.setIfc k f).holdTable = s.holdTable := rfl
@[simp] theorem State.setIfc_holdSample (s : State) (k : Nat) (f : CellarIfc → CellarIfc) : (s.setIfc k f).holdSample = s.holdSample := rfl
@[simp] theorem State.setIfc_audio (s : State) (k : Nat) (f : CellarIfc → CellarIfc) : (s.setIfc k f).audio = s.audio := rfl
@[simp] theorem State.setIfc_shelves (s : State) (k : Nat) (f : CellarIfc → CellarIfc) : (s.setIfc k f).shelves = s.shelves := rfl
@[simp] theorem State.setIfc_planCtr (s : State) (k : Nat) (f : CellarIfc → CellarIfc) : (s.setIfc k f).planCtr = s.planCtr := rfl
@[simp] theorem State.setIfc_ports (s : State) (k : Nat) (f : CellarIfc → CellarIfc) : (s.setIfc k f).ports = s.ports := rfl
@[simp] theorem State.setIfc_sensors (s : State) (k : Nat) (f : CellarIfc → CellarIfc) : (s.setIfc k f).sensors = s.sensors := rfl
@[simp] theorem State.setIfc_table (s : State) (k : Nat) (f : CellarIfc → CellarIfc) : (s.setIfc k f).table = s.table := rfl
@[simp] theorem State.setIfc_fePos (s : State) (k : Nat) (f : CellarIfc → CellarIfc) : (s.setIfc k f).fePos = s.fePos := rfl
@[simp] theorem State.setIfc_csPos (s : State) (k : Nat) (f : CellarIfc → CellarIfc) : (s.setIfc k f).csPos = s.csPos := rfl
@[simp] theorem State.setIfc_rend (s : State) (k : Nat) (f : CellarIfc → CellarIfc) : (s.setIfc k f).rend = s.rend := rfl
@[simp] theorem State.setIfc_ctxs (s : State) (k : Nat) (f : CellarIfc → CellarIfc) : (s.setIfc k f).ctxs = s.ctxs := rfl
@[simp] theorem State.setIfc_engines (s : State) (k : Nat) (f : CellarIfc → CellarIfc) : (s.setIfc k f).engines = s.engines := rfl
@[simp] theorem State.setIfc_sdi (s : State) (k : Nat) (f : CellarIfc → CellarIfc) : (s.setIfc k f).sdi = s.sdi := rfl
@[simp] theorem State.setIfc_disp (s : State) (k : Nat) (f : CellarIfc → CellarIfc) : (s.setIfc k f).disp = s.disp := rfl
@[simp] theorem State.setIfc_hostRings (s : State) (k : Nat) (f : CellarIfc → CellarIfc) : (s.setIfc k f).hostRings = s.hostRings := rfl
@[simp] theorem State.setIfc_reviews (s : State) (k : Nat) (f : CellarIfc → CellarIfc) : (s.setIfc k f).reviews = s.reviews := rfl
@[simp] theorem State.setIfc_store (s : State) (k : Nat) (f : CellarIfc → CellarIfc) : (s.setIfc k f).store = s.store := rfl

/-! ### setCellarBank -/

@[simp] theorem State.setCellarBank_pending (s : State) (i b : Nat) (f : CellarBank → CellarBank) : (s.setCellarBank i b f).pending = s.pending := rfl
@[simp] theorem State.setCellarBank_sys (s : State) (i b : Nat) (f : CellarBank → CellarBank) : (s.setCellarBank i b f).sys = s.sys := rfl
@[simp] theorem State.setCellarBank_sec (s : State) (i b : Nat) (f : CellarBank → CellarBank) : (s.setCellarBank i b f).sec = s.sec := rfl
@[simp] theorem State.setCellarBank_units (s : State) (i b : Nat) (f : CellarBank → CellarBank) : (s.setCellarBank i b f).units = s.units := rfl
@[simp] theorem State.setCellarBank_therm (s : State) (i b : Nat) (f : CellarBank → CellarBank) : (s.setCellarBank i b f).therm = s.therm := rfl
@[simp] theorem State.setCellarBank_slack (s : State) (i b : Nat) (f : CellarBank → CellarBank) : (s.setCellarBank i b f).slack = s.slack := rfl
@[simp] theorem State.setCellarBank_holds (s : State) (i b : Nat) (f : CellarBank → CellarBank) : (s.setCellarBank i b f).holds = s.holds := rfl
@[simp] theorem State.setCellarBank_calHeldAt (s : State) (i b : Nat) (f : CellarBank → CellarBank) : (s.setCellarBank i b f).calHeldAt = s.calHeldAt := rfl
@[simp] theorem State.setCellarBank_drawers (s : State) (i b : Nat) (f : CellarBank → CellarBank) : (s.setCellarBank i b f).drawers = s.drawers := rfl
@[simp] theorem State.setCellarBank_rejects (s : State) (i b : Nat) (f : CellarBank → CellarBank) : (s.setCellarBank i b f).rejects = s.rejects := rfl
@[simp] theorem State.setCellarBank_readData (s : State) (i b : Nat) (f : CellarBank → CellarBank) : (s.setCellarBank i b f).readData = s.readData := rfl
@[simp] theorem State.setCellarBank_ev (s : State) (i b : Nat) (f : CellarBank → CellarBank) : (s.setCellarBank i b f).ev = s.ev := rfl
@[simp] theorem State.setCellarBank_hostMem (s : State) (i b : Nat) (f : CellarBank → CellarBank) : (s.setCellarBank i b f).hostMem = s.hostMem := rfl
@[simp] theorem State.setCellarBank_bufs (s : State) (i b : Nat) (f : CellarBank → CellarBank) : (s.setCellarBank i b f).bufs = s.bufs := rfl
@[simp] theorem State.setCellarBank_net (s : State) (i b : Nat) (f : CellarBank → CellarBank) : (s.setCellarBank i b f).net = s.net := rfl
@[simp] theorem State.setCellarBank_time (s : State) (i b : Nat) (f : CellarBank → CellarBank) : (s.setCellarBank i b f).time = s.time := rfl
@[simp] theorem State.setCellarBank_holdTable (s : State) (i b : Nat) (f : CellarBank → CellarBank) : (s.setCellarBank i b f).holdTable = s.holdTable := rfl
@[simp] theorem State.setCellarBank_holdSample (s : State) (i b : Nat) (f : CellarBank → CellarBank) : (s.setCellarBank i b f).holdSample = s.holdSample := rfl
@[simp] theorem State.setCellarBank_audio (s : State) (i b : Nat) (f : CellarBank → CellarBank) : (s.setCellarBank i b f).audio = s.audio := rfl
@[simp] theorem State.setCellarBank_shelves (s : State) (i b : Nat) (f : CellarBank → CellarBank) : (s.setCellarBank i b f).shelves = s.shelves := rfl
@[simp] theorem State.setCellarBank_planCtr (s : State) (i b : Nat) (f : CellarBank → CellarBank) : (s.setCellarBank i b f).planCtr = s.planCtr := rfl
@[simp] theorem State.setCellarBank_ports (s : State) (i b : Nat) (f : CellarBank → CellarBank) : (s.setCellarBank i b f).ports = s.ports := rfl
@[simp] theorem State.setCellarBank_sensors (s : State) (i b : Nat) (f : CellarBank → CellarBank) : (s.setCellarBank i b f).sensors = s.sensors := rfl
@[simp] theorem State.setCellarBank_table (s : State) (i b : Nat) (f : CellarBank → CellarBank) : (s.setCellarBank i b f).table = s.table := rfl
@[simp] theorem State.setCellarBank_fePos (s : State) (i b : Nat) (f : CellarBank → CellarBank) : (s.setCellarBank i b f).fePos = s.fePos := rfl
@[simp] theorem State.setCellarBank_csPos (s : State) (i b : Nat) (f : CellarBank → CellarBank) : (s.setCellarBank i b f).csPos = s.csPos := rfl
@[simp] theorem State.setCellarBank_rend (s : State) (i b : Nat) (f : CellarBank → CellarBank) : (s.setCellarBank i b f).rend = s.rend := rfl
@[simp] theorem State.setCellarBank_ctxs (s : State) (i b : Nat) (f : CellarBank → CellarBank) : (s.setCellarBank i b f).ctxs = s.ctxs := rfl
@[simp] theorem State.setCellarBank_engines (s : State) (i b : Nat) (f : CellarBank → CellarBank) : (s.setCellarBank i b f).engines = s.engines := rfl
@[simp] theorem State.setCellarBank_sdi (s : State) (i b : Nat) (f : CellarBank → CellarBank) : (s.setCellarBank i b f).sdi = s.sdi := rfl
@[simp] theorem State.setCellarBank_disp (s : State) (i b : Nat) (f : CellarBank → CellarBank) : (s.setCellarBank i b f).disp = s.disp := rfl
@[simp] theorem State.setCellarBank_hostRings (s : State) (i b : Nat) (f : CellarBank → CellarBank) : (s.setCellarBank i b f).hostRings = s.hostRings := rfl
@[simp] theorem State.setCellarBank_reviews (s : State) (i b : Nat) (f : CellarBank → CellarBank) : (s.setCellarBank i b f).reviews = s.reviews := rfl
@[simp] theorem State.setCellarBank_store (s : State) (i b : Nat) (f : CellarBank → CellarBank) : (s.setCellarBank i b f).store = s.store := rfl

/-! ### setLine -/

@[simp] theorem State.setLine_pending (s : State) (pa : Nat) (data : Bytes) : (s.setLine pa data).pending = s.pending := rfl
@[simp] theorem State.setLine_sys (s : State) (pa : Nat) (data : Bytes) : (s.setLine pa data).sys = s.sys := rfl
@[simp] theorem State.setLine_sec (s : State) (pa : Nat) (data : Bytes) : (s.setLine pa data).sec = s.sec := rfl
@[simp] theorem State.setLine_units (s : State) (pa : Nat) (data : Bytes) : (s.setLine pa data).units = s.units := rfl
@[simp] theorem State.setLine_therm (s : State) (pa : Nat) (data : Bytes) : (s.setLine pa data).therm = s.therm := rfl
@[simp] theorem State.setLine_slack (s : State) (pa : Nat) (data : Bytes) : (s.setLine pa data).slack = s.slack := rfl
@[simp] theorem State.setLine_holds (s : State) (pa : Nat) (data : Bytes) : (s.setLine pa data).holds = s.holds := rfl
@[simp] theorem State.setLine_calHeldAt (s : State) (pa : Nat) (data : Bytes) : (s.setLine pa data).calHeldAt = s.calHeldAt := rfl
@[simp] theorem State.setLine_drawers (s : State) (pa : Nat) (data : Bytes) : (s.setLine pa data).drawers = s.drawers := rfl
@[simp] theorem State.setLine_rejects (s : State) (pa : Nat) (data : Bytes) : (s.setLine pa data).rejects = s.rejects := rfl
@[simp] theorem State.setLine_readData (s : State) (pa : Nat) (data : Bytes) : (s.setLine pa data).readData = s.readData := rfl
@[simp] theorem State.setLine_ev (s : State) (pa : Nat) (data : Bytes) : (s.setLine pa data).ev = s.ev := rfl
@[simp] theorem State.setLine_hostMem (s : State) (pa : Nat) (data : Bytes) : (s.setLine pa data).hostMem = s.hostMem := rfl
@[simp] theorem State.setLine_bufs (s : State) (pa : Nat) (data : Bytes) : (s.setLine pa data).bufs = s.bufs := rfl
@[simp] theorem State.setLine_net (s : State) (pa : Nat) (data : Bytes) : (s.setLine pa data).net = s.net := rfl
@[simp] theorem State.setLine_time (s : State) (pa : Nat) (data : Bytes) : (s.setLine pa data).time = s.time := rfl
@[simp] theorem State.setLine_holdTable (s : State) (pa : Nat) (data : Bytes) : (s.setLine pa data).holdTable = s.holdTable := rfl
@[simp] theorem State.setLine_holdSample (s : State) (pa : Nat) (data : Bytes) : (s.setLine pa data).holdSample = s.holdSample := rfl
@[simp] theorem State.setLine_audio (s : State) (pa : Nat) (data : Bytes) : (s.setLine pa data).audio = s.audio := rfl
@[simp] theorem State.setLine_shelves (s : State) (pa : Nat) (data : Bytes) : (s.setLine pa data).shelves = s.shelves := rfl
@[simp] theorem State.setLine_planCtr (s : State) (pa : Nat) (data : Bytes) : (s.setLine pa data).planCtr = s.planCtr := rfl
@[simp] theorem State.setLine_ports (s : State) (pa : Nat) (data : Bytes) : (s.setLine pa data).ports = s.ports := rfl
@[simp] theorem State.setLine_sensors (s : State) (pa : Nat) (data : Bytes) : (s.setLine pa data).sensors = s.sensors := rfl
@[simp] theorem State.setLine_table (s : State) (pa : Nat) (data : Bytes) : (s.setLine pa data).table = s.table := rfl
@[simp] theorem State.setLine_fePos (s : State) (pa : Nat) (data : Bytes) : (s.setLine pa data).fePos = s.fePos := rfl
@[simp] theorem State.setLine_csPos (s : State) (pa : Nat) (data : Bytes) : (s.setLine pa data).csPos = s.csPos := rfl
@[simp] theorem State.setLine_rend (s : State) (pa : Nat) (data : Bytes) : (s.setLine pa data).rend = s.rend := rfl
@[simp] theorem State.setLine_ctxs (s : State) (pa : Nat) (data : Bytes) : (s.setLine pa data).ctxs = s.ctxs := rfl
@[simp] theorem State.setLine_engines (s : State) (pa : Nat) (data : Bytes) : (s.setLine pa data).engines = s.engines := rfl
@[simp] theorem State.setLine_sdi (s : State) (pa : Nat) (data : Bytes) : (s.setLine pa data).sdi = s.sdi := rfl
@[simp] theorem State.setLine_disp (s : State) (pa : Nat) (data : Bytes) : (s.setLine pa data).disp = s.disp := rfl
@[simp] theorem State.setLine_hostRings (s : State) (pa : Nat) (data : Bytes) : (s.setLine pa data).hostRings = s.hostRings := rfl
@[simp] theorem State.setLine_reviews (s : State) (pa : Nat) (data : Bytes) : (s.setLine pa data).reviews = s.reviews := rfl
@[simp] theorem State.setLine_store (s : State) (pa : Nat) (data : Bytes) : (s.setLine pa data).store = s.store := rfl

/-! ### setSdi -/

@[simp] theorem State.setSdi_pending (s : State) (k : Nat) (f : Sdi → Sdi) : (s.setSdi k f).pending = s.pending := rfl
@[simp] theorem State.setSdi_sys (s : State) (k : Nat) (f : Sdi → Sdi) : (s.setSdi k f).sys = s.sys := rfl
@[simp] theorem State.setSdi_sec (s : State) (k : Nat) (f : Sdi → Sdi) : (s.setSdi k f).sec = s.sec := rfl
@[simp] theorem State.setSdi_units (s : State) (k : Nat) (f : Sdi → Sdi) : (s.setSdi k f).units = s.units := rfl
@[simp] theorem State.setSdi_therm (s : State) (k : Nat) (f : Sdi → Sdi) : (s.setSdi k f).therm = s.therm := rfl
@[simp] theorem State.setSdi_slack (s : State) (k : Nat) (f : Sdi → Sdi) : (s.setSdi k f).slack = s.slack := rfl
@[simp] theorem State.setSdi_holds (s : State) (k : Nat) (f : Sdi → Sdi) : (s.setSdi k f).holds = s.holds := rfl
@[simp] theorem State.setSdi_calHeldAt (s : State) (k : Nat) (f : Sdi → Sdi) : (s.setSdi k f).calHeldAt = s.calHeldAt := rfl
@[simp] theorem State.setSdi_drawers (s : State) (k : Nat) (f : Sdi → Sdi) : (s.setSdi k f).drawers = s.drawers := rfl
@[simp] theorem State.setSdi_rejects (s : State) (k : Nat) (f : Sdi → Sdi) : (s.setSdi k f).rejects = s.rejects := rfl
@[simp] theorem State.setSdi_readData (s : State) (k : Nat) (f : Sdi → Sdi) : (s.setSdi k f).readData = s.readData := rfl
@[simp] theorem State.setSdi_ev (s : State) (k : Nat) (f : Sdi → Sdi) : (s.setSdi k f).ev = s.ev := rfl
@[simp] theorem State.setSdi_hostMem (s : State) (k : Nat) (f : Sdi → Sdi) : (s.setSdi k f).hostMem = s.hostMem := rfl
@[simp] theorem State.setSdi_bufs (s : State) (k : Nat) (f : Sdi → Sdi) : (s.setSdi k f).bufs = s.bufs := rfl
@[simp] theorem State.setSdi_net (s : State) (k : Nat) (f : Sdi → Sdi) : (s.setSdi k f).net = s.net := rfl
@[simp] theorem State.setSdi_time (s : State) (k : Nat) (f : Sdi → Sdi) : (s.setSdi k f).time = s.time := rfl
@[simp] theorem State.setSdi_holdTable (s : State) (k : Nat) (f : Sdi → Sdi) : (s.setSdi k f).holdTable = s.holdTable := rfl
@[simp] theorem State.setSdi_holdSample (s : State) (k : Nat) (f : Sdi → Sdi) : (s.setSdi k f).holdSample = s.holdSample := rfl
@[simp] theorem State.setSdi_audio (s : State) (k : Nat) (f : Sdi → Sdi) : (s.setSdi k f).audio = s.audio := rfl
@[simp] theorem State.setSdi_shelves (s : State) (k : Nat) (f : Sdi → Sdi) : (s.setSdi k f).shelves = s.shelves := rfl
@[simp] theorem State.setSdi_planCtr (s : State) (k : Nat) (f : Sdi → Sdi) : (s.setSdi k f).planCtr = s.planCtr := rfl
@[simp] theorem State.setSdi_ports (s : State) (k : Nat) (f : Sdi → Sdi) : (s.setSdi k f).ports = s.ports := rfl
@[simp] theorem State.setSdi_sensors (s : State) (k : Nat) (f : Sdi → Sdi) : (s.setSdi k f).sensors = s.sensors := rfl
@[simp] theorem State.setSdi_table (s : State) (k : Nat) (f : Sdi → Sdi) : (s.setSdi k f).table = s.table := rfl
@[simp] theorem State.setSdi_fePos (s : State) (k : Nat) (f : Sdi → Sdi) : (s.setSdi k f).fePos = s.fePos := rfl
@[simp] theorem State.setSdi_csPos (s : State) (k : Nat) (f : Sdi → Sdi) : (s.setSdi k f).csPos = s.csPos := rfl
@[simp] theorem State.setSdi_rend (s : State) (k : Nat) (f : Sdi → Sdi) : (s.setSdi k f).rend = s.rend := rfl
@[simp] theorem State.setSdi_ctxs (s : State) (k : Nat) (f : Sdi → Sdi) : (s.setSdi k f).ctxs = s.ctxs := rfl
@[simp] theorem State.setSdi_engines (s : State) (k : Nat) (f : Sdi → Sdi) : (s.setSdi k f).engines = s.engines := rfl
@[simp] theorem State.setSdi_disp (s : State) (k : Nat) (f : Sdi → Sdi) : (s.setSdi k f).disp = s.disp := rfl
@[simp] theorem State.setSdi_hostRings (s : State) (k : Nat) (f : Sdi → Sdi) : (s.setSdi k f).hostRings = s.hostRings := rfl
@[simp] theorem State.setSdi_reviews (s : State) (k : Nat) (f : Sdi → Sdi) : (s.setSdi k f).reviews = s.reviews := rfl
@[simp] theorem State.setSdi_mem (s : State) (k : Nat) (f : Sdi → Sdi) : (s.setSdi k f).mem = s.mem := rfl
@[simp] theorem State.setSdi_store (s : State) (k : Nat) (f : Sdi → Sdi) : (s.setSdi k f).store = s.store := rfl
@[simp] theorem State.setSdi_sdi_length (s : State) (k : Nat) (f : Sdi → Sdi) : (s.setSdi k f).sdi.length = s.sdi.length := upd_length _ _ _
theorem State.setSdi_sdi_same (s : State) (k : Nat) (f : Sdi → Sdi) (h : k < s.sdi.length) : at! (s.setSdi k f).sdi k = f (at! s.sdi k) := at!_upd_same f h
theorem State.setSdi_sdi_other (s : State) {i : Nat} (k : Nat) (f : Sdi → Sdi) (h : i ≠ k) : at! (s.setSdi k f).sdi i = at! s.sdi i := at!_upd_other s.sdi f h

/-! ### setHead -/

@[simp] theorem State.setHead_pending (s : State) (k : Nat) (f : Head → Head) : (s.setHead k f).pending = s.pending := rfl
@[simp] theorem State.setHead_sys (s : State) (k : Nat) (f : Head → Head) : (s.setHead k f).sys = s.sys := rfl
@[simp] theorem State.setHead_sec (s : State) (k : Nat) (f : Head → Head) : (s.setHead k f).sec = s.sec := rfl
@[simp] theorem State.setHead_units (s : State) (k : Nat) (f : Head → Head) : (s.setHead k f).units = s.units := rfl
@[simp] theorem State.setHead_therm (s : State) (k : Nat) (f : Head → Head) : (s.setHead k f).therm = s.therm := rfl
@[simp] theorem State.setHead_slack (s : State) (k : Nat) (f : Head → Head) : (s.setHead k f).slack = s.slack := rfl
@[simp] theorem State.setHead_holds (s : State) (k : Nat) (f : Head → Head) : (s.setHead k f).holds = s.holds := rfl
@[simp] theorem State.setHead_calHeldAt (s : State) (k : Nat) (f : Head → Head) : (s.setHead k f).calHeldAt = s.calHeldAt := rfl
@[simp] theorem State.setHead_drawers (s : State) (k : Nat) (f : Head → Head) : (s.setHead k f).drawers = s.drawers := rfl
@[simp] theorem State.setHead_rejects (s : State) (k : Nat) (f : Head → Head) : (s.setHead k f).rejects = s.rejects := rfl
@[simp] theorem State.setHead_readData (s : State) (k : Nat) (f : Head → Head) : (s.setHead k f).readData = s.readData := rfl
@[simp] theorem State.setHead_ev (s : State) (k : Nat) (f : Head → Head) : (s.setHead k f).ev = s.ev := rfl
@[simp] theorem State.setHead_hostMem (s : State) (k : Nat) (f : Head → Head) : (s.setHead k f).hostMem = s.hostMem := rfl
@[simp] theorem State.setHead_bufs (s : State) (k : Nat) (f : Head → Head) : (s.setHead k f).bufs = s.bufs := rfl
@[simp] theorem State.setHead_net (s : State) (k : Nat) (f : Head → Head) : (s.setHead k f).net = s.net := rfl
@[simp] theorem State.setHead_time (s : State) (k : Nat) (f : Head → Head) : (s.setHead k f).time = s.time := rfl
@[simp] theorem State.setHead_holdTable (s : State) (k : Nat) (f : Head → Head) : (s.setHead k f).holdTable = s.holdTable := rfl
@[simp] theorem State.setHead_holdSample (s : State) (k : Nat) (f : Head → Head) : (s.setHead k f).holdSample = s.holdSample := rfl
@[simp] theorem State.setHead_audio (s : State) (k : Nat) (f : Head → Head) : (s.setHead k f).audio = s.audio := rfl
@[simp] theorem State.setHead_shelves (s : State) (k : Nat) (f : Head → Head) : (s.setHead k f).shelves = s.shelves := rfl
@[simp] theorem State.setHead_planCtr (s : State) (k : Nat) (f : Head → Head) : (s.setHead k f).planCtr = s.planCtr := rfl
@[simp] theorem State.setHead_ports (s : State) (k : Nat) (f : Head → Head) : (s.setHead k f).ports = s.ports := rfl
@[simp] theorem State.setHead_sensors (s : State) (k : Nat) (f : Head → Head) : (s.setHead k f).sensors = s.sensors := rfl
@[simp] theorem State.setHead_table (s : State) (k : Nat) (f : Head → Head) : (s.setHead k f).table = s.table := rfl
@[simp] theorem State.setHead_fePos (s : State) (k : Nat) (f : Head → Head) : (s.setHead k f).fePos = s.fePos := rfl
@[simp] theorem State.setHead_csPos (s : State) (k : Nat) (f : Head → Head) : (s.setHead k f).csPos = s.csPos := rfl
@[simp] theorem State.setHead_rend (s : State) (k : Nat) (f : Head → Head) : (s.setHead k f).rend = s.rend := rfl
@[simp] theorem State.setHead_ctxs (s : State) (k : Nat) (f : Head → Head) : (s.setHead k f).ctxs = s.ctxs := rfl
@[simp] theorem State.setHead_engines (s : State) (k : Nat) (f : Head → Head) : (s.setHead k f).engines = s.engines := rfl
@[simp] theorem State.setHead_sdi (s : State) (k : Nat) (f : Head → Head) : (s.setHead k f).sdi = s.sdi := rfl
@[simp] theorem State.setHead_hostRings (s : State) (k : Nat) (f : Head → Head) : (s.setHead k f).hostRings = s.hostRings := rfl
@[simp] theorem State.setHead_reviews (s : State) (k : Nat) (f : Head → Head) : (s.setHead k f).reviews = s.reviews := rfl
@[simp] theorem State.setHead_mem (s : State) (k : Nat) (f : Head → Head) : (s.setHead k f).mem = s.mem := rfl
@[simp] theorem State.setHead_store (s : State) (k : Nat) (f : Head → Head) : (s.setHead k f).store = s.store := rfl

/-! ### setShelf -/

@[simp] theorem State.setShelf_pending (s : State) (k : Nat) (f : Shelf → Shelf) : (s.setShelf k f).pending = s.pending := rfl
@[simp] theorem State.setShelf_sys (s : State) (k : Nat) (f : Shelf → Shelf) : (s.setShelf k f).sys = s.sys := rfl
@[simp] theorem State.setShelf_sec (s : State) (k : Nat) (f : Shelf → Shelf) : (s.setShelf k f).sec = s.sec := rfl
@[simp] theorem State.setShelf_units (s : State) (k : Nat) (f : Shelf → Shelf) : (s.setShelf k f).units = s.units := rfl
@[simp] theorem State.setShelf_therm (s : State) (k : Nat) (f : Shelf → Shelf) : (s.setShelf k f).therm = s.therm := rfl
@[simp] theorem State.setShelf_slack (s : State) (k : Nat) (f : Shelf → Shelf) : (s.setShelf k f).slack = s.slack := rfl
@[simp] theorem State.setShelf_holds (s : State) (k : Nat) (f : Shelf → Shelf) : (s.setShelf k f).holds = s.holds := rfl
@[simp] theorem State.setShelf_calHeldAt (s : State) (k : Nat) (f : Shelf → Shelf) : (s.setShelf k f).calHeldAt = s.calHeldAt := rfl
@[simp] theorem State.setShelf_drawers (s : State) (k : Nat) (f : Shelf → Shelf) : (s.setShelf k f).drawers = s.drawers := rfl
@[simp] theorem State.setShelf_rejects (s : State) (k : Nat) (f : Shelf → Shelf) : (s.setShelf k f).rejects = s.rejects := rfl
@[simp] theorem State.setShelf_readData (s : State) (k : Nat) (f : Shelf → Shelf) : (s.setShelf k f).readData = s.readData := rfl
@[simp] theorem State.setShelf_ev (s : State) (k : Nat) (f : Shelf → Shelf) : (s.setShelf k f).ev = s.ev := rfl
@[simp] theorem State.setShelf_hostMem (s : State) (k : Nat) (f : Shelf → Shelf) : (s.setShelf k f).hostMem = s.hostMem := rfl
@[simp] theorem State.setShelf_bufs (s : State) (k : Nat) (f : Shelf → Shelf) : (s.setShelf k f).bufs = s.bufs := rfl
@[simp] theorem State.setShelf_net (s : State) (k : Nat) (f : Shelf → Shelf) : (s.setShelf k f).net = s.net := rfl
@[simp] theorem State.setShelf_time (s : State) (k : Nat) (f : Shelf → Shelf) : (s.setShelf k f).time = s.time := rfl
@[simp] theorem State.setShelf_holdTable (s : State) (k : Nat) (f : Shelf → Shelf) : (s.setShelf k f).holdTable = s.holdTable := rfl
@[simp] theorem State.setShelf_holdSample (s : State) (k : Nat) (f : Shelf → Shelf) : (s.setShelf k f).holdSample = s.holdSample := rfl
@[simp] theorem State.setShelf_audio (s : State) (k : Nat) (f : Shelf → Shelf) : (s.setShelf k f).audio = s.audio := rfl
@[simp] theorem State.setShelf_planCtr (s : State) (k : Nat) (f : Shelf → Shelf) : (s.setShelf k f).planCtr = s.planCtr := rfl
@[simp] theorem State.setShelf_ports (s : State) (k : Nat) (f : Shelf → Shelf) : (s.setShelf k f).ports = s.ports := rfl
@[simp] theorem State.setShelf_sensors (s : State) (k : Nat) (f : Shelf → Shelf) : (s.setShelf k f).sensors = s.sensors := rfl
@[simp] theorem State.setShelf_table (s : State) (k : Nat) (f : Shelf → Shelf) : (s.setShelf k f).table = s.table := rfl
@[simp] theorem State.setShelf_fePos (s : State) (k : Nat) (f : Shelf → Shelf) : (s.setShelf k f).fePos = s.fePos := rfl
@[simp] theorem State.setShelf_csPos (s : State) (k : Nat) (f : Shelf → Shelf) : (s.setShelf k f).csPos = s.csPos := rfl
@[simp] theorem State.setShelf_rend (s : State) (k : Nat) (f : Shelf → Shelf) : (s.setShelf k f).rend = s.rend := rfl
@[simp] theorem State.setShelf_ctxs (s : State) (k : Nat) (f : Shelf → Shelf) : (s.setShelf k f).ctxs = s.ctxs := rfl
@[simp] theorem State.setShelf_engines (s : State) (k : Nat) (f : Shelf → Shelf) : (s.setShelf k f).engines = s.engines := rfl
@[simp] theorem State.setShelf_sdi (s : State) (k : Nat) (f : Shelf → Shelf) : (s.setShelf k f).sdi = s.sdi := rfl
@[simp] theorem State.setShelf_disp (s : State) (k : Nat) (f : Shelf → Shelf) : (s.setShelf k f).disp = s.disp := rfl
@[simp] theorem State.setShelf_hostRings (s : State) (k : Nat) (f : Shelf → Shelf) : (s.setShelf k f).hostRings = s.hostRings := rfl
@[simp] theorem State.setShelf_reviews (s : State) (k : Nat) (f : Shelf → Shelf) : (s.setShelf k f).reviews = s.reviews := rfl
@[simp] theorem State.setShelf_mem (s : State) (k : Nat) (f : Shelf → Shelf) : (s.setShelf k f).mem = s.mem := rfl
@[simp] theorem State.setShelf_store (s : State) (k : Nat) (f : Shelf → Shelf) : (s.setShelf k f).store = s.store := rfl
@[simp] theorem State.setShelf_shelves_length (s : State) (k : Nat) (f : Shelf → Shelf) : (s.setShelf k f).shelves.length = s.shelves.length := upd_length _ _ _
theorem State.setShelf_shelves_same (s : State) (k : Nat) (f : Shelf → Shelf) (h : k < s.shelves.length) : at! (s.setShelf k f).shelves k = f (at! s.shelves k) := at!_upd_same f h
theorem State.setShelf_shelves_other (s : State) {i : Nat} (k : Nat) (f : Shelf → Shelf) (h : i ≠ k) : at! (s.setShelf k f).shelves i = at! s.shelves i := at!_upd_other s.shelves f h

/-! ### setSession -/

@[simp] theorem State.setSession_pending (s : State) (k : Nat) (f : Session → Session) : (s.setSession k f).pending = s.pending := rfl
@[simp] theorem State.setSession_sys (s : State) (k : Nat) (f : Session → Session) : (s.setSession k f).sys = s.sys := rfl
@[simp] theorem State.setSession_units (s : State) (k : Nat) (f : Session → Session) : (s.setSession k f).units = s.units := rfl
@[simp] theorem State.setSession_therm (s : State) (k : Nat) (f : Session → Session) : (s.setSession k f).therm = s.therm := rfl
@[simp] theorem State.setSession_slack (s : State) (k : Nat) (f : Session → Session) : (s.setSession k f).slack = s.slack := rfl
@[simp] theorem State.setSession_holds (s : State) (k : Nat) (f : Session → Session) : (s.setSession k f).holds = s.holds := rfl
@[simp] theorem State.setSession_calHeldAt (s : State) (k : Nat) (f : Session → Session) : (s.setSession k f).calHeldAt = s.calHeldAt := rfl
@[simp] theorem State.setSession_drawers (s : State) (k : Nat) (f : Session → Session) : (s.setSession k f).drawers = s.drawers := rfl
@[simp] theorem State.setSession_rejects (s : State) (k : Nat) (f : Session → Session) : (s.setSession k f).rejects = s.rejects := rfl
@[simp] theorem State.setSession_readData (s : State) (k : Nat) (f : Session → Session) : (s.setSession k f).readData = s.readData := rfl
@[simp] theorem State.setSession_ev (s : State) (k : Nat) (f : Session → Session) : (s.setSession k f).ev = s.ev := rfl
@[simp] theorem State.setSession_hostMem (s : State) (k : Nat) (f : Session → Session) : (s.setSession k f).hostMem = s.hostMem := rfl
@[simp] theorem State.setSession_bufs (s : State) (k : Nat) (f : Session → Session) : (s.setSession k f).bufs = s.bufs := rfl
@[simp] theorem State.setSession_net (s : State) (k : Nat) (f : Session → Session) : (s.setSession k f).net = s.net := rfl
@[simp] theorem State.setSession_time (s : State) (k : Nat) (f : Session → Session) : (s.setSession k f).time = s.time := rfl
@[simp] theorem State.setSession_holdTable (s : State) (k : Nat) (f : Session → Session) : (s.setSession k f).holdTable = s.holdTable := rfl
@[simp] theorem State.setSession_holdSample (s : State) (k : Nat) (f : Session → Session) : (s.setSession k f).holdSample = s.holdSample := rfl
@[simp] theorem State.setSession_audio (s : State) (k : Nat) (f : Session → Session) : (s.setSession k f).audio = s.audio := rfl
@[simp] theorem State.setSession_shelves (s : State) (k : Nat) (f : Session → Session) : (s.setSession k f).shelves = s.shelves := rfl
@[simp] theorem State.setSession_planCtr (s : State) (k : Nat) (f : Session → Session) : (s.setSession k f).planCtr = s.planCtr := rfl
@[simp] theorem State.setSession_ports (s : State) (k : Nat) (f : Session → Session) : (s.setSession k f).ports = s.ports := rfl
@[simp] theorem State.setSession_sensors (s : State) (k : Nat) (f : Session → Session) : (s.setSession k f).sensors = s.sensors := rfl
@[simp] theorem State.setSession_table (s : State) (k : Nat) (f : Session → Session) : (s.setSession k f).table = s.table := rfl
@[simp] theorem State.setSession_fePos (s : State) (k : Nat) (f : Session → Session) : (s.setSession k f).fePos = s.fePos := rfl
@[simp] theorem State.setSession_csPos (s : State) (k : Nat) (f : Session → Session) : (s.setSession k f).csPos = s.csPos := rfl
@[simp] theorem State.setSession_rend (s : State) (k : Nat) (f : Session → Session) : (s.setSession k f).rend = s.rend := rfl
@[simp] theorem State.setSession_ctxs (s : State) (k : Nat) (f : Session → Session) : (s.setSession k f).ctxs = s.ctxs := rfl
@[simp] theorem State.setSession_engines (s : State) (k : Nat) (f : Session → Session) : (s.setSession k f).engines = s.engines := rfl
@[simp] theorem State.setSession_sdi (s : State) (k : Nat) (f : Session → Session) : (s.setSession k f).sdi = s.sdi := rfl
@[simp] theorem State.setSession_disp (s : State) (k : Nat) (f : Session → Session) : (s.setSession k f).disp = s.disp := rfl
@[simp] theorem State.setSession_hostRings (s : State) (k : Nat) (f : Session → Session) : (s.setSession k f).hostRings = s.hostRings := rfl
@[simp] theorem State.setSession_reviews (s : State) (k : Nat) (f : Session → Session) : (s.setSession k f).reviews = s.reviews := rfl
@[simp] theorem State.setSession_mem (s : State) (k : Nat) (f : Session → Session) : (s.setSession k f).mem = s.mem := rfl
@[simp] theorem State.setSession_store (s : State) (k : Nat) (f : Session → Session) : (s.setSession k f).store = s.store := rfl

/-! ### setPair -/

@[simp] theorem State.setPair_pending (s : State) (k : Nat) (f : QPair → QPair) : (s.setPair k f).pending = s.pending := rfl
@[simp] theorem State.setPair_sys (s : State) (k : Nat) (f : QPair → QPair) : (s.setPair k f).sys = s.sys := rfl
@[simp] theorem State.setPair_sec (s : State) (k : Nat) (f : QPair → QPair) : (s.setPair k f).sec = s.sec := rfl
@[simp] theorem State.setPair_units (s : State) (k : Nat) (f : QPair → QPair) : (s.setPair k f).units = s.units := rfl
@[simp] theorem State.setPair_therm (s : State) (k : Nat) (f : QPair → QPair) : (s.setPair k f).therm = s.therm := rfl
@[simp] theorem State.setPair_slack (s : State) (k : Nat) (f : QPair → QPair) : (s.setPair k f).slack = s.slack := rfl
@[simp] theorem State.setPair_holds (s : State) (k : Nat) (f : QPair → QPair) : (s.setPair k f).holds = s.holds := rfl
@[simp] theorem State.setPair_calHeldAt (s : State) (k : Nat) (f : QPair → QPair) : (s.setPair k f).calHeldAt = s.calHeldAt := rfl
@[simp] theorem State.setPair_drawers (s : State) (k : Nat) (f : QPair → QPair) : (s.setPair k f).drawers = s.drawers := rfl
@[simp] theorem State.setPair_rejects (s : State) (k : Nat) (f : QPair → QPair) : (s.setPair k f).rejects = s.rejects := rfl
@[simp] theorem State.setPair_readData (s : State) (k : Nat) (f : QPair → QPair) : (s.setPair k f).readData = s.readData := rfl
@[simp] theorem State.setPair_ev (s : State) (k : Nat) (f : QPair → QPair) : (s.setPair k f).ev = s.ev := rfl
@[simp] theorem State.setPair_hostMem (s : State) (k : Nat) (f : QPair → QPair) : (s.setPair k f).hostMem = s.hostMem := rfl
@[simp] theorem State.setPair_bufs (s : State) (k : Nat) (f : QPair → QPair) : (s.setPair k f).bufs = s.bufs := rfl
@[simp] theorem State.setPair_net (s : State) (k : Nat) (f : QPair → QPair) : (s.setPair k f).net = s.net := rfl
@[simp] theorem State.setPair_time (s : State) (k : Nat) (f : QPair → QPair) : (s.setPair k f).time = s.time := rfl
@[simp] theorem State.setPair_holdTable (s : State) (k : Nat) (f : QPair → QPair) : (s.setPair k f).holdTable = s.holdTable := rfl
@[simp] theorem State.setPair_holdSample (s : State) (k : Nat) (f : QPair → QPair) : (s.setPair k f).holdSample = s.holdSample := rfl
@[simp] theorem State.setPair_audio (s : State) (k : Nat) (f : QPair → QPair) : (s.setPair k f).audio = s.audio := rfl
@[simp] theorem State.setPair_shelves (s : State) (k : Nat) (f : QPair → QPair) : (s.setPair k f).shelves = s.shelves := rfl
@[simp] theorem State.setPair_planCtr (s : State) (k : Nat) (f : QPair → QPair) : (s.setPair k f).planCtr = s.planCtr := rfl
@[simp] theorem State.setPair_ports (s : State) (k : Nat) (f : QPair → QPair) : (s.setPair k f).ports = s.ports := rfl
@[simp] theorem State.setPair_sensors (s : State) (k : Nat) (f : QPair → QPair) : (s.setPair k f).sensors = s.sensors := rfl
@[simp] theorem State.setPair_table (s : State) (k : Nat) (f : QPair → QPair) : (s.setPair k f).table = s.table := rfl
@[simp] theorem State.setPair_fePos (s : State) (k : Nat) (f : QPair → QPair) : (s.setPair k f).fePos = s.fePos := rfl
@[simp] theorem State.setPair_csPos (s : State) (k : Nat) (f : QPair → QPair) : (s.setPair k f).csPos = s.csPos := rfl
@[simp] theorem State.setPair_rend (s : State) (k : Nat) (f : QPair → QPair) : (s.setPair k f).rend = s.rend := rfl
@[simp] theorem State.setPair_ctxs (s : State) (k : Nat) (f : QPair → QPair) : (s.setPair k f).ctxs = s.ctxs := rfl
@[simp] theorem State.setPair_engines (s : State) (k : Nat) (f : QPair → QPair) : (s.setPair k f).engines = s.engines := rfl
@[simp] theorem State.setPair_sdi (s : State) (k : Nat) (f : QPair → QPair) : (s.setPair k f).sdi = s.sdi := rfl
@[simp] theorem State.setPair_disp (s : State) (k : Nat) (f : QPair → QPair) : (s.setPair k f).disp = s.disp := rfl
@[simp] theorem State.setPair_hostRings (s : State) (k : Nat) (f : QPair → QPair) : (s.setPair k f).hostRings = s.hostRings := rfl
@[simp] theorem State.setPair_reviews (s : State) (k : Nat) (f : QPair → QPair) : (s.setPair k f).reviews = s.reviews := rfl
@[simp] theorem State.setPair_mem (s : State) (k : Nat) (f : QPair → QPair) : (s.setPair k f).mem = s.mem := rfl

/-! ### setCmd -/

@[simp] theorem State.setCmd_pending (s : State) (k cid : Nat) (f : StoreCmd → StoreCmd) : (s.setCmd k cid f).pending = s.pending := rfl
@[simp] theorem State.setCmd_sys (s : State) (k cid : Nat) (f : StoreCmd → StoreCmd) : (s.setCmd k cid f).sys = s.sys := rfl
@[simp] theorem State.setCmd_sec (s : State) (k cid : Nat) (f : StoreCmd → StoreCmd) : (s.setCmd k cid f).sec = s.sec := rfl
@[simp] theorem State.setCmd_units (s : State) (k cid : Nat) (f : StoreCmd → StoreCmd) : (s.setCmd k cid f).units = s.units := rfl
@[simp] theorem State.setCmd_therm (s : State) (k cid : Nat) (f : StoreCmd → StoreCmd) : (s.setCmd k cid f).therm = s.therm := rfl
@[simp] theorem State.setCmd_slack (s : State) (k cid : Nat) (f : StoreCmd → StoreCmd) : (s.setCmd k cid f).slack = s.slack := rfl
@[simp] theorem State.setCmd_holds (s : State) (k cid : Nat) (f : StoreCmd → StoreCmd) : (s.setCmd k cid f).holds = s.holds := rfl
@[simp] theorem State.setCmd_calHeldAt (s : State) (k cid : Nat) (f : StoreCmd → StoreCmd) : (s.setCmd k cid f).calHeldAt = s.calHeldAt := rfl
@[simp] theorem State.setCmd_drawers (s : State) (k cid : Nat) (f : StoreCmd → StoreCmd) : (s.setCmd k cid f).drawers = s.drawers := rfl
@[simp] theorem State.setCmd_rejects (s : State) (k cid : Nat) (f : StoreCmd → StoreCmd) : (s.setCmd k cid f).rejects = s.rejects := rfl
@[simp] theorem State.setCmd_readData (s : State) (k cid : Nat) (f : StoreCmd → StoreCmd) : (s.setCmd k cid f).readData = s.readData := rfl
@[simp] theorem State.setCmd_ev (s : State) (k cid : Nat) (f : StoreCmd → StoreCmd) : (s.setCmd k cid f).ev = s.ev := rfl
@[simp] theorem State.setCmd_hostMem (s : State) (k cid : Nat) (f : StoreCmd → StoreCmd) : (s.setCmd k cid f).hostMem = s.hostMem := rfl
@[simp] theorem State.setCmd_bufs (s : State) (k cid : Nat) (f : StoreCmd → StoreCmd) : (s.setCmd k cid f).bufs = s.bufs := rfl
@[simp] theorem State.setCmd_net (s : State) (k cid : Nat) (f : StoreCmd → StoreCmd) : (s.setCmd k cid f).net = s.net := rfl
@[simp] theorem State.setCmd_time (s : State) (k cid : Nat) (f : StoreCmd → StoreCmd) : (s.setCmd k cid f).time = s.time := rfl
@[simp] theorem State.setCmd_holdTable (s : State) (k cid : Nat) (f : StoreCmd → StoreCmd) : (s.setCmd k cid f).holdTable = s.holdTable := rfl
@[simp] theorem State.setCmd_holdSample (s : State) (k cid : Nat) (f : StoreCmd → StoreCmd) : (s.setCmd k cid f).holdSample = s.holdSample := rfl
@[simp] theorem State.setCmd_audio (s : State) (k cid : Nat) (f : StoreCmd → StoreCmd) : (s.setCmd k cid f).audio = s.audio := rfl
@[simp] theorem State.setCmd_shelves (s : State) (k cid : Nat) (f : StoreCmd → StoreCmd) : (s.setCmd k cid f).shelves = s.shelves := rfl
@[simp] theorem State.setCmd_planCtr (s : State) (k cid : Nat) (f : StoreCmd → StoreCmd) : (s.setCmd k cid f).planCtr = s.planCtr := rfl
@[simp] theorem State.setCmd_ports (s : State) (k cid : Nat) (f : StoreCmd → StoreCmd) : (s.setCmd k cid f).ports = s.ports := rfl
@[simp] theorem State.setCmd_sensors (s : State) (k cid : Nat) (f : StoreCmd → StoreCmd) : (s.setCmd k cid f).sensors = s.sensors := rfl
@[simp] theorem State.setCmd_table (s : State) (k cid : Nat) (f : StoreCmd → StoreCmd) : (s.setCmd k cid f).table = s.table := rfl
@[simp] theorem State.setCmd_fePos (s : State) (k cid : Nat) (f : StoreCmd → StoreCmd) : (s.setCmd k cid f).fePos = s.fePos := rfl
@[simp] theorem State.setCmd_csPos (s : State) (k cid : Nat) (f : StoreCmd → StoreCmd) : (s.setCmd k cid f).csPos = s.csPos := rfl
@[simp] theorem State.setCmd_rend (s : State) (k cid : Nat) (f : StoreCmd → StoreCmd) : (s.setCmd k cid f).rend = s.rend := rfl
@[simp] theorem State.setCmd_ctxs (s : State) (k cid : Nat) (f : StoreCmd → StoreCmd) : (s.setCmd k cid f).ctxs = s.ctxs := rfl
@[simp] theorem State.setCmd_engines (s : State) (k cid : Nat) (f : StoreCmd → StoreCmd) : (s.setCmd k cid f).engines = s.engines := rfl
@[simp] theorem State.setCmd_sdi (s : State) (k cid : Nat) (f : StoreCmd → StoreCmd) : (s.setCmd k cid f).sdi = s.sdi := rfl
@[simp] theorem State.setCmd_disp (s : State) (k cid : Nat) (f : StoreCmd → StoreCmd) : (s.setCmd k cid f).disp = s.disp := rfl
@[simp] theorem State.setCmd_hostRings (s : State) (k cid : Nat) (f : StoreCmd → StoreCmd) : (s.setCmd k cid f).hostRings = s.hostRings := rfl
@[simp] theorem State.setCmd_reviews (s : State) (k cid : Nat) (f : StoreCmd → StoreCmd) : (s.setCmd k cid f).reviews = s.reviews := rfl
@[simp] theorem State.setCmd_mem (s : State) (k cid : Nat) (f : StoreCmd → StoreCmd) : (s.setCmd k cid f).mem = s.mem := rfl

end Sys2Proof.Machine
end

