-- ==== Sys2Proof/Tests/Slice0.lean ====
section
/-! SUPPORT. Tests. First, ill-formed commands that WellFormed refuses. Then, for each statement with hypotheses (named in the witness), concrete
states and operands that meet them, and the next state that exec answers there: `runs` for the commands of a Drawer, `did` for the others. Operands
stand at the end of their range where the statement names one: the last port, lane, entry, context or unit, and the last value before a limit. -/

namespace Sys2Proof.Tests

set_option Elab.async false

open Sys2Proof Sys2Proof.Machine

/-! ### Well-formedness: an ill-formed term for each check -/

theorem test_ill_formed_number_1 : List.all ([.porstNRelease false 4 0, .memberReadyTimeout 4, .alignmentMarker 0 8 default, .alignmentLoss
    0 8, .eyeWindowEnd 0 8 default, .patternTestEnd 0 8 0, .perforationEdge 32 false, .groupDeal 16, .staleLimit 0 3, .colourGroupDeal 24,
    .renditionFrameComplete 16 0, .pictureBoundary 2, .decodeWatchdog 2 0, .decodeWatchdog 0 32, .bitstreamCopy 2 0, .bitstreamCopy 0 32,
    .byteRingWrite 16, .sdiUnderrun 4, .dispUnderrun 2, .hpdDeassert 2, .hpdAssert 2 default, .hpdIrq 2 false, .sqTailDoorbell 0 ⟨2 ^ 32, []⟩,
    .cqHeadDoorbell 0 (2 ^ 32)] : List Instr) (fun i => !i.wf) = true := by decide

theorem test_ill_formed_number_2 : List.all ([.writeRecord 0 65536, .readRecord 0 65536, .verifyRecord 0 65536, .trimClip 0 65536, .flush 0
    65536, .abort 0 65536, .identify 0 65536, .getLogPage 0 65536, .getFeatures 0 65536, .setFeatures 0 65536, .firmwareDownload 0 65536,
    .firmwareCommit 0 65536, .powerState 0 65536, .nvmeCompletion 4 0 false default, .nvmeCommandTimeout 4 0, .nvmeAbortTimeout 4 0 false,
    .memberFlushTimer 4, .cellarCommandSlot 12, .refreshDue 12 0, .refreshDue 0 16, .mr4Poll 12 0, .mr4Poll 0 32, .scrubStep 64, .throttleExpiry
    8] : List Instr) (fun i => !i.wf) = true := by decide

theorem test_ill_formed_number_3 : List.all ([.compareFire 8, .captureEdge 32 false, .audioFrame 3 default, .audioClockStop 3, .zcTimeout 3,
    .doorbell ⟨2 ^ 32, []⟩, .drawerRelease (2 ^ 32), .eqEnable (2 ^ 32), .eqHead (2 ^ 32), .coalesceTimer 64, .scrubSlow 64, .comparePulseEnd 8] :
    List Instr) (fun i => !i.wf) = true := by decide

theorem test_ill_formed_port : List.all ([.ckPresent 4, .ckLoss 4, .trainingTimeout 4, .alignmentMarker 4 0 default, .alignmentLoss 4 0,
    .frameStart 4 default, .rowData 4 default, .frameEnd 4 default, .sleep 4 default, .embedded 4 default, .reply 4 default, .bcReplyTimeout 4,
    .sleepOverrun 4, .backChannelSleep 4, .trigger 4, .eyeWindowEnd 4 0 default, .patternTestEnd 4 0 0, .firmwarePageCommit 4 default,
    .staleLimit 4 0, .headerError 4 default] : List Instr) (fun i => !i.wf) = true := by decide

theorem test_ill_formed_operand : List.all ([.sourceTicketIssue (.sensor 4), .sourceTicketIssue (.decode 2 0), .sourceTicketIssue (.decode 0
    32), .sourceTicketIssue (.review 16), .latch (.sdi 4), .arbiterGrant 64 [], .arbiterGrant 140 [], .registerWrite (2 ^ 16) 1 0,
    .registerWrite 0 3 0, .registerWrite 0 8 (2 ^ 64), .residueMismatch ⟨5,0⟩ 0 0 none, .residueMismatch ⟨0,0⟩ 16 0 none, .thermalSample []] :
    List Instr) (fun i => !i.wf) = true := by decide

theorem test_ill_formed_entry : List.all ([.entryRetire 16, .groupLeave 16, .calibrationUpdate 16, .rawGroupStart 16, .rawGroupCommit 16,
    .renditionFrameComplete 0 16, .colourGroupLeave 16] : List Instr) (fun i => !i.wf) = true := by decide

theorem test_ill_formed_queue : List.all ([.sqTailDoorbell 4 ⟨0, []⟩, .cqHeadDoorbell 4 0, .entryFetch 4, .completionPost 4, .writeRecord 4 0,
    .readRecord 4 0, .verifyRecord 4 0, .trimClip 4 0, .flush 4 0, .abort 4 0, .identify 4 0, .getLogPage 4 0, .getFeatures 4 0, .setFeatures 4
    0, .firmwareDownload 4 0, .firmwareCommit 4 0, .powerState 4 0] : List Instr) (fun i => !i.wf) = true := by decide

/-! ### States and operands -/

/-- The device served by firmware at STAGE 2 in Maintenance mode. -/
def up : State := { State.reset with sys := { State.reset.sys with stage := 2 } }

/-- `up` with COUNT at `n`. -/
def at' (n : Nat) : State := { up with time := { up.time with count := n } }

/-- A command of opcode `op` with payload `p`. -/
def cmdOf (op : Nat) (p : Bytes) : DrawerCmd := { opcode := op, length := p.length, payload := p }

/-- Drawer 0 of `s` holds the accepted command. -/
def busy (op : Nat) (p : Bytes) (s : State) : State := s.setDrawer 0 fun x => { x with st := .busy, cmd := cmdOf op p }

/-- A payload of 32-bit words. -/
def w (l : List Nat) : Bytes := l.flatMap (le 4)

/-- A payload of words, two 64-bit fields (a buffer), and words. -/
def q (a b : Nat) (l : List Nat) (t : List Nat) : Bytes := w l ++ le 8 a ++ le 8 b ++ w t

/-- A rendition slot that sends to a host ring, and one that sends to a context. -/
def slot0 : GraphSlot := { enable := true, destKind := 3, destId := 0, cropW := 8, cropH := 32, outW := 8, outH := 8 }

@[inherit_doc slot0]
def slot1 : GraphSlot := { slot0 with destKind := 2 }

/-- The profile of a two-gain port of 8 by 32. -/
def profile0 : PortProfile := { members := [0], width := 8, rows := 32, gains := 2, expMax := 1000, gainMax := 1000, rowPeriod := 10, framePeriod := 1000 }

/-- A plan that drives port 0, with an encode context, two decode contexts, SDI0 and the display. -/
def plan0 : Plan :=
  { ports := 1, portPlans := [{ profile := profile0 }], units := List.replicate 16 {}, graph := [slot0, slot1]
    hevc := [{ enable := true, ltrMax := 1, outKind := 3, outId := 1 }, { enable := true, decode := true }, { enable := true, decode := true, inClip := true }]
    sdi := [{ mode := 1 }], display := { enable := true, hActive := 1, vActive := 1 } }

/-- `up` with a plan active on port 0 and one registered buffer. -/
def with' (p : Plan) : State :=
  { up with shelves := up.shelves.set 0 { st := .active, plan := some p, gen := 1 }, sensors := upd up.sensors 0 fun x => { x with shelf := some 0 }
            bufs := [{ id := 1, addr := 4096, len := 2 ^ 24, write := true }] }

/-- `with'` of `plan0`. -/
def run : State := with' plan0

/-- The Drawer's command is accepted, and its meaning posts OK or begins. -/
def runs (i : Instr) (op : Nat) (p : Bytes) (s : State) : Bool :=
  (busy op p s).accepted 0 op (cmdOf op p) && (match exec i (busy op p s) with
    | .next t => ((t.drawer 0).st == .done && (t.drawer 0).res.status == 0) || ((t.drawer 0).st == .busy && (t.drawer 0).begun)
    | _ => false)

/-- The command answers a next state with the property `p`. -/
def answers (i : Instr) (s : State) (p : State → Bool) : Bool := match exec i s with
  | .next t => p t
  | _ => false

/-- On a running core, the command answers a next state with the property `p`. -/
def did (i : Instr) (s : State) (p : State → Bool) : Bool := s.live && answers i s p

/-- The core is held by PORST_N. -/
def heldCore : State := { up with sys := { up.sys with held := true } }

/-- Store command `e`, fetched from the admin pair, with CID 1. -/
def admin (e : SqEntry) (s : State) : State := { s with store := { s.store with cmds := [{ q := 4, entry := { e with cid := 1 } }] } }

/-- Store command `e`, fetched from I/O pair 0, with CID 1. -/
def io (e : SqEntry) (s : State) : State := { s with store := { s.store with cmds := [{ entry := { e with cid := 1 } }] } }

/-- The Store command has completed with OK. -/
def okd (t : State) : Bool := t.store.cmds.isEmpty && t.store.pairs.any fun p => p.any fun p => p.held.any fun c => c.cid == 1 && c.status == Status.ok

/-- NVMe command `c` is outstanding on member 0 while bring-up runs. -/
def init0 (c : NvmeCmd) (done : List Bool) (s : State) : State :=
  { s with store := { s.store with members := upd s.store.members 0 fun m => { m with cmds := [c] } }
           sys := { s.sys with bringUp := { s.sys.bringUp with running := true, memberDone := done, trainDone := true } } }

/-- An I/O queue pair and the admin pair exist. -/
def pairs (s : State) : State := { s with store := { s.store with pairs := [some {}, none, none, none, some {}] } }

/-- An Announce of clock `n`, one a second. -/
def ann (n : Nat) : AnnounceMsg := { (default : AnnounceMsg) with domain := 127, clockId := n, interval := 1000000000 }

/-- The time base changed by `f`. -/
def tm (f : TimeState → TimeState) (s : State) : State := { s with time := f s.time }

/-- Follower mode. -/
def fol (s : State) : State := tm (fun t => { t with cfg := { t.cfg with follower := true } }) s

/-- Locked to master 1. -/
def mast (s : State) : State := tm (fun t => { t with best := some (ann 1), st := .locked }) (fol s)

/-- The symbols of a packet on one lane (R66 to R68). -/
def spell (k : LinkPacket) : LinkRun := { lanes := [[precode 0 (grayBytes k.bytes)]] }

/-- A plan whose port runs one lane. -/
def link0 (p : PortProfile) : State := with' { plan0 with portPlans := [{ profile := { p with laneCount := 1 } }] }

/-- Port 0 of a started sensor is Up, and frame 4 of table entry 0 has its ticket. -/
def upPort (p : PortProfile) (f : FramePart) : State :=
  { ((link0 p).setPort 0 fun x => { x with st := .up, ck := true, part := f }).setSensor 0 (fun x => { x with started := true, nextFrame := 5, upcoming := some (4, some 0) }) with
    table := up.table.set 0 (some { (default : Entry) with ticket := { frame := 4, ports := 1 }, rowCount := 32 }) }

/-- Frame 4 is open at row 0. -/
def inFrame : FramePart := { frame := 4, opened := true, closed := false, echo := some (0,0,0) }

/-- A marker of lane 0 at a symbol time. -/
def mk1 (n : Nat) : LaneMarker := { arrival := n, levels := markerLevels 0 0xFFF (n / 4096) }

/-- `run` with entry 0 of the ticket table in use by a frame of port 0. -/
def framed (e : Entry) (s : State) : State := { s with table := s.table.set 0 (some e) }

/-- A frame of 4 rows with one row group in state `st`. -/
def small (st : GroupSt) : Entry :=
  { (default : Entry) with ticket := { ports := 1, takeMask := 1 }, rowCount := 4, closed := true, groups := [{ rows := 4, last := true, st := st }] }

/-- A plan whose frames have 4 rows and one gain. -/
def tiny : State := with'
  { plan0 with portPlans := [{ profile := { profile0 with rows := 4, gains := 1 }, deadlines := { offsets := List.replicate 6 1000000 } }] }

/-- A request of one byte at Attic address 64. -/
def atticReq (wr : Option Bytes) : MemRequest :=
  { cls := 4, unitNo := 0, due := .line 0, addr := 64, length := 1, write := wr, region := some (64, 1), owner := .none }

/-- Cellar interface 11 changed by `f`. -/
def cel (f : CellarIfc → CellarIfc) (s : State) : State := { s with mem := { s.mem with gib := 8, ifcs := upd s.mem.ifcs 11 f } }

/-- Audio direction `k` changed by `f`. -/
def aud (k : Nat) (f : AudioDir → AudioDir) (s : State) : State := s.setAudio k f

/-- SDI output 3 changed by `f`. -/
def out3 (f : Sdi → Sdi) : State := up.setSdi 3 f

/-- The display pair changed by `f`. -/
def pair (f : Display → Display) : State := { up with disp := f up.disp }

/-- Context 63 (engine 1, context 31) changed by `f`. -/
def ctx63 (f : HevcCtx → HevcCtx) (s : State) : State := s.setCtx 63 f

/-- A mounted set, a Store queue pair 0 and the admin pair. -/
def set0 (m : Mounted) (s : State) : State := { s with store := { s.store with mounted := some m, pairs := [some {}, none, none, none, some {}] } }

/-- Member 0 ready, clip 3 known, and its record with SEQ 9 in state `st`. -/
def reced (st : RecSt) : State :=
  let s := set0 { super := { ports := [0] }, clips := [(3, 1, 0, 0, 0)], nextSeq := 10 } up
  { s with store := { s.store with members := upd s.store.members 0 (fun m => { m with st := .ready }), recs := [{ seq := 9, clip := 3, st := st, issued := true, writing := false }] } }

/-! ### Witnesses by evaluation -/

theorem witness_ResetsAndBoot : List.all [
    did .porstNAssert up fun t => t.sys.held,
    (answers (.porstNRelease true 3 10000) heldCore fun t => t.sys.bootSel && t.sys.celCfg == 3 && t.sys.stage == 0 && !t.sys.held),
    (answers (.porstNRelease true 3 999) heldCore fun t => !t.sys.bootSel && t.sys.stage == 2 && !t.sys.held),
    did (.systemWarmReset 0) (busy 0x0107 [] { up with sys := { up.sys with pstate := 1 } }) fun t => t.sys.stage == 0 && t.sys.pstate == 0 &&
      t.drawers == State.reset.drawers,
    did (.bootImageCheck true) State.reset fun t => t.sys.stage ≤ 1] id = true := by decide +kernel

theorem witness_BringUpAndFailures : List.all [
    did (.memberReadyTimeout 0) (init0 {} [false,true,true,true] (at' 5000000000)) fun t => (at! t.store.members 0).st == .refused &&
      !t.sys.bringUp.running,
    (List.all [(Instr.lockstepMismatch,2),(.firmwareWatchdog,3),(.firmwareTrap false,4),(.firmwareTrap true,1)] fun x => did x.1 up fun t => t.sys.stage == 1 && t.sys.safeCause == x.2),
    did (.nvmeCompletion 0 3 true { (default : MemberIdentity) with blockSize := 4096, mdts := 131072, queuePairs := 4 })
      (init0 { id := 3 } [false,false,true,true] up) fun t => (at! t.store.members 0).st == .ready,
    did (.nvmeCompletion 0 3 true { (default : MemberIdentity) with blockSize := 4096, mdts := 131071, queuePairs := 4 })
      (init0 { id := 3 } [false,false,true,true] up) fun t => (at! t.store.members 0).st == .refused,
    did (.dmaError 4096 .ring) up fun t => t.ev.kept.any (·.num == 312),
    did (.dmaError 4096 (.drawer 0)) (busy 0x0306 (q 4096 192 [0,0] []) run) fun t => (t.drawer 0).res.status == Status.mediaError] id = true := by decide +kernel

theorem witness_PowerStatesEnterAndExit : List.all [
    did (.powerState 255 1) (admin { opcode := 0x87 } (pairs up)) okd,
    did (.powerState 255 1) (admin { opcode := 0x87 } (pairs { up with sys := { up.sys with pstate := 1 } })) fun t => okd t && t.sys.pstate == 0,
    did (.powerState 255 1) (admin { opcode := 0x87, arg0 := 3 } (pairs up)) fun t => t.store.powerEntry == some (1,3,0,false),
    did .powerEntryProceed (admin { opcode := 0x87, arg0 := 1 } (pairs { up with store := { up.store with powerEntry := some (1,1,0,false) } }))
      fun t => t.sys.pstate == 1 && t.store.powerEntry == none] id = true := by decide +kernel

theorem witness_SixteenGoodOffsetsLock : List.all [
    did (.delayResp 7 30 0 1000000000)
      (tm (fun t => { t with sync := some (10,20), delayReq := some (7,20), prevSync := some 10, st := .acquiring, lockRun := 15 }) (fol up)) fun t =>
      t.time.st == .locked,
    did .holdoverSample
      { (tm (fun t => { t with st := .locked, freq := 5 }) up) with therm := { up.therm with sensors := up.therm.sensors.map fun x => { x with reading := 100 } } }
      fun t => t.holdSample.isSome && (t.holdTable.getD 11 {}).r == 5] id = true := by decide +kernel

theorem witness_PtpExchangesAndMasters : List.all [
    did .masterLost (mast (at' 3000000000)) fun t => t.time.best == none && t.time.st == .holdover,
    did (.sync 1 2) (mast up) fun t => t.time.sync == some (3,0),
    did .delayReq (mast up) fun t => t.time.delayReq.isSome && t.time.dreqSent.isSome,
    did (.delayResp 7 0 0 1) (tm (fun t => { t with sync := some (0,4000002), delayReq := some (7,0), prevSync := some 10 }) (fol up)) fun t =>
      t.time.stepPending && t.time.pendOffset == 2000001,
    did (.announce (ann 2)) (fol up) fun t => t.time.best == some (ann 2),
    did (.announce (ann 1)) (mast (at' 5)) fun t => t.time.lastAnnounce == 5,
    did .holdoverDriftUpdate (tm (fun t => { t with st := .holdover, driftHist := [(1,4),(2,8)] }) (at' 1000000000)) fun t => t.time.drift == 6,
    did .holdMaxExpiry (tm (fun t => { t with st := .holdover }) (at' 300000000000)) fun t => t.time.st == .unsync,
    did .refclkFault (mast up) fun t => t.time.st == .unsync && t.time.refclkBad,
    did .refclkRecovery (tm (fun t => { t with refclkBad := true }) up) fun t => !t.time.refclkBad] id = true := by decide +kernel

theorem witness_TimeCommandsAndUnits : List.all [
    did (.compareFire 7) (tm (fun t => { t with compares := t.compares.set 7 { armed := true, v := 5, gpio := some 31, width := 9 } }) (at' 5))
      fun t => t.sys.gpio == 2^31 && (at! t.time.compares 7).pulseEnd == some 14,
    did (.comparePulseEnd 7)
      (tm (fun t => { t with compares := t.compares.set 7 { gpio := some 31, pulseEnd := some 14 } }) { at' 14 with sys := { up.sys with gpio := 2^31 } })
      fun t => t.sys.gpio == 0,
    did (.captureEdge 31 true) (tm (fun t => { t with captures := t.captures.set 7 { gpio := some 31 } }) (at' 14)) fun t =>
      (at! t.time.captures 7).last == some 14,
    did (.captureEdge 31 true) (tm (fun t => { t with captures := t.captures.set 7 { gpio := some 31, last := some 5 } }) (at' 10004)) fun t =>
      (at! t.time.captures 7).skipped == 1] id = true := by decide +kernel

theorem witness_RegistersAndHostMemory : List.all [
    did (.registerWrite (0x1000 + 0x100 * 15 + 120) 8 1) up fun t => (t.drawer 15).area.getD 120 0 == 1,
    did (.registerWrite (0x220 + 36) 4 1) up fun t => t.ev.masks.getD 9 0 == 1,
    did (.registerWrite 0x208 4 64) up fun t => t.ev.entries == 64,
    did (.readClear 0x110 1) { up with rejects := 3 } fun t => t.readData == 3 && t.rejects == 1] id = true := by decide +kernel

theorem witness_DrawersAreAcceptedDoneAndFreed : List.all [
    did (.doorbell ⟨2 ^ 15, [{ addr := 0, data := [7] }]⟩) (up.setDrawer 15 fun x => { x with area := w [0x00010101, 0, 0, 0] }) fun t =>
      (t.drawer 15).st == .busy && (t.drawer 15).cmd.opcode == 0x0101 && t.hostRead 0 1 == [7],
    did (.doorbell ⟨1, []⟩) (up.setDrawer 0 fun x => { x with area := w [0x00010FFF, 0, 0, 0] }) fun t => (t.drawer 0).st == .done &&
      (t.drawer 0).res.status == 0x0010,
    did (.doorbell ⟨1, []⟩) (busy 0x0101 [] up) fun t => t.rejects == 1,
    did (.drawerRelease (2 ^ 15)) (up.setDrawer 15 fun x => { x with st := .done }) fun t => (t.drawer 15).st == .free] id = true := by decide +kernel

theorem witness_EventsTakeTheirPlace : List.all [
    did (.eqEnable 1) { run with ev := { run.ev with base := 4096, entries := 64 } } fun t => t.ev.enable && t.ev.idx == 0,
    did (.eqEnable 0) { run with ev := { run.ev with enable := true } } fun t => !t.ev.enable,
    did (.eqHead 63) { run with ev := { run.ev with enable := true, entries := 64, used := 63 } } fun t => t.ev.used == 0 && t.ev.head == 63,
    did (.coalesceTimer 63) { (at' 1000) with ev := { up.ev with groups := [{ vec := 63, count := 1 }], coalTime := 1 } } fun t => t.ev.groups.isEmpty
      && t.ev.pba == 2^63] id = true := by decide +kernel

theorem witness_TheNetworkPort : List.all [
    did (.netLink true) { up with net := { up.net with configured := true } } fun t => t.net.up,
    did (.arpRequest 5) { up with net := { up.net with address := 5, up := true } } fun t => t.net.arpAnswers == 1,
    did (.icmpEcho default) { up with net := { up.net with up := true } } fun t => t.net.echoAnswers == 1,
    did (.remoteDatagram { srcAddr := 1, srcPort := 2, data := le 2 0x5244 ++ le 1 19 ++ le 1 0 ++ le 4 0 ++ padTo 128 (le 2 0x0C01) })
      { up with net := { up.net with up := true, remote := true } } fun t => (t.drawer 19).st == .busy && t.net.reply.isSome,
    did (.remoteDatagram default) { up with net := { up.net with up := true, remote := true } } fun t => t.net.drops == 1] id = true := by decide +kernel

theorem witness_Sessions : List.all [
    did (.sessionHandshakeTimeout 5) { at' 10000000000 with sec := { up.sec with sessions := [{ id := 5, half := true }] } } fun t =>
      t.sec.sessions.isEmpty,
    did (.remoteSessionIdle 5)
      { (at' 60000000000).setDrawer 16 (fun x => { x with st := .done, cmd := { session := 5, enc := true } }) with sec := { up.sec with sessions := [{ id := 5, half := false, lastRemote := some 0 }] } }
      fun t => t.sec.sessions.isEmpty && (t.drawer 16).st == .free] id = true := by decide +kernel

theorem witness_KeysAndAttestation : List.all [
    did .entropyFail up fun t => t.sec.entropyBad,
    did .entropyPass { up with sec := { up.sec with entropyBad := true } } fun t => !t.sec.entropyBad] id = true := by decide +kernel

theorem witness_FaultsHeatAndSlack : List.all [
    did (.thermalSample (List.replicate 28 480))
      { up with therm := { up.therm with sensors := up.therm.sensors.map fun x => { x with hot := true } } } fun t => t.sys.tripped,
    did (.thermalSample (List.replicate 28 100)) State.reset fun t => !t.sys.tripped && (at! t.therm.sensors 27).reading == 100,
    did (.residueMismatch ⟨4, 1⟩ 0 0 none) up fun t => (t.units.get? 4 1).any (·.mismatch == 1),
    did (.benchDone 1 []) { up with units := { up.units with bench := some (⟨1, 3⟩, 1, 0) } } fun t => t.units.bench == none,
    did (.slackWindowEnd [{ kind := 4, number := 1, busy := 1024, outWait := 31 }]) up fun t => (at! t.slack 4).slack == 31 &&
      (at! t.slack 4).lowWindows == 1,
    did (.slackWindowEnd []) up fun t => (at! t.slack 0).slack == 0] id = true := by decide +kernel

theorem witness_PlansAreLoadedAndEdited : List.all [
    did (.planValidation 0)
      (({ (busy 0x0201 (q 4096 4096 [1,0] []) run) with shelves := run.shelves.set 1 { writing := some (default, 0) } } : State).setDrawer 0 fun x => { x with begun := true })
      fun t => (t.drawer 0).st == .done && (t.shelf 1).writing == none] id = true := by decide +kernel

theorem witness_FirmwareCommitsPoliciesAndTickets : List.all [
    did (.firmwarePageCommit 0 { (default : PolicyOut) with exposure := 5 }) (run.setSensor 0 fun x => { x with started := true }) fun t =>
      (at! t.sensors 0).page.exposure == 5,
    did (.sourceTicketIssue (.decode 0 1))
      { (with' { plan0 with graph := [{ slot0 with srcKind := 1, srcId := 1 }] }) with ctxs := run.ctxs.set 1 { shown := [{ (default : SourcePicture) with frame := 9 }] }, holds := [false,false,true] }
      fun t => (t.entry? 0).any (·.ticket.frame == 9),
    did (.entryRetire 15)
      { run with table := run.table.set 15 (some { (default : Entry) with src := .decode 0 1, ended := List.replicate 6 true, closed := true }) }
      fun t => t.entry? 15 == none] id = true := by decide +kernel

theorem witness_LinksTrainAndAlign : List.all [
    did (.ckPresent 0) run fun t => (at! t.ports 0).st == .training,
    did (.ckLoss 0) (run.setPort 0 fun x => { x with st := .up, ck := true }) fun t => (at! t.ports 0).st == .down,
    did (.trainingTimeout 0) ({ run with time := { run.time with count := 10000000 } }.setPort 0 fun x => { x with st := .training, ck := true })
      fun t => (at! t.ports 0).trainStart == 10000000,
    did (.alignmentMarker 0 0 (mk1 8192))
      ((link0 profile0).setPort 0 fun x => { x with st := .training, lanes := upd x.lanes 0 fun k => { k with goodRun := 2, arrival := some 4096, mseq := some 1 } })
      fun t => (at! (at! t.ports 0).lanes 0).aligned,
    did (.alignmentMarker 0 0 { (mk1 8192) with levels := [] }) ((link0 profile0).setPort 0 fun x => { x with st := .training }) fun t =>
      (at! (at! t.ports 0).lanes 0).markerErr == 1,
    did (.alignmentLoss 0 7) (run.setPort 0 fun x => { x with st := .training, lanes := upd x.lanes 7 fun k => { k with aligned := true } }) fun t =>
      !(at! (at! t.ports 0).lanes 7).aligned] id = true := by decide +kernel

theorem witness_PacketsAreCheckedAndAct : List.all [
    ((upPort profile0 {}).rx 0 (spell (makePacket 1 0 [3*65536,0,0,0])) == makePacket 1 0 [3*65536,0,0,0]),
    did (.frameStart 0 (spell (makePacket 1 0 [3*65536,0,0,0]))) (upPort profile0 {}) fun t => (at! t.ports 0).part.opened &&
      (at! t.ports 0).part.frame == 4 && (at! t.ports 0).part.sfc == some 3,
    did (.embedded 0 (spell (makePacket 5 0 [0x01020304]))) (upPort profile0 inFrame) fun t => (t.entry? 0).any (·.stats.embedded == [1,2,3,4]),
    did (.frameEnd 0 (spell (makePacket 3 0 [3*65536]))) (upPort profile0 { inFrame with sfc := some 3, expRow := 32 }) fun t =>
      (at! t.ports 0).part.closed,
    did (.sleep 0 (spell (makePacket 4 0 [7*65536]))) (upPort { profile0 with sleepOk := true } {}) fun t => (at! t.ports 0).st == .asleep &&
      (at! t.ports 0).sleepAt == some (0,7),
    did (.rowData 0 (spell (makePacket 2 0 ([0, 8] ++ List.replicate 7 0xFFFFFFFF)))) (upPort profile0 inFrame) fun t => (at! t.ports 0).intake.length
      == 1 && (at! t.ports 0).part.expRow == 1,
    did (.rowData 0 (spell (makePacket 2 0 ([32 * 16384, 8] ++ List.replicate 7 0)))) (upPort profile0 inFrame) fun t => (at! t.ports 0).intake == []
      && (at! t.ports 0).stats.pktGood == 1,
    did (.rowData 0 (spell (makePacket 2 128 [0,8]))) ((upPort profile0 inFrame).setPort 0 fun x => { x with rxSeq := some 0 }) fun t =>
      (at! t.ports 0).stats.seqLate == 1,
    did (.headerError 0 { lanes := [[precode 0 (grayBytes [1,2,3,4])]] }) (upPort profile0 inFrame) fun t => (at! t.ports 0).skipping &&
      (at! t.ports 0).stats.hdrErr == 1,
    did (.rowData 0 (spell { makePacket 2 0 [0,8] with crc := 0 })) (upPort profile0 inFrame) fun t => (at! t.ports 0).stats.crcErr == 1] id = true := by decide +kernel

theorem witness_TheBackChannelAndSleep : List.all [
    did (.reply 0 (spell (makePacket 6 0 [0]))) ((upPort profile0 inFrame).setPort 0 fun x => { x with bc := { x.bc with current := some ({}, 0) } })
      fun t => (at! t.ports 0).bc.current == none,
    did (.bcReplyTimeout 0)
      ({ run with time := { run.time with count := 20000 } }.setPort 0 fun x => { x with bc := { x.bc with current := some ({ attempts := 1 }, 0) } })
      fun t => (at! t.ports 0).bc.current.any fun c => c.1.attempts == 2,
    did (.bcReplyTimeout 0)
      ((busy 0x0309 [] { run with time := { run.time with count := 20000 } }).setPort 0 fun x => { x with bc := { x.bc with current := some ({ attempts := 3, owner := .drawer 0 }, 0) } })
      fun t => (at! t.ports 0).bc.current == none && (t.drawer 0).st == .done,
    did (.sleepOverrun 0) ({ run with time := { run.time with count := 27000 } }.setPort 0 fun x => { x with st := .asleep, sleepAt := some (0, 7) })
      fun t => (at! t.ports 0).st == .down,
    did (.sleepOverrun 0) ({ run with time := { run.time with count := 26999 } }.setPort 0 fun x => { x with st := .asleep, sleepAt := some (0, 7) })
      fun t => (at! t.ports 0).st == .asleep,
    did (.backChannelSleep 3) (up.setPort 3 fun x => { x with bc := { x.bc with phase := .entering } }) fun t => (at! t.ports 3).bc.phase == .asleep,
    did (.trigger 0) (upPort { profile0 with timing := .triggered, fpsNum := 1, fpsDen := 1 } {}) fun t => (at! t.ports 0).bc.trigger.isSome &&
      (at! t.ports 0).bc.sent == some (makePacket 0xD 0 [4*65536])] id = true := by decide +kernel

theorem witness_SensorCommands : List.all [
    did (.eyeWindowEnd 0 7 default) ({ run with holds := [false, true, false] }.setPort 0 fun x => { x with st := .up }) fun t =>
      (at! (at! t.ports 0).lanes 7).fomMin == 0,
    did (.patternTestEnd 0 7 3)
      (run.setPort 0 fun x => { x with st := .test, test := some { facility := 0, lanes := 0x81, symbols := 100, active := true } }) fun t =>
      (at! t.ports 0).test.any (·.lanesDone == 0x80),
    did (.perforationEdge 31 true)
      ((with' { plan0 with portPlans := [{ profile := { profile0 with timing := .lineScan, perfGpio := 31, perfDelay := 4 } }] }).setSensor 0 fun x => { x with started := true })
      fun t => (at! t.sensors 0).scanNext == [(4, 0)] && (at! t.sensors 0).nextFrame == 1,
    did (.perforationEdge 31 true)
      ((with' { plan0 with portPlans := [{ profile := { profile0 with timing := .lineScan, perfGpio := 31, perfMin := 4 } }] }).setSensor 0 fun x => { x with started := true, lastEdge := some 0 })
      fun t => (at! t.sensors 0).edgesIgnored == 1] id = true := by decide +kernel

theorem witness_TheFrontEnd : List.all [
    did (.groupDeal 15) (framed (small .ready) tiny) fun t => (t.fePos.getD 15 none).isSome && (t.entry? 0).any fun e => e.groups.any (·.st == .dealt),
    did (.groupLeave 0) (framed (small .dealt) tiny) fun t => (t.entry? 0).any fun e => e.groups.any (·.st == .left)] id = true := by decide +kernel

theorem witness_Calibration : List.all [
    did (.calibrationUpdate 3) ({ run with holds := [true,false,false] }.setSensor 0 fun x => { x with calWaiting := [{ ticket := { entry := 3 } }] })
      fun t => (at! t.sensors 0).calWaiting.isEmpty,
    did (.calibrationUpdate 3)
      (run.setSensor 0 fun x => { x with stale := 7, calWaiting := [{ ticket := { entry := 3, calframe := true }, sums := { (default : CalSums) with allX := [[(4, 1)], [(4, 1)]] } }] })
      fun t => (at! t.sensors 0).copy == 1 && (at! t.sensors 0).stale == 2,
    did (.staleLimit 0 2)
      ({ (run.setSensor 0 fun x => { x with staleSeen := 7 }) with time := { run.time with count := 10000000001 }, shelves := up.shelves.set 0 { st := .active, plan := some { plan0 with portPlans := [{ profile := profile0, cal := { calFrames := false } }] } } })
      fun t => (at! t.sensors 0).limitRaised.getD 2 false] id = true := by decide +kernel

theorem witness_ArbiterGrantsInOrderAndWritesTheAttic : List.all [
    did (.arbiterGrant 0 [atticReq (some [9])]) up fun t => t.mem.word 64 == lightEncode 9,
    did (.arbiterGrant 0 [atticReq none]) { up with mem := { up.mem with attic := [(64, lightEncode 9)] } } fun t => t.mem.readData == [9],
    did (.arbiterGrant 139 [{ atticReq none with addr := 44 }])
      { (cel (fun x => { x with trained := true }) up) with sys := { up.sys with celCfg := 2 } } fun t => t.mem.ifcs.any fun x => !x.queue.isEmpty,
    ((match exec (.arbiterGrant 0 [{ atticReq none with addr := 2^29 }]) up with | .fault .noSuchAddress => true | _ => false)),
    did (.arbiterGrant 0 [{ atticReq (some [9]) with addr := 2^29 }]) up fun t => t.ev.kept.any (·.num == 223)] id = true := by decide +kernel

theorem witness_CellarServesItsQueueAndRefreshes : List.all [
    did (.cellarCommandSlot 11) (cel (fun x => { x with trained := true, banks := x.banks.set 15 { owed := 8 } }) up) fun t =>
      (at! (at! t.mem.ifcs 11).banks 15).owed == 7,
    did (.cellarCommandSlot 11) (cel (fun x => { x with trained := true, queue := [{ pa := 11, write := some [1] }] }) up) fun t =>
      (at! t.mem.ifcs 11).queue.isEmpty,
    did (.refreshDue 11 15) (cel (fun x => { x with trained := true }) up) fun t => (at! (at! t.mem.ifcs 11).banks 15).owed == 1,
    did (.mr4Poll 11 31) (cel (fun x => { x with trained := true }) (at' 4000000)) fun t => (at! t.mem.ifcs 11).rateNext == 31,
    did (.mr4Poll 11 31) (cel (fun x => { x with trained := true }) (at' 3999999)) fun t => (at! t.mem.ifcs 11).rateNext == 0] id = true := by decide +kernel

theorem witness_ScrubbingAndMemoryWindows : List.all [
    did (.scrubSlow 63) (at' 60000000001) fun t => t.mem.slowRaised,
    did .actWindowEnd (at' 32000) fun t => t.mem.actWindow == 1,
    did .quotaWindowEnd (at' 2000) fun t => t.mem.quotaWindow == 1,
    did (.throttleExpiry 7) { (at' 5) with mem := { up.mem with throttle := up.mem.throttle.set 7 (some 5) } } fun t => t.mem.throttle.getD 7 (some 0)
      == none,
    did (.acquisitionTimeout 3) { (at' 5000000) with mem := { up.mem with acqs := [{ id := 3, attic := 1 }] } } fun t => t.mem.acqs.any (·.waiting),
    did (.acquisitionRetry 3) { (at' 100000) with mem := { up.mem with acqs := [{ id := 3, attic := 1, waiting := true }] } } fun t => t.mem.acqs.all
      (!·.waiting),
    did .driftTracking (cel (fun x => { x with trained := true }) (at' 16000000)) fun t => t.mem.driftSteps == 1] id = true := by decide +kernel

theorem witness_FreezeTrainAndTest : List.all [
    did .freezeComplete ((busy 0x0E08 (w [0,0,1]) up).setDrawer 0 fun x => { x with begun := true }) fun t => (t.drawer 0).st == .done,
    did (.trainingComplete [{ ifc := 0, gib := 8, failed := none, eyes := List.replicate 32 (100,100,100) }])
      { (busy 0x0E06 (w [1,0]) up).setDrawer 0 (fun x => { x with begun := true }) with mem := { up.mem with training := some { mask := 1, drawer := some 0 } } }
      fun t => t.mem.training == none] id = true := by decide +kernel

theorem witness_AudioFramesFillBlocks : List.all [
    did (.audioFrame 0 [5]) (aud 0 (fun a => { a with chans := a.chans.set 0 { on := true } }) up) fun t => (t.audioDir 0).frameCount == 1 &&
      (t.audioDir 0).block.frames.length == 1,
    did (.audioFrame 1 []) (aud 1 (fun a => { a with staged := some 3 }) up) fun t => (t.audioDir 1).mask == 3,
    did (.audioFrame 2 [])
      (aud 2 (fun a => { a with slots := 16, mask := 1, txSources := 0x100 :: List.replicate 15 0, chans := a.chans.set 0 { on := true } }) (aud 0 (fun a => { a with chans := a.chans.set 0 { on := true, prev := 9 } }) up))
      fun t => t.audio.length == 3,
    did (.audioClockStop 2)
      (aud 2 (fun a => { a with clocking := 2, slots := 1, mask := 1, period := 20, lastSync := some 0, chans := a.chans.set 0 { on := true } }) (at' 80))
      fun t => (t.audioDir 2).stopped,
    did (.zcTimeout 2) (aud 2 (fun a => { a with chans := a.chans.set 15 { waiting := some .start } }) (at' 10000000)) fun t =>
      (at! (t.audioDir 2).chans 15).on] id = true := by decide +kernel

theorem witness_RawGroups : List.all [
    did (.rawGroupStart 0) (framed (small .left) tiny) fun t => (t.entry? 0).any fun e => e.raw.nextStart ≥ 1,
    did (.rawGroupCommit 0) (framed { small .left with closed := false, raw := { staged := [{ main := [1], coarse := [1], floor := [1] }] } } tiny)
      fun t => (t.entry? 0).any fun e => e.raw.nextCommit == 1,
    did (.rawGroupCommit 0) (framed { small .left with groups := [], rowCount := 0 } tiny) fun t => (t.entry? 0).any fun e => e.raw.trailer] id = true := by decide +kernel

theorem witness_ColourAndRenditionFrames : List.all [
    did (.colourGroupDeal 23) (framed (small .left) tiny) fun t => (t.csPos.getD 23 none).isSome,
    did (.colourGroupLeave 0)
      (framed { small .left with groups := [{ rows := 1, last := true, st := .left, out := [(0, List.replicate 8 {})] }], rowCount := 1, colour := { groups := [{ rows := 1, last := true, st := .dealt }] } } tiny)
      fun t => (t.entry? 0).any fun e => e.colour.groups.all (·.st == .left)] id = true := by decide +kernel

theorem witness_SdiOutputs : List.all [
    did (.latch (.sdi 3)) (out3 fun o => { o with st := .running, stopping := true }) fun t => (at! t.sdi 3).st == .stopped,
    did (.latch (.sdi 3)) (out3 fun o => { o with st := .running, stopping := true, restart := some { mode := 1 } }) fun t => (at! t.sdi 3).st ==
      .starting && (at! t.sdi 3).entry.mode == 1,
    did (.latch (.sdi 3))
      (out3 fun o => { o with st := .running, entry := { mode := 1 }, bufs := { o.bufs with bufs := [some {}, none, none], pend := some 0 } })
      fun t => (at! t.sdi 3).oframe == 1 && (at! t.sdi 3).bufs.scanned == some 0,
    did (.sdiUnderrun 3) (out3 fun o => { o with st := .running, entry := { mode := 1 } }) fun t => (at! t.sdi 3).black] id = true := by decide +kernel

theorem witness_DisplayLatchesAndHeads : List.all [
    did (.latch .display) (pair fun d => { d with st := .running, stopping := true }) fun t => t.disp.st == .stopped,
    did (.latch .display) { (pair fun d => { d with st := .starting, training := true }) with time := { up.time with count := 100000000 } } fun t =>
      t.disp.st == .running,
    did (.latch .display) { (pair fun d => { d with st := .starting, training := true }) with time := { up.time with count := 99999999 } } fun t =>
      t.disp.st == .starting,
    did (.dispUnderrun 1) (pair fun d => { d with st := .running }) fun t => (t.head 1).border,
    did .lineMatch (pair fun d => { d with st := .running }) fun t => t.ev.kept.any (·.num == 159),
    did .frameDone (pair fun d => { d with st := .running }) fun t => t.ev.kept.any (·.num == 160),
    did (.hpdDeassert 1) (pair fun d => { d with heads := [{}, { hpd := true }] }) fun t => !(t.head 1).hpd,
    did (.hpdAssert 1 [7]) up fun t => (t.head 1).hpd && (t.head 1).edid == [7],
    did (.hpdIrq 1 false) (pair fun d => { d with st := .running, heads := [{}, { hpd := true, up := true }] }) fun t => (t.head 1).retrain &&
      !(t.head 1).up,
    did (.displayTrainingEnd true false) (pair fun d => { d with st := .starting, training := true, heads := [{ hpd := true }, { hpd := true }] })
      fun t => (t.head 0).up && !(t.head 1).up && !t.disp.training,
    did (.displayTrainingEnd true true) (pair fun d => { d with st := .running, heads := [{ hpd := true }, { hpd := true, retrain := true }] })
      fun t => (t.head 1).rejoin && !(t.head 0).rejoin] id = true := by decide +kernel

theorem witness_PictureBoundariesCommitAndStart : List.all [
    did (.pictureBoundary 1) { up with engines := [{}, { nextRing := some {} }] } fun t => (at! t.engines 1).ring.isSome,
    did (.pictureBoundary 1)
      { (ctx63 (fun x => { x with st := .openSt, entry := { enable := true } }) up) with engines := [{}, { cur := some { ctx := 31 } }] } fun t =>
      (t.ctx 63).pic == 1,
    did (.decodeWatchdog 1 31)
      { (ctx63 (fun x => { x with st := .openSt, entry := { decode := true, wdTicks := 5 } }) (at' 5)) with engines := [{}, { cur := some { ctx := 31 } }] }
      fun t => (at! t.engines 1).cur.any (·.ended)] id = true := by decide +kernel

theorem witness_BitstreamsReachTheirDestination : List.all [
    did (.bitstreamCopy 1 31)
      { (ctx63 (fun x => { x with st := .openSt, entry := { decode := true, outPages := 1 }, ring := some { addr := 4096, len := 69632, entries := 65536 } }) up) with hostMem := [(4096, 3), (8192, 7)] }
      fun t => (t.ctx 63).consumed == 3 || (t.ctx 63).consumed == 0,
    did (.byteRingWrite 15)
      { (ctx63 (fun x => { x with st := .openSt, entry := { outKind := 3, outId := 15 }, output := [{ data := [1,2,3] }] }) up) with hostRings := up.hostRings.set 15 { ring := some { kind := 1, addr := 4096, entries := 65536 } } }
      fun t => (t.ctx 63).output.isEmpty && (at! t.hostRings 15).ring.any (·.produced == 128)] id = true := by decide +kernel

theorem witness_CompressionJobs : List.all [
    did .compressionFrame
      ((busy 0x0E0C [] { up with store := { up.store with jobs := [{ drawer := 1, cancel := [0] }] } }).setDrawer 1 fun x => { x with st := .busy, begun := true })
      fun t => t.store.jobs.isEmpty && (t.drawer 0).st == .done && (t.drawer 1).st == .done,
    did (.handleExpiry 5) { (at' 60000000000) with store := { up.store with handles := [{ num := 5 }] } } fun t => t.store.handles.isEmpty] id = true := by decide +kernel

theorem witness_QueuePairsEntriesAndCompletions : List.all [
    did (.sqTailDoorbell 0 ⟨1, []⟩) (set0 {} up) fun t => (t.pair? 0).any (·.sqTail == 1),
    did (.sqTailDoorbell 0 ⟨2, []⟩) (set0 {} up) fun t => t.ev.kept.any (·.num == 176),
    did (.cqHeadDoorbell 255 1) { up with store := { up.store with pairs := [none, none, none, none, some { unreleased := [(1, false)] }] } } fun t =>
      (t.pair? 4).any fun p => p.cqHead == 1 && p.unreleased.isEmpty,
    did (.entryFetch 255) { up with store := { up.store with pairs := [none, none, none, none, some { sqTail := 1 }] } } fun t => (t.pair? 4).any
      fun p => p.sqHead == 1,
    did (.completionPost 0) { up with store := { up.store with pairs := [some { held := [{ cid := 7 }] }, none, none, none, none] } } fun t =>
      (t.pair? 0).any fun p => p.cqTail == 1 && p.held.isEmpty] id = true := by decide +kernel

theorem witness_RecordCommands : List.all [
    did (.writeRecord 0 1)
      (io { opcode := 1, stream := 10, clip := 3, count := 1 } { (set0 {} up) with store := { (set0 {} up).store with clip := some { num := 3 } } })
      fun t => t.store.cmds.any (·.begun),
    did (.readRecord 0 1) (io { opcode := 2, clip := 3, length := 65536 } (reced .onMedium)) fun t => t.store.cmds.any (·.begun),
    did (.readRecord 0 1) (io { opcode := 2, clip := 4, length := 65536 } (reced .accepted)) fun t => t.store.cmds.isEmpty,
    did (.verifyRecord 0 1) (io { opcode := 3, clip := 3, count := 1 } (reced .onMedium)) fun t => t.store.cmds.any fun c => c.begun && c.set == [9],
    did (.trimClip 0 1) (io { opcode := 4, clip := 3 } (reced .onMedium)) fun t => t.store.recs.any (·.trimmed.isSome),
    did (.flush 0 1) (io { opcode := 5 } (set0 {} up)) okd,
    did (.abort 255 1) (admin { opcode := 6, arg0 := 9 } (set0 {} up)) fun t => t.store.pairs.any fun p => p.any fun p => p.held.any
      (·.status == Status.alreadyDone)] id = true := by decide +kernel

theorem witness_AdminCommandsAndStoreReset : List.all [
    did (.identify 255 1) (admin { opcode := 0x81, buf := 4096, length := 4096 } (set0 {} up)) okd,
    did (.getLogPage 255 1) (admin { opcode := 0x82, arg0 := 1, buf := 4096, length := 64 } (set0 {} up)) okd,
    did (.getFeatures 255 1) (admin { opcode := 0x83, arg0 := 3 } (set0 {} up)) okd,
    did (.setFeatures 255 1) (admin { opcode := 0x84, arg0 := 3, arg2 := 16 } (set0 {} up)) fun t => okd t && t.store.arbBurst == 16,
    did (.setFeatures 255 1) (admin { opcode := 0x84, arg0 := 1, arg2 := 1024 } (set0 {} up)) fun t => okd t && t.store.hostShare == 1024 * 1048576,
    did (.firmwareDownload 255 1) (admin { opcode := 0x85, length := 4 } (set0 {} up)) fun t => okd t && t.store.staged.length == 1,
    did .storeResetDone { (busy 0x0903 [] up) with store := { up.store with resetting := some 0 } } fun t => t.store.resetting == none &&
      (t.drawer 0).st == .done] id = true := by decide +kernel

theorem witness_RecordsReachTheMedium : List.all [
    did .recordAccept { up with store := { up.store with incoming := [{}] } } fun t => t.store.incoming.isEmpty,
    did .recordAccept { up with store := { up.store with gaps := [(0,0,0,0)] } } fun t => t.store.gaps.isEmpty,
    did .recordOnMedium { up with store := { up.store with recs := [{ issued := true, writing := false }] } } fun t => t.store.recs.all
      (·.st == .onMedium),
    did (.nvmeCommandTimeout 3 7)
      { (at' 5000000000) with store := { up.store with members := upd up.store.members 3 fun m => { m with cmds := [{ id := 7 }] } } } fun t =>
      (at! t.store.members 3).cmds.all (·.aborted.isSome),
    did (.nvmeAbortTimeout 3 7 true)
      { (at' 1000000000) with store := { up.store with members := upd up.store.members 3 fun m => { m with cmds := [{ id := 7, aborted := some 0 }] } } }
      fun t => (at! t.store.members 3).cmds.all (·.aborted.isNone) && (at! t.store.members 3).resets.length == 1,
    did (.memberFlushTimer 3)
      { (at' 4000000) with store := { up.store with members := upd up.store.members 3 fun m => { m with st := .ready, dirty := true, ident := { m.ident with writeCache := true } } } }
      fun t => (at! t.store.members 3).cmds.any (·.kind == .flush),
    did .checkpointTimer (set0 { dirtyCkpt := true } (at' 1000000000)) fun t => t.store.mounted.any fun m => m.lastCkpt == 1000000000,
    did .superblockTimer (set0 { dirtySuper := true, ckptOn := (5, 6) } (at' 2000000000)) fun t => t.store.mounted.any fun m => m.superDue.isSome ||
      m.superStep.isSome] id = true := by decide +kernel

theorem witness_FirmwareIsCommittedAndActivated : List.all [
    did (.firmwareCommit 255 1) (admin { opcode := 0x86, arg0 := 2 + 4 } (set0 {} up)) fun t => t.store.activation.any (·.slot == 1) ||
      t.sys.bootCommit.isSome,
    did .firmwareServes
      { (at' 1999999999) with store := { up.store with activation := some { cid := 1, handover := some 0 } }, sys := { up.sys with handover := true } }
      fun t => t.store.activation.isNone && !t.sys.handover,
    did .activationHoldExpiry
      { (at' 2000000000) with store := { up.store with activation := some { cid := 1, handover := some 0 } }, sys := { up.sys with handover := true } }
      fun t => t.store.activation.isNone && t.sys.safeCause == 5] id = true := by decide +kernel

/-! ### Witnesses of the commands of a Drawer: accepted, and answered OK or begun -/

theorem witness_SystemCommands_drawer : List.all [
    runs (.systemGetStatus 0) 0x0101 [] up,
    runs (.systemEnterService 0) 0x0102 [] { run with mem := { run.mem with passed := true } },
    runs (.systemEnterMaintenance 0 false) 0x0103 [] { up with sys := { up.sys with service := true } },
    runs (.systemRegisterBuffer 0) 0x0104 (q 4096 4096 [2,0] [1]) up,
    runs (.systemUnregisterBuffer 0) 0x0105 (w [1]) run] id = true := by decide +kernel

theorem witness_TheNetworkPort_drawer : List.all [
    runs (.systemSetNetwork 0) 0x0106 (w [1,8,0,0,0,0,0,0]) up] id = true := by decide +kernel

theorem witness_PlansAreLoadedAndEdited_drawer : List.all [
    runs (.planLoad 0 default) 0x0201 (q 4096 4096 [1,0] []) run,
    runs (.planEdit 0 { content := plan0 }) 0x0202 (q 4096 4096 [0,1] []) run] id = true := by decide +kernel

theorem witness_PlansAreActivatedAndReleased_drawer : List.all [
    runs (.planActivate 0) 0x0203 (w [1,1,0]) { run with shelves := run.shelves.set 1 { st := .loaded, plan := some plan0 } },
    runs (.planRelease 0) 0x0204 (w [1]) { run with shelves := run.shelves.set 1 { st := .loaded, plan := some plan0 } },
    runs (.planGetShelves 0) 0x0205 [] up,
    runs (.pipeGetUnits 0) 0x0405 [] run,
    runs (.pipeCommitPage 0) 0x0401 (w ([0, 0x20] ++ List.replicate 5 0 ++ [255] ++ List.replicate 16 0))
      (run.setSensor 0 fun x => { x with holds := [false,false,true,false] }),
    runs (.sensorSetExposure 0) 0x0303 (w [0,10,10]) (run.setSensor 0 fun x => { x with holds := [true,false,false,false] })] id = true := by decide +kernel

theorem witness_FirmwareCommitsPoliciesAndTickets_drawer : List.all [
    runs (.pipeHoldPolicy 0) 0x0402 (w [0,1]) run,
    runs (.pipeReleasePolicy 0) 0x0403 (w [0,1]) run] id = true := by decide +kernel

theorem witness_SensorCommands_drawer : List.all [
    runs (.sensorStart 0) 0x0301 (w [0]) run,
    runs (.sensorStop 0) 0x0302 (w [0]) (run.setSensor 0 fun x => { x with started := true }),
    runs (.sensorGetLinkStats 0) 0x0306 (q 4096 192 [0,0] []) run,
    runs (.sensorTest 0) 0x0307 (w [0,1,0,1,0,0,0]) (run.setPort 0 fun x => { x with st := .up }),
    runs (.sensorInject 0) 0x0308 (w [0,0,0,0,0,0,0]) run,
    runs (.sensorBcWrite 0) 0x0309 (w [0,0,1,5]) run,
    runs (.sensorBcRead 0) 0x030A (w [0,0,1]) run] id = true := by decide +kernel

theorem witness_Calibration_drawer : List.all [
    runs (.sensorLoadDefects 0) 0x0304 (q 4096 0 [0,0] []) run,
    runs (.sensorSetShading 0) 0x0305 (q 4096 17160 [0,0] []) run,
    runs (.pipeSetStatsRing 0) 0x0404 (q 4096 135168 [0,0] [2]) run,
    runs (.pipeCalFrame 0) 0x0406 (w [0,0]) run,
    runs (.pipeGetCal 0) 0x0407 (q 0 0 [0,0] []) run,
    runs (.pipeSetCal 0) 0x0408 (q 4096 65536 [0,0] []) { run with holds := [true,false,false] }] id = true := by decide +kernel

theorem witness_ColourAndRenditionFrames_drawer : List.all [
    runs (.pipeSetHostRing 0) 0x0409 (q 4096 65536 [0,0] [2]) run] id = true := by decide +kernel

theorem witness_RenditionBanksLoadAndSwitch_drawer : List.all [
    runs (.renditionSwitchBank 0) 0x0503 (w [0,1,1]) run] id = true := by decide +kernel

theorem witness_CodeCommands_drawer : List.all [
    runs (.codeOpen 0) 0x0601 (w [0,0]) run,
    runs (.codeClose 0) 0x0602 (w [0,0]) (run.setCtx 0 fun x => { x with st := .openSt }),
    runs (.codeForceIdr 0) 0x0603 (w [0,0]) (run.setCtx 0 fun x => { x with st := .openSt }),
    runs (.codePinLtr 0) 0x0604 (w [0,0,5]) (run.setCtx 0 fun x => { x with st := .openSt }),
    runs (.codeUnpinLtr 0) 0x0605 (w [0,0,5]) (run.setCtx 0 fun x => { x with st := .openSt, pins := [{ frame := 5 }] }),
    runs (.codeSetBitstreamRing 0) 0x0606 (q 4096 69632 [0,1] [65536]) run,
    runs (.codeSetStatsRing 0) 0x0607 (q 4096 5120 [0,0] [16]) run,
    runs (.codeGetContext 0) 0x0608 (w [0,0]) run] id = true := by decide +kernel

theorem witness_SdiOutputs_drawer : List.all [
    runs (.outputStart 0) 0x0701 (w [0]) run,
    runs (.outputStop 0) 0x0702 (w [0]) run,
    runs (.outputSetTimecode 0) 0x0703 (w [0,5]) run,
    runs (.outputGetStatus 0) 0x0704 (w [0]) run] id = true := by decide +kernel

theorem witness_DisplayCommands_drawer : List.all [
    runs (.displayStart 0) 0x0801 [] run,
    runs (.displayStop 0) 0x0802 [] run,
    runs (.displayWriteBuffer 0) 0x0803 (q 4096 4 [0,0] []) run,
    runs (.displayCommit 0) 0x0804 (w [0])
      { run with disp := { run.disp with heads := run.disp.heads.map fun h => { h with bufs := { h.bufs with written := h.bufs.written.set 0 true } } } },
    runs (.displaySetLineMatch 0) 0x0805 (w [0]) run,
    runs (.displaySetEvents 0) 0x0806 (w [0]) run,
    runs (.displayGetEdid 0) 0x0807 (q 4096 4096 [0,0] []) (run.setHead 0 fun h => { h with hpd := true })] id = true := by decide +kernel

theorem witness_QueuePairsEntriesAndCompletions_drawer : List.all [
    runs (.storeCreateQueue 0) 0x0901 (q 4096 8192 [255,0] [2,2,0]) run,
    runs (.storeDeleteQueue 0) 0x0902 (w [255]) { run with store := { run.store with pairs := run.store.pairs.set 4 (some {}) } }] id = true := by decide +kernel

theorem witness_SetsAndClips_drawer : List.all [
    runs (.storeFormSet 0) 0x0904 (w [1,0,0])
      { run with store := { run.store with members := upd run.store.members 0 fun m => { m with st := .ready } }, sec := { run.sec with slots := run.sec.slots.set 0 (some { key := [], id := [], usage := 1 }) } },
    runs (.storeUnmount 0) 0x0906 [] { run with store := { run.store with mounted := some {} } },
    runs (.storeGetClip 0) 0x0909 (w [3]) { run with store := { run.store with mounted := some { clips := [(3,1,0,0,0)] } } }] id = true := by decide +kernel

theorem witness_AdminCommandsAndStoreReset_drawer : List.all [
    runs (.storeReset 0) 0x0903 [] run] id = true := by decide +kernel

theorem witness_CompressionJobs_drawer : List.all [
    runs (.memCompress 0) 0x0E0A (le 8 4096 ++ le 8 1 ++ le 8 8192 ++ le 8 100 ++ le 8 0 ++ w [0,0] ++ le 8 0) run,
    runs (.memDecompress 0) 0x0E0B (le 8 4096 ++ le 8 1 ++ le 8 8192 ++ le 8 100 ++ le 8 0 ++ w [0,0] ++ le 8 0) run,
    runs (.memJobCancel 0) 0x0E0C (w [1,0,0,0])
      { (run.setDrawer 1 fun x => { x with st := .busy, begun := true, num := 1 }) with store := { run.store with jobs := [{ drawer := 1 }] } }] id = true := by decide +kernel

theorem witness_MemoryCommandsReadAndRepair_drawer : List.all [
    runs (.memGetStats 0) 0x0E01 (q 4096 65536 [] []) run,
    runs (.memGetEccLog 0) 0x0E02 (q 4096 1024 [] []) run,
    runs (.memClearEccLog 0) 0x0E03 [] run,
    runs (.memRepair 0 false) 0x0E04 (w [0,0]) run,
    runs (.memSetMapping 0) 0x0E05 (w [0,0,0,0,0,0,0]) run] id = true := by decide +kernel

theorem witness_FreezeTrainAndTest_drawer : List.all [
    runs (.memTrain 0) 0x0E06 (w [1,0])
      { run with sys := { run.sys with celCfg := 0 }, mem := { run.mem with ifcs := upd run.mem.ifcs 0 fun x => { x with frozen := true } } },
    runs (.memPatternTest 0) 0x0E07 (w [1,0,0,1,1])
      { run with sys := { run.sys with celCfg := 0 }, mem := { run.mem with gib := 8, ifcs := upd run.mem.ifcs 0 fun x => { x with frozen := true, trained := true } } },
    runs (.memFreeze 0) 0x0E08 (w [0,0,1]) run,
    runs (.memThaw 0) 0x0E09 (w [0,0,1]) run] id = true := by decide +kernel

theorem witness_TimeCommandsAndUnits_drawer : List.all [
    runs (.timeGet 0) 0x0A01 [] run,
    runs (.timeGetStatus 0) 0x0A02 [] run,
    runs (.timeSetConfig 0) 0x0A03 (w [0x00030000, 1000, 10, 1, 0, 0, 0, 0]) run,
    runs (.timeSet 0) 0x0A04 (le 8 5 ++ w [1]) { run with time := { run.time with cfg := { run.time.cfg with follower := false } } },
    runs (.timeAcceptStep 0) 0x0A05 (w [7]) { run with time := { run.time with stepPending := true, pendId := 7 } },
    runs (.timeSetCompare 0) 0x0A06 (w [0,0] ++ le 8 1000 ++ w [0,5]) run,
    runs (.timeSetCapture 0) 0x0A07 (w [0,0,0]) run] id = true := by decide +kernel

theorem witness_AudioCommandsStageTheirChanges_drawer : List.all [
    runs (.audioSetPort 0) 0x0B01 (w ([0,0,3072000,0,1,0,0] ++ List.replicate 16 0)) run,
    runs (.audioStart 0) 0x0B02 (w [0,1]) run,
    runs (.audioStop 0) 0x0B03 (w [0,1]) run,
    runs (.audioMute 0) 0x0B04 (w [0,1,1]) run,
    runs (.audioSetGain 0) 0x0B05 (w [0,1,48]) run,
    runs (.audioSetSlots 0) 0x0B06 (w [1,1]) run,
    runs (.audioSetRing 0) 0x0B07 (q 4096 65536 [0,0] [2]) run,
    runs (.audioGetStatus 0) 0x0B08 (w [0]) run] id = true := by decide +kernel

theorem witness_Sessions_drawer : List.all [
    runs (.chestSessionOpen 0) 0x0C01 (w [1] ++ List.replicate 100 0) run,
    runs (.chestSessionFinish 0) 0x0C02 (w [5,0] ++ List.replicate 96 0) { run with sec := { run.sec with sessions := [{ id := 5, half := true }] } },
    runs (.chestSessionClose 0) 0x0C03 [] run] id = true := by decide +kernel

theorem witness_KeysAndAttestation_drawer : List.all [
    runs (.chestAttest 0) 0x0C04 (List.replicate 32 0 ++ le 8 4096 ++ le 8 0x160) run,
    runs (.chestGetCert 0) 0x0C05 (w [3]) run,
    runs (.chestListKeys 0) 0x0C07 (w [63]) run,
    runs (.chestDeleteKey 0) 0x0C08 (w [0])
      { run with sec := { run.sec with slots := run.sec.slots.set 0 (some { key := [], id := [], usage := 1 }) } }] id = true := by decide +kernel

theorem witness_DiagCommandsWriteTheirTables_drawer : List.all [
    runs (.diagCapture 0) 0x0D01 (w [0,0,0,0,1,0] ++ le 8 4096 ++ le 8 11) run,
    runs (.diagGetFaults 0) 0x0D03 (le 8 4096 ++ le 8 3040) run,
    runs (.diagGetThermal 0) 0x0D04 (le 8 4096 ++ le 8 226) run,
    runs (.diagGetSlack 0) 0x0D05 (le 8 4096 ++ le 8 80) run] id = true := by decide +kernel

theorem witness_FaultsHeatAndSlack_drawer : List.all [
    runs (.diagBenchRun 0) 0x0D02 (w [0,0]) { run with units := { run.units with units := upd run.units.units 0 fun u => { u with st := .retired } } }] id = true := by decide +kernel

/-! ### Witnesses by their hypotheses, where the effect runs through a free value of Config or through a table too long to evaluate -/

theorem hostRead_of_empty (s : State) (a n : Nat) (h : s.hostMem = []) : s.hostRead a n = List.replicate n 0 := by
  simp only [State.hostRead, Memory.readBytes, h]
  exact List.eq_replicate_iff.mpr ⟨by simp, fun b hb => by obtain ⟨i, -, rfl⟩ := List.mem_map.mp hb; rfl⟩

theorem ofLe_of_zero (n : Nat) : ofLe (List.replicate n 0) = 0 := by
  induction n with
  | zero => rfl
  | succ n ih => rw [List.replicate_succ, ofLe, ih]; rfl

theorem fieldLe_of_zero (n o k : Nat) : fieldLe (List.replicate n 0) o k = 0 := by
  simp only [Machine.fieldLe, slice, List.drop_replicate, List.take_replicate, List.length_replicate, List.replicate_append_replicate, ofLe_of_zero]

/-- RENDITION.SET_LUT of rendition slot 15, from a host buffer of zeros: every condition of the clause in which it loads holds. -/
theorem witness_RenditionBanksLoadAndSwitch_lut : ∃ s c, s.accepted 0 0x0501 c = true ∧ c.endsAt 24 = true ∧ c.w 0 = 15 ∧ 2471625 ≤ c.q 16 ∧
    s.covered (c.q 8) (c.q 16) false = true ∧ (at! s.rend (c.w 0)).switchAt = none ∧ bankSelected s (c.w 0) (1 - (at! s.rend (c.w 0)).bank) = false ∧
    ∀ w ∈ lutWords (s.hostRead (c.q 8) 2471625), w < 2 ^ 54 := by
  refine ⟨busy 0x0501 (q 4096 2471625 [15, 0] []) run, cmdOf 0x0501 (q 4096 2471625 [15, 0] []), by decide +kernel, by decide +kernel, by decide +kernel,
    by decide +kernel, by decide +kernel, by decide +kernel, by decide +kernel, ?_⟩
  intro x hx
  rw [hostRead_of_empty _ _ _ rfl, lutWords] at hx
  obtain ⟨i, -, rfl⟩ := List.mem_map.mp hx
  rw [fieldLe_of_zero]; exact Nat.two_pow_pos 54

/-- RENDITION.SET_CURVES likewise. -/
theorem witness_RenditionBanksLoadAndSwitch_curves : ∃ s c, s.accepted 0 0x0502 c = true ∧ c.endsAt 24 = true ∧ c.w 0 = 15 ∧ 49152 ≤ c.q 16 ∧
    s.covered (c.q 8) (c.q 16) false = true ∧ (at! s.rend (c.w 0)).switchAt = none ∧ bankSelected s (c.w 0) (1 - (at! s.rend (c.w 0)).bank) = false ∧
    ∀ w ∈ curveWords (s.hostRead (c.q 8) 49152), w < 2 ^ 18 := by
  refine ⟨busy 0x0502 (q 4096 49152 [15, 0] []) run, cmdOf 0x0502 (q 4096 49152 [15, 0] []), by decide +kernel, by decide +kernel, by decide +kernel,
    by decide +kernel, by decide +kernel, by decide +kernel, by decide +kernel, ?_⟩
  intro x hx
  rw [hostRead_of_empty _ _ _ rfl, curveWords] at hx
  obtain ⟨i, -, rfl⟩ := List.mem_map.mp hx
  rw [fieldLe_of_zero]; exact Nat.two_pow_pos 18

/-- SCRUB_STEP of an unsealed page of Attic bank 63 that nothing has written: it decodes clean. -/
theorem witness_ScrubbingAndMemoryWindows_step :
    up.live = true ∧ (at! up.mem.banks 63).frozen = false ∧ (at! up.mem.banks 63).lapDone = false ∧ (at! up.mem.banks 63).lastStep = none ∧
    (up.mem.side (2048 * 63)).sealed = false ∧ up.mem.readWords (4096 * (2048 * 63)) 4096 = (List.replicate 4096 0).map LightRead.clean := by
  refine ⟨rfl, rfl, rfl, rfl, rfl, ?_⟩
  rw [List.map_replicate]
  exact List.eq_replicate_iff.mpr ⟨by simp [MemState.readWords], fun b hb => by
    obtain ⟨i, -, rfl⟩ := List.mem_map.mp hb
    exact (rfl : lightDecode 0 = .clean 0)⟩

/-- A CHECKPOINT record with a right hash. -/
def ckptRec : Rec := { seq := 1, kind := 8, hash := Config.sha384 (({ seq := 1, kind := 8 } : Rec).header 7 0 ++ []), st := .onMedium }

/-- STORE.MOUNT with a superblock, its member ready and its checkpoint on the medium. -/
def mountable : State :=
  { up with store := { up.store with
      super := some { setId := 7, ckptSeq := 1, serials := [[1]], ports := [0] }, recs := [ckptRec]
      members := upd up.store.members 0 fun m => { m with st := .ready, ident := { m.ident with serial := [1] } } } }

theorem witness_SetsAndClips_mount : (busy 0x0905 [] mountable).accepted 0 0x0905 (cmdOf 0x0905 []) = true ∧ mountable.store.mounted = none ∧
    mountable.memberReady 0 = true ∧ (at! mountable.store.members 0).ident.serial = [1] ∧
    mountable.store.recs.find? (fun r => r.seq == 1 && r.kind == 8 && r.counts 7) = some ckptRec := by
  refine ⟨by decide +kernel, rfl, by decide +kernel, by decide +kernel, ?_⟩
  have h : ckptRec.counts 7 = true := beq_self_eq_true _
  simp [mountable, ckptRec] at h ⊢
  exact h

/-- A set is mounted and a Production key is in slot 63. -/
def setKey : State :=
  { run with sys := { run.sys with service := true }, store := { run.store with mounted := some {} }
             sec := { run.sec with slots := run.sec.slots.set 63 (some { key := [], id := [], usage := 5 }) } }

/-- STORE.CLIP_START with slot 63, and STORE.CLIP_CLOSE of an open clip. -/
theorem witness_SetsAndClips_clips :
    (let s := busy 0x0907 (w [0, 0, 63]) setKey
     let c := cmdOf 0x0907 (w [0, 0, 63])
     (s.accepted 0 0x0907 c && c.endsAt 12 && s.set?.isSome && (at! s.sec.slots (c.w 8)).any (fun k => bit k.usage 0) && s.sys.service && s.store.clip.isNone &&
       s.sys.pstate == 0 && !s.sec.debugOpen && !s.activating && !s.entering && !s.sec.entropyBad) = true) ∧
    (let s := busy 0x0908 [] { setKey with store := { setKey.store with clip := some {} } }
     (s.accepted 0 0x0908 (cmdOf 0x0908 []) && s.store.clip.any (·.drawer.isNone)) = true) := by decide +kernel

/-- STORE.PLAY of a record of a closed clip into context 63, whatever key the unwrap gives. -/
def playable : State :=
  let s := setKey
  { s with ctxs := s.ctxs.set 63 { st := .openSt, entry := { decode := true, inClip := true } }
           store := { s.store with mounted := some { clips := [(3, 1, 0, 0, 0)], super := { ports := [0] } }, recs := [{ seq := 9, clip := 3 }, { seq := 8, kind := 3, clip := 3 }] }
           sec := { s.sec with slots := s.sec.slots.set 63 (some { key := [], id := List.replicate 16 0, usage := 4 }) } }

theorem witness_SetsAndClips_play :
    (let s := busy 0x090A (w [3, 0, 0, 1, 31]) playable
     let c := cmdOf 0x090A (w [3, 0, 0, 1, 31])
     (s.accepted 0 0x090A c && c.endsAt 20 && s.set?.any (fun m => m.clips.any (·.1 == c.w 0)) && (s.findRec (c.w 0) (c.w 4) (c.w 8)).isSome &&
       c.w 12 == 1 && c.w 16 == 31 && (s.ctx 63).st == .openSt && (s.ctx 63).entry.inClip && s.store.plays.isEmpty) = true) ∧
    playable.playKey 3 = (Config.keyUnwrap [] (List.replicate 40 0)).map fun k => (k, 63) := ⟨by decide +kernel, by rfl⟩

/-- CHEST.IMPORT_KEY under a complete session, into empty slot 63; and CHEST.DEBUG_UNLOCK on PCIe with a token in a registered buffer. -/
theorem witness_KeysAndAttestation_keys :
    (let s := { busy 0x0C06 (w [63, 1, 0xFF, 0] ++ List.replicate 56 0) run with
       sec := { run.sec with sessions := [{ id := 0, half := false }] } }
     let c := cmdOf 0x0C06 (w [63, 1, 0xFF, 0] ++ List.replicate 56 0)
     (s.accepted 0 0x0C06 c && c.endsAt 72 && c.w 0 == 63 && (s.sec.keysOf c.session).isSome && (at! s.sec.slots 63).isNone &&
       (s.slotOfId (slice c.payload 16 16)).isNone) = true) ∧
    (let s := busy 0x0C09 (le 8 4096 ++ le 8 128) run
     let c := cmdOf 0x0C09 (le 8 4096 ++ le 8 128)
     (s.accepted 0 0x0C09 c && c.endsAt 16 && decide (128 ≤ c.q 8) && !s.sys.service && s.store.clip.isNone && s.covered (c.q 0) (c.q 8) false) = true) := by
  decide +kernel

/-- RENDITION_FRAME_COMPLETE of a pending destination whose picture is there; the number of late rows is a free value. -/
theorem witness_ColourAndRenditionFrames_complete :
    (let e : Entry := { small .left with picture := some { (default : SourcePicture) with width := 8, height := 8 }, pendingDest := [15] }
     ((framed e tiny).live && (framed e tiny).entry? 0 == some e && e.pendingDest.contains 15 && e.picture.isSome) = true) := by decide +kernel

/-- COMPRESSION_FRAME of a job whose next frame, however long, has room and shrinks the whole. -/
theorem witness_CompressionJobs_frame (f : Bytes) : ∃ j : Job, j.cancel = [] ∧ j.power = none ∧ j.decompress = false ∧ j.idx = 0 ∧
    j.outBefore + j.outNow + f.length < j.jobLen ∧ j.outNow + f.length ≤ j.dstLen ∧ j.inNow + min (2 ^ (16 + j.blockLog2)) (j.srcLen - j.inNow) ≠ j.srcLen :=
  ⟨{ srcLen := 65537, dstLen := f.length, jobLen := f.length + 1 }, rfl, rfl, rfl, rfl, by simp, by simp, (by decide : 0 + min (2 ^ (16 + 0)) (65537 - 0) ≠ 65537)⟩

/-- Raising an event with the ring enabled and room after it, and with the last free entry left. -/
theorem witness_EventsTakeTheirPlace_raise :
    (let s := { up with ev := { up.ev with enable := true, entries := 64, base := 4096, idx := 63, used := 62, masks := List.replicate 10 0 } }
     (!s.ev.isMasked 65 && (raise 65 0 [] none s).ev.idx == 0 && !(raise 65 0 [] none s).ev.phase && (raise 65 0 [] none s).ev.used == 63 &&
      (raise 65 0 [] none (raise 65 0 [] none s)).ev.overflow) = true) := by decide +kernel

/-! ### The invariants hold at reset -/

theorem witness_Invariants : (State.reset.hostMem.wf && State.reset.queueWf && State.reset.legal && State.reset.sized) = true := by decide +kernel

end Sys2Proof.Tests
end

section
/-! SUPPORT. Bytes in little-endian order (R6): a number's bytes back into a number, and a field of a run of bytes that holds a number there. -/

namespace Sys2Proof.Machine

open Sys2Proof

@[simp] theorem le_length (n v : Nat) : (le n v).length = n := by
  induction n generalizing v with
  | zero => rfl
  | succ n ih => simp [le, ih]

/-- `n` bytes carry a number modulo 256ⁿ. -/
theorem ofLe_le (n v : Nat) : ofLe (le n v) = v % 256 ^ n := by
  induction n generalizing v with
  | zero => simp [le, ofLe, Nat.mod_one]
  | succ n ih => rw [le, ofLe, ih, BitVec.toNat_ofNat, Nat.pow_succ' (m := 256), Nat.mod_mul (a := 256)]

theorem ofLe_append (p q : Bytes) : ofLe (p ++ q) = ofLe p + 256 ^ p.length * ofLe q := by
  induction p with
  | nil => simp [ofLe]
  | cons b p ih => rw [List.cons_append, ofLe, ofLe, ih, List.length_cons, Nat.pow_succ', Nat.mul_add, Nat.mul_assoc, Nat.add_assoc]

@[simp] theorem slice_length (bs : Bytes) (o n : Nat) : (slice bs o n).length = n := by
  simp only [slice, List.length_append, List.length_take, List.length_drop, List.length_replicate]
  omega

/-- A slice holds the bytes from its offset on, 0 past the end. -/
theorem slice_eq_map_range (bs : Bytes) (o n : Nat) : slice bs o n = (List.range n).map fun i => bs.getD (o + i) 0 := by
  refine List.ext_getElem (by rw [slice_length, List.length_map, List.length_range]) fun i hi _ => ?_
  rw [slice_length] at hi
  have hlen : ((bs.drop o).take n).length = min n (bs.length - o) := by rw [List.length_take, List.length_drop]
  rw [List.getElem_map, List.getElem_range, List.getD_eq_getElem?_getD]
  simp only [slice]
  by_cases h : o + i < bs.length
  · rw [List.getElem_append_left (by omega), List.getElem_take, List.getElem_drop, List.getElem?_eq_getElem h, Option.getD_some]
  · rw [List.getElem_append_right (by omega), List.getElem_replicate, List.getElem?_eq_none (by omega), Option.getD_none]

theorem slice_add (bs : Bytes) (o n k : Nat) : slice bs o (n + k) = slice bs o n ++ slice bs (o + n) k := by
  simp [slice_eq_map_range, List.range_add, Nat.add_assoc]

/-- A field is its low bytes and, above them, the field of the bytes that follow. -/
theorem fieldLe_add (bs : Bytes) (o n k : Nat) : fieldLe bs o (n + k) = fieldLe bs o n + 256 ^ n * fieldLe bs (o + n) k := by
  rw [fieldLe, slice_add, ofLe_append, slice_length, fieldLe, fieldLe]

/-- A number stands in the field into which its bytes were put. -/
theorem fieldLe_le (p q : Bytes) (n v : Nat) : fieldLe (p ++ (le n v ++ q)) p.length n = v % 256 ^ n := by
  have hs : slice (p ++ (le n v ++ q)) p.length n = le n v := by simp [slice]
  rw [fieldLe, hs, ofLe_le]

/-- Padding a run of bytes appends zeros. -/
theorem padTo_eq_append {m : Nat} {bs : Bytes} (h : bs.length ≤ m) : padTo m bs = bs ++ List.replicate (m - bs.length) 0 := by
  simp [padTo, slice, List.take_of_length_le h]

end Sys2Proof.Machine
end

section
/-! SUPPORT. Writes of host memory read back. -/

namespace Sys2Proof.Machine

open Sys2Proof

theorem Memory.readBytes_succ (m : Memory) (a n : Nat) : m.readBytes a (n + 1) = m.read a :: m.readBytes (a + 1) n := by
  simp [Memory.readBytes, List.range_succ_eq_map, Nat.add_assoc, Nat.add_comm 1]

theorem Memory.readBytes_writeBytes_same (m : Memory) (a : Nat) (bs : Bytes) (h : m.wf = true) :
    (m.writeBytes a bs).readBytes a bs.length = bs := by
  induction bs generalizing m a with
  | nil => rfl
  | cons b bs ih =>
    have hw : (m.write a b).wf = true := Memory.wf_write m a b h
    have hb : ((m.write a b).writeBytes (a + 1) bs).read a = b := by
      rw [Memory.read_writeBytes_other _ _ _ _ hw (.inl (by omega)), Memory.read_write_same m a b h]
    rw [Memory.writeBytes, List.length_cons, Memory.readBytes_succ, hb, ih (m.write a b) (a + 1) hw]

end Sys2Proof.Machine
end

section
/-! SUPPORT. BAR0 (15_mailbox_and_events.md R429, R430): which writes reach a Drawer's command area, which a register, which nothing; and
the identity block as it is read. -/

namespace Sys2Proof.Machine

open Sys2Proof

/-! ### Writes -/

theorem exec_registerWrite {s : State} (a w v : Nat) (h : s.live = true) : exec (.registerWrite a w v) s = .next (doRegisterWrite a w v s) :=
  whenLive_live (doRegisterWrite a w v) h

/-- A write of a Drawer's command area, at offset `o` of it. -/
theorem doRegisterWrite_area (s : State) {d o w : Nat} (v : Nat) (hd : d < 16) (ho : o + w ≤ 128)
    (hw : w = 1 ∨ w = 2 ∨ w = 4 ∨ w = 8) (ha : o % w = 0) :
    doRegisterWrite (0x1000 + 0x100 * d + o) w v s = s.setDrawer d fun x => { x with area := splice (padTo 128 x.area) o (le w v) } := by
  have hrange : 0x1000 ≤ 0x1000 + 0x100 * d + o ∧ 0x1000 + 0x100 * d + o < 0x2000 := by omega
  have hoff : (0x1000 + 0x100 * d + o) % 0x100 = o := by omega
  have hdrawer : (0x1000 + 0x100 * d + o - 0x1000) / 0x100 = d := by omega
  have halign : (0x1000 + 0x100 * d + o) % w = 0 := by
    rcases hw with rfl | rfl | rfl | rfl <;> omega
  have hlow : o < 0x80 := by omega
  rw [doRegisterWrite, if_pos hrange, hoff, hdrawer, if_pos ⟨hw, halign, hlow⟩]

/-- Outside the Drawers, an aligned 32-bit write reaches the register. -/
theorem doRegisterWrite_word (s : State) {a : Nat} (v : Nat) (h : a < 0x1000 ∨ 0x2000 ≤ a) (ha : a % 4 = 0) :
    doRegisterWrite a 4 v s = writeReg a (v % 2 ^ 32) s := by
  have hrange : ¬ (0x1000 ≤ a ∧ a < 0x2000) := by omega
  rw [doRegisterWrite, if_neg hrange, if_pos ⟨rfl, ha⟩]

/-- Neither a whole aligned 32-bit word nor a whole aligned 64-bit word: the accesses that registers do not answer (R429). -/
theorem not_word_access {a w : Nat} (h : w ≠ 4 ∧ w ≠ 8 ∨ a % w ≠ 0) : ¬ (w = 4 ∧ a % 4 = 0) ∧ ¬ (w = 8 ∧ a % 8 = 0) := by
  constructor <;> (rintro ⟨rfl, ha⟩; omega)

/-- Outside the Drawers, a write of another width or not aligned is ignored. -/
theorem doRegisterWrite_ignored (s : State) {a w : Nat} (v : Nat) (h : a < 0x1000 ∨ 0x2000 ≤ a) (hw : w ≠ 4 ∧ w ≠ 8 ∨ a % w ≠ 0) :
    doRegisterWrite a w v s = s := by
  obtain ⟨h4, h8⟩ := not_word_access hw
  have hrange : ¬ (0x1000 ≤ a ∧ a < 0x2000) := by omega
  rw [doRegisterWrite, if_neg hrange, if_neg h4, if_neg h8]

/-- The event control registers but EQ_ENABLE and EQ_HEAD, which have commands of their own. -/
theorem writeReg_eventControl (s : State) {a : Nat} (v : Nat) (h : 0x200 ≤ a ∧ a < 0x300) (he : a ≠ 0x20C) (hh : a ≠ 0x210) :
    writeReg a v s = writeEvReg a v s := by
  have h0 : a ≠ 0x100 := by omega
  have h4 : a ≠ 0x104 := by omega
  rw [writeReg, if_neg h0, if_neg h4, if_neg he, if_neg hh, if_pos h]

/-- A write of EV_MASK_k. -/
theorem writeEvReg_mask {s : State} {k : Nat} (v : Nat) (hs : s.sys.stage ≠ 0) (hk : k < 10) :
    writeEvReg (0x220 + 4 * k) v s = { s with ev := { s.ev with masks := s.ev.masks.set k (BitVec.ofNat 32 v) } } := by
  have hlow : 0x220 + 4 * k ≠ 0x200 ∧ 0x220 + 4 * k ≠ 0x204 ∧ 0x220 + 4 * k ≠ 0x208 ∧ 0x220 + 4 * k ≠ 0x218 := by omega
  have hmask : 0x220 ≤ 0x220 + 4 * k ∧ 0x220 + 4 * k < 0x248 := by omega
  have hidx : (0x220 + 4 * k - 0x220) / 4 = k := by omega
  obtain ⟨h0, h4, h8, h18⟩ := hlow
  rw [writeEvReg, if_neg hs, if_neg h0, if_neg h4, if_neg h8, if_neg h18, if_pos hmask, hidx]

/-- A write of EQ_ENTRIES is ignored while the ring is enabled (R451). -/
theorem writeEvReg_entries {s : State} (v : Nat) (hs : s.sys.stage ≠ 0) :
    writeEvReg 0x208 v s = if s.ev.enable then s else { s with ev := { s.ev with entries := v } } := by
  rw [writeEvReg, if_neg hs, if_neg (by decide), if_neg (by decide), if_pos rfl]

/-! ### Reads that clear (R9) -/

theorem exec_readClear {s : State} (a n : Nat) (h : s.live = true) : exec (.readClear a n) s = .next (doReadClear a n s) :=
  whenLive_live (doReadClear a n) h

theorem doReadClear_rejects (s : State) (n : Nat) : doReadClear 0x110 n s = { s with readData := s.rejects, rejects := sat 32 n } :=
  if_pos rfl

theorem doReadClear_lost (s : State) (n : Nat) :
    doReadClear 0x214 n s = { s with readData := s.ev.lost, ev := { s.ev with lost := sat 32 n } } := by
  rw [doReadClear, if_neg (by decide), if_pos rfl]

/-! ### Reads (R429, Table 15-2) -/

theorem bar0Read_unanswered (s : State) {a w : Nat} (h : w ≠ 4 ∧ w ≠ 8 ∨ a % w ≠ 0) : s.bar0Read a w = 0 := by
  obtain ⟨h4, h8⟩ := not_word_access h
  rw [State.bar0Read, if_neg h4, if_neg h8]

/-- An aligned 32-bit read below 0x100 is a field of the identity block. -/
theorem bar0Read_identity (s : State) {a : Nat} (h : a < 0x100) (ha : a % 4 = 0) : s.bar0Read a 4 = fieldLe s.identityBlock a 4 := by
  rw [State.bar0Read, if_pos ⟨rfl, ha⟩, State.bar0Word, if_pos h]

/-- The identity block begins with the vendor, the device and the revision (R2, R3). -/
theorem identityBlock_head (s : State) : ∃ rest, s.identityBlock = le 2 pcieVendorId ++ (le 2 pcieDeviceId ++ (le 1 pcieRevisionId ++ rest)) := by
  rw [State.identityBlock, padTo_eq_append (by simp)]
  simp only [List.append_assoc, List.append_cancel_left_eq]
  exact ⟨_, rfl⟩

theorem identityBlock_vendor_device (s : State) : fieldLe s.identityBlock 0 4 = pcieVendorId % 65536 + 65536 * pcieDeviceId := by
  obtain ⟨rest, hs⟩ := identityBlock_head s
  have hv := fieldLe_le [] (le 2 pcieDeviceId ++ (le 1 pcieRevisionId ++ rest)) 2 pcieVendorId
  have hd := fieldLe_le (le 2 pcieVendorId) (le 1 pcieRevisionId ++ rest) 2 pcieDeviceId
  rw [List.nil_append, List.length_nil, ← hs] at hv
  rw [le_length, ← hs] at hd
  rw [fieldLe_add _ 0 2 2, hv, Nat.zero_add, hd]
  rfl

theorem identityBlock_revision (s : State) : fieldLe s.identityBlock 4 4 % 256 = pcieRevisionId := by
  obtain ⟨rest, hs⟩ := identityBlock_head s
  have hr := fieldLe_le (le 2 pcieVendorId ++ le 2 pcieDeviceId) rest 1 pcieRevisionId
  rw [List.length_append, le_length, le_length, List.append_assoc, ← hs] at hr
  rw [fieldLe_add _ 4 1 3, hr, Nat.pow_one, Nat.add_mul_mod_self_left]
  rfl

/-! ### The statement -/

/-- Settles O13: the law of host memory, then one lemma for each region a register access can reach. -/
theorem registersAndHostMemory : Obligations.RegistersAndHostMemory := by
  refine ⟨fun m a bs hm => ⟨Memory.wf_writeBytes m a bs hm, Memory.readBytes_writeBytes_same m a bs hm,
    fun x hx => Memory.read_writeBytes_other m a x bs hm hx⟩, ?area, ?mask, ?entries, ?ignored, ?rejects, ?lost, ?identity⟩
  case area =>
    intro s d o w v hs hd ho hw ha
    rw [exec_registerWrite _ _ _ hs, doRegisterWrite_area s v hd ho hw ha]
  case mask =>
    intro s k v hs hst hk
    rw [exec_registerWrite _ _ _ hs, doRegisterWrite_word s v (by omega) (by omega),
      writeReg_eventControl s _ (by omega) (by omega) (by omega), writeEvReg_mask _ hst hk]
  case entries =>
    intro s v hs hst
    rw [exec_registerWrite _ _ _ hs, doRegisterWrite_word s v (by decide) (by decide),
      writeReg_eventControl s _ (by decide) (by decide) (by decide), writeEvReg_entries _ hst]
  case ignored =>
    intro s a w v hs ha hw
    rw [exec_registerWrite _ _ _ hs, doRegisterWrite_ignored s v ha hw]
  case rejects =>
    intro s n hs
    rw [exec_readClear _ _ hs, doReadClear_rejects]
  case lost =>
    intro s n hs
    rw [exec_readClear _ _ hs, doReadClear_lost]
  case identity =>
    intro s
    refine ⟨?_, ?_, fun a w h => bar0Read_unanswered s h⟩
    · rw [bar0Read_identity s (by decide) (by decide), identityBlock_vendor_device]
      rfl
    · rw [bar0Read_identity s (by decide) (by decide), identityBlock_revision]
      rfl

end Sys2Proof.Machine
end

section
/-! SUPPORT. How a step runs an accepted Drawer command (R433, R437, R440, R441): its meaning on the command that the Drawer holds, then the checks
of its fields and of its destination buffer. -/

namespace Sys2Proof.Machine

open Sys2Proof

/-- An accepted command runs on the state and on the command that its Drawer holds. -/
theorem whenLive_drawerCmd {s : State} {d op : Nat} {c : DrawerCmd} (h : s.accepted d op c = true) (f : State → DrawerCmd → State) :
    whenLive s (fun s => drawerCmd d op s (f s)) = .next (f s c) := by
  rw [whenLive_live _ (accepted_live h), drawerCmd_accepted _ h]

/-- The same for a command whose fields `l` pass check 6 of R547. -/
theorem whenLive_checked {s : State} {d op n : Nat} {c : DrawerCmd} {l : DrawerCmd → List (Bool × Nat)} (h : s.accepted d op c = true)
    (hz : c.endsAt n = true) (hl : (l c).find? (·.1) = none) (f : DrawerCmd → State → State) :
    whenLive s (fun s => drawerCmd d op s fun c => checked d c n (l c) s (f c)) = .next (f c s) := by
  rw [whenLive_drawerCmd h fun s c => checked d c n (l c) s (f c), checked_none _ hz hl]

theorem withDest_fits {d need : Nat} {b : Nat × Nat} {s : State} (f : State → State) (hc : s.covered b.1 b.2 true = true) (hn : need ≤ b.2) :
    withDest d b need s f = f s := by
  rw [withDest, if_pos hc, if_neg (Nat.not_lt.mpr hn)]

theorem withDest_outside {d need : Nat} {b : Nat × Nat} {s : State} (f : State → State) (hc : s.covered b.1 b.2 true = false) :
    withDest d b need s f = fail d Status.notPermitted s := by
  rw [withDest, if_neg (Bool.eq_false_iff.mp hc)]

/-- A span is covered when it is empty, or inside one registered buffer that permits the access (R441). -/
theorem covered_iff (s : State) (a n : Nat) (w : Bool) : s.covered a n w = true ↔
    n = 0 ∨ ∃ b ∈ s.bufs, b.addr ≤ a ∧ a + n ≤ b.addr + b.len ∧ (w = true → b.write = true) := by
  have permits : ∀ b : HostBuf, (b.write || !w) = true ↔ (w = true → b.write = true) := fun b => by cases w <;> simp
  simp only [State.covered, Bool.or_eq_true, beq_iff_eq, List.any_eq_true, Bool.and_eq_true, decide_eq_true_eq, and_assoc]
  simp only [← Bool.or_eq_true, permits]

end Sys2Proof.Machine
end

section
/-! SUPPORT. The machine right after reset (R512, R513): the counts of its tables, and the invariants. -/

namespace Sys2Proof.Machine

open Sys2Proof

/-- 16 front-end slices, 24 colour slices, 32 + 16 + 2 units without spares are Active at cold start (R486). -/
theorem reset_active_units : (State.reset.units.units.map (·.st)).count .active = 90 := rfl

theorem reset_hostMem_wf : State.reset.hostMem.wf = true := rfl

theorem reset_queueWf : State.reset.queueWf = true := rfl

theorem reset_legal : State.reset.legal = true := rfl

theorem reset_sized : State.reset.sized = true := rfl

/-- Settles O3: each value as the state at reset gives it, then the invariants. -/
theorem resetHoldsTheStatedValues : Obligations.ResetHoldsTheStatedValues := by
  exact ⟨⟨rfl, rfl, rfl, rfl, rfl, rfl, List.map_replicate, rfl, List.map_replicate, rfl, rfl, rfl, rfl, rfl, reset_active_units, rfl, rfl,
    List.map_replicate, List.map_replicate, rfl, rfl, rfl⟩, reset_hostMem_wf, rfl, reset_queueWf, reset_legal, reset_sized⟩

end Sys2Proof.Machine
end

section
/-! SUPPORT. SYSTEM commands (15_mailbox_and_events.md Table 15-10; R26 to R29, R441): what each runs to, and what fuse work leaves alone. -/

namespace Sys2Proof.Machine

open Sys2Proof

/-! ### Status and Service mode (R28) -/

theorem exec_systemGetStatus {s : State} {d : Nat} {c : DrawerCmd} (h : s.accepted d 0x0101 c = true) (hz : c.endsAt 0 = true) :
    exec (.systemGetStatus d) s = .next (done d s.status s) :=
  whenLive_checked h hz rfl fun _ s => done d s.status s

/-- The first 24 bytes of the status: MODE, PSTATE, STAGE, and the MAC at the next 8-byte boundary. -/
theorem status_head (s : State) :
    s.status.take 24 = le 4 (b2n s.sys.service) ++ le 4 s.sys.pstate ++ le 4 s.sys.stage ++ le 4 0 ++ le 8 Config.mac := by
  rw [State.status, List.append_assoc _ (le 4 _) (le 4 _), List.append_assoc _ (le 4 _) (_ ++ _), List.append_assoc _ (le 4 _) (_ ++ _)]
  exact List.take_left' (by simp)

/-- What R28 asks for before Service mode. -/
theorem serviceReady_iff (s : State) : s.serviceReady = true ↔
    s.mem.passed = true ∧ (∃ x ∈ s.shelves, x.plan.isSome = true) ∧ s.units.bench = none ∧
      (∀ q ∈ s.ports, q.test = none ∧ q.inject = none ∧ q.bcPattern = 0) := by
  simp only [State.serviceReady, Bool.and_eq_true, List.any_eq_true, List.all_eq_true, Option.isNone_iff_eq_none, beq_iff_eq, and_assoc]

theorem exec_systemEnterService {s : State} {d : Nat} {c : DrawerCmd} (h : s.accepted d 0x0102 c = true) (hz : c.endsAt 0 = true) :
    exec (.systemEnterService d) s = .next (
      if !s.serviceReady then fail d Status.notPermitted s
      else if s.sys.service then done d [] s
      else raise 308 0 [1] none (done d [] { s with sys := { s.sys with service := true } })) :=
  whenLive_checked h hz rfl _

/-! ### Maintenance mode and fuse work (R29, R371, R461) -/

/-- The state with everything that fuse work may change blanked: free values, the anti-rollback value, the memories, events and host memory. -/
def State.apartFromFuses (s : State) : State :=
  { s with sys := { s.sys with free := 0, rollback := 0, rollbackDue := false }, mem := {}, ev := {}, hostMem := [] }

@[simp] theorem raise_apartFromFuses (n i : Nat) (args : List Nat) (tk : Option Ticket) (s : State) :
    (raise n i args tk s).apartFromFuses = s.apartFromFuses := by
  rw [raise_frame]; rfl

theorem blowEntry_apartFromFuses (r : Repair) (s : State) : (blowEntry r s).1.apartFromFuses = s.apartFromFuses := by
  have hlow : ∀ t : State, (if t.mem.fieldEntries = 28 then raise 215 r.bank [] none t else t).apartFromFuses = t.apartFromFuses := by
    intro t
    split
    · exact raise_apartFromFuses _ _ _ _ t
    · rfl
  exact (hlow _).trans (raise_apartFromFuses _ _ _ _ _)

theorem blowPending_apartFromFuses (s : State) : (blowPending s).apartFromFuses = s.apartFromFuses := by
  rw [blowPending]
  generalize (s.mem.repairs.filter fun r => !r.fused) = l
  induction l generalizing s with
  | nil => rfl
  | cons r l ih =>
    rw [List.foldl_cons, ih]
    split
    · exact blowEntry_apartFromFuses r s
    · rfl

theorem advanceRollback_apartFromFuses (v : Bool) (s : State) : (advanceRollback v s).apartFromFuses = s.apartFromFuses := by
  simp only [advanceRollback]
  split
  · rfl
  · rw [raise_apartFromFuses]; rfl

/-- The fuse work of an entry to Maintenance mode: none without VDD_FUSE. -/
def fuseWork (vddFuse : Bool) (s : State) : State := if vddFuse then blowPending (advanceRollback true s) else s

theorem fuseWork_apartFromFuses (v : Bool) (s : State) : (fuseWork v s).apartFromFuses = s.apartFromFuses := by
  cases v
  · rfl
  · exact (blowPending_apartFromFuses _).trans (advanceRollback_apartFromFuses true s)

/-- The entry to Maintenance mode itself, before any fuse work: the Drawer's result, then EVT.SYS.MODE_CHANGED. -/
def enterMaintenance (d : Nat) (s : State) : State :=
  raise 308 0 [0] none (done d [] { s with sys := { s.sys with service := false } })

theorem exec_systemEnterMaintenance {s : State} {d : Nat} {c : DrawerCmd} (v : Bool) (h : s.accepted d 0x0103 c = true) (hz : c.endsAt 0 = true) :
    exec (.systemEnterMaintenance d v) s = .next (
      if s.store.clip.isSome then fail d Status.notPermitted s
      else if !s.sys.service then done d [] s
      else fuseWork v (enterMaintenance d s)) :=
  whenLive_checked h hz rfl _

theorem enterMaintenance_not_busy {s : State} {d : Nat} (h : (s.drawer d).st = .busy) : ((enterMaintenance d s).drawer d).st ≠ .busy := by
  rw [enterMaintenance, raise_drawer]
  exact postResult_not_busy Status.ok noDetail [] (s := { s with sys := { s.sys with service := false } }) h

/-- With or without the fuse work, the entry ends outside Service mode, with its Drawer answered and the queue as it was. -/
theorem fuseWork_enterMaintenance {s : State} {d : Nat} (v : Bool) (h : (s.drawer d).st = .busy) :
    (fuseWork v (enterMaintenance d s)).sys.service = false ∧ ((fuseWork v (enterMaintenance d s)).drawer d).st ≠ .busy ∧
      (fuseWork v (enterMaintenance d s)).pending = s.pending := by
  have hframe := fuseWork_apartFromFuses v (enterMaintenance d s)
  have hservice : (fuseWork v (enterMaintenance d s)).sys.service = (enterMaintenance d s).sys.service := congrArg (·.sys.service) hframe
  have hdrawer : (fuseWork v (enterMaintenance d s)).drawer d = (enterMaintenance d s).drawer d := congrArg (·.drawer d) hframe
  have hpending : (fuseWork v (enterMaintenance d s)).pending = (enterMaintenance d s).pending := congrArg (·.pending) hframe
  rw [hservice, hdrawer, hpending]
  exact ⟨by simp [enterMaintenance, done], enterMaintenance_not_busy h, by simp [enterMaintenance, done]⟩

/-! ### Registered buffers (R441) -/

/-- The fields of SYSTEM.REGISTER_BUFFER that pass check 6: a number below 64, and 1 to 2²⁸ whole pages from a page boundary. -/
structure DrawerCmd.NamesBuffer (c : DrawerCmd) : Prop where
  id : c.w 0 < 64
  addr : c.q 8 % 4096 = 0
  pages : c.q 16 % 4096 = 0
  least : 4096 ≤ c.q 16
  most : c.q 16 ≤ 2 ^ 40
  permission : c.w 24 ≤ 1

theorem exec_systemRegisterBuffer {s : State} {d : Nat} {c : DrawerCmd} (h : s.accepted d 0x0104 c = true) (hz : c.endsAt 28 = true)
    (hc : c.NamesBuffer) (htop : c.q 8 + c.q 16 ≤ 2 ^ 64) :
    exec (.systemRegisterBuffer d) s = .next (
      if s.bufs.any (·.id == c.w 0) then invalid d 0 s
      else if s.bufs.any (fun b => decide (c.q 8 < b.addr + b.len) && decide (b.addr < c.q 8 + c.q 16)) = true then invalid d 8 s
      else done d [] { s with bufs := s.bufs ++ [{ id := c.w 0, addr := c.q 8, len := c.q 16, write := c.w 24 == 1 }] }) := by
  obtain ⟨hid, haddr, hpages, hleast, hmost, hperm⟩ := hc
  refine (whenLive_checked h hz ?fields _).trans ?body
  case fields => simpa [Nat.le_of_lt_succ hid, haddr, hpages, hleast, hperm] using hmost
  case body => simp only [Nat.reduceAdd, Nat.not_lt.mpr htop, false_or]

theorem exec_systemUnregisterBuffer {s : State} {d : Nat} {c : DrawerCmd} {b : HostBuf} (h : s.accepted d 0x0105 c = true) (hz : c.endsAt 4 = true)
    (hid : c.w 0 ≤ 63) (hb : s.bufs.find? (fun x => x.id == c.w 0) = some b) :
    exec (.systemUnregisterBuffer d) s = .next (
      if (s.spansInUse d).any fun x => decide (0 < x.2) && overlap x.1 x.2 b.addr b.len then fail d Status.busy s
      else done d [] { s with bufs := s.bufs.filter fun x => x.id != b.id }) := by
  refine (whenLive_checked h hz ?fields _).trans ?body
  case fields => simp [hid]
  case body => simp only [hb]

/-! ### The statement -/

/-- Settles O6: each command by what it runs to, and the buffer tables by whether a buffer with the number, or one that overlaps, is there. -/
theorem systemCommands : Obligations.SystemCommands := by
  refine ⟨⟨fun s d c h hz => exec_systemGetStatus h hz, status_head⟩, ?service, ?maintenance, ⟨?register, covered_iff⟩, ?unregister⟩
  case service =>
    intro s d c h hz ready
    rw [exec_systemEnterService h hz]
    refine ⟨fun hr hs => ?_, fun hr hs => ?_, fun hr => ?_⟩
    · simp [(serviceReady_iff s).mpr hr, hs]
    · simp [(serviceReady_iff s).mpr hr, hs]
    · simp [Bool.eq_false_iff.mpr (mt (serviceReady_iff s).mp hr)]
  case maintenance =>
    intro s d v c h hz
    refine ⟨fun hclip hs => ?_, fun hclip hs => ?_, fun hclip => ?_⟩
    · simp [exec_systemEnterMaintenance false h hz, hclip, hs, enterMaintenance, fuseWork]
    · refine ⟨_, ?_, fuseWork_enterMaintenance v (accepted_busy h)⟩
      simp [exec_systemEnterMaintenance v h hz, hclip, hs]
    · simp [exec_systemEnterMaintenance v h hz, Option.isSome_iff_ne_none.mpr hclip]
  case register =>
    intro s d c h hz hid haddr hpages hleast hmost hperm htop
    rw [exec_systemRegisterBuffer h hz ⟨hid, haddr, hpages, hleast, hmost, hperm⟩ htop]
    refine ⟨fun hfree => ?_, fun hsame => ?_, fun hfree hover => ?_⟩
    · have hnum : s.bufs.any (fun b => b.id == c.w 0) = false := by simpa using fun b hb => (hfree b hb).1
      have hspan : s.bufs.any (fun b => decide (c.q 8 < b.addr + b.len) && decide (b.addr < c.q 8 + c.q 16)) = false := by
        simpa using fun b hb hlt => (hfree b hb).2.resolve_left (Nat.not_le.mpr hlt)
      simp [hnum, hspan]
    · have hnum : s.bufs.any (fun b => b.id == c.w 0) = true := by simpa using hsame
      simp [hnum]
    · have hnum : s.bufs.any (fun b => b.id == c.w 0) = false := by simpa using hfree
      have hspan : s.bufs.any (fun b => decide (c.q 8 < b.addr + b.len) && decide (b.addr < c.q 8 + c.q 16)) = true := by simpa using hover
      simp [hnum, hspan]
  case unregister =>
    intro s d c b h hz hid hb
    rw [exec_systemUnregisterBuffer h hz hid hb]
    refine ⟨fun hfree => ?_, fun hused => ?_⟩
    · rw [if_neg (by simpa using hfree)]
    · rw [if_pos (by simpa using hused)]

end Sys2Proof.Machine
end

section
/-! SUPPORT. DIAG commands (17_faults_thermal_supply.md R509, Tables 17-5 to 17-7): the table each one writes and what the read clears; and
DIAG.CAPTURE (R13), which only begins. -/

namespace Sys2Proof.Machine

open Sys2Proof

/-- An accepted DIAG command whose payload is a destination buffer alone runs to that buffer's check. -/
theorem whenLive_withDest {s : State} {d op : Nat} {c : DrawerCmd} (h : s.accepted d op c = true) (hz : c.endsAt 16 = true) (need : Nat)
    (f : DrawerCmd → State → State) :
    whenLive s (fun s => drawerCmd d op s fun c => checked d c 16 [] s fun s => withDest d (c.buf 0) need s (f c)) =
      .next (withDest d (c.buf 0) need s (f c)) :=
  whenLive_checked h hz rfl fun c s => withDest d (c.buf 0) need s (f c)

theorem exec_diagGetFaults {s : State} {d : Nat} {c : DrawerCmd} (h : s.accepted d 0x0D03 c = true) (hz : c.endsAt 16 = true) :
    exec (.diagGetFaults d) s = .next (withDest d (c.buf 0) 3040 s fun s =>
      done d [] { (s.hostWrite (c.q 0) (s.units.units.flatMap s.units.entryBytes)) with
        units := { s.units with units := s.units.units.map fun x => { x with mismatch := 0 } } }) :=
  whenLive_withDest h hz 3040 _

theorem exec_diagGetThermal {s : State} {d : Nat} {c : DrawerCmd} (h : s.accepted d 0x0D04 c = true) (hz : c.endsAt 16 = true) :
    exec (.diagGetThermal d) s = .next (withDest d (c.buf 0) 226 s fun s =>
      done d [] { (s.hostWrite (c.q 0) (s.therm.sensors.flatMap ThermSensor.bytes ++ le 2 (ofInt 16 s.therm.tj))) with
        therm := { s.therm with sensors := s.therm.sensors.map fun x => { x with max := none } } }) :=
  whenLive_withDest h hz 226 _

theorem exec_diagGetSlack {s : State} {d : Nat} {c : DrawerCmd} (h : s.accepted d 0x0D05 c = true) (hz : c.endsAt 16 = true) :
    exec (.diagGetSlack d) s = .next (withDest d (c.buf 0) 80 s fun s =>
      done d [] { (s.hostWrite (c.q 0) ((List.range 5).flatMap s.slackBytes)) with
        slack := s.slack.map fun r => { r with min := 0x7FF, lowWindows := 0 } }) :=
  whenLive_withDest h hz 80 _

/-- DIAG.CAPTURE of 1 to 65,536 tokens of a front-end slice (stage class 0) or a colour slice (stage class 2). -/
theorem exec_diagCapture {s : State} {d : Nat} {c : DrawerCmd} (h : s.accepted d 0x0D01 c = true) (hz : c.endsAt 40 = true)
    (hslice : c.w 0 = 0 ∧ c.w 4 < 18 ∨ c.w 0 = 2 ∧ c.w 4 < 27) (hmin : 1 ≤ c.w 16) (hmax : c.w 16 ≤ 65536) :
    exec (.diagCapture d) s = .next (withDest d (c.buf 24) (11 * c.w 16) s fun s => s.begin d) := by
  refine whenLive_checked h hz ?fields fun c s => withDest d (c.buf 24) (11 * c.w 16) s fun s => s.begin d
  have hcount : within (c.w 16) 1 65536 = true := by simp [within, hmin, hmax]
  rcases hslice with ⟨hclass, hnum⟩ | ⟨hclass, hnum⟩ <;> simp [hclass, hnum, hcount]

/-- Settles O20: what each command runs to, with a destination that is large enough or one outside the registered buffers. -/
theorem diagCommandsWriteTheirTables : Obligations.DiagCommandsWriteTheirTables := by
  refine fun s d c => ⟨fun h hz hc hn => ?faults, fun h hz hc hn => ?thermal, fun h hz hc hn => ?slack, fun h hz hc => ?outside,
    fun h hz hslice hmin hmax hc hn => ?capture⟩
  case faults => rw [exec_diagGetFaults h hz, withDest_fits _ hc hn, State.hostWrite]
  case thermal => rw [exec_diagGetThermal h hz, withDest_fits _ hc hn, State.hostWrite]
  case slack => rw [exec_diagGetSlack h hz, withDest_fits _ hc hn, State.hostWrite]
  case outside => rw [exec_diagGetFaults h hz, withDest_outside _ hc]
  case capture => rw [exec_diagCapture h hz hslice hmin hmax, withDest_fits _ hc hn]

end Sys2Proof.Machine
end

section
/-! SUPPORT. The floor form of a coded group (06_raw_codec.md R165, R172, R173): its size, whatever the samples. -/

namespace Sys2Proof.Machine

open Sys2Proof

@[simp] theorem padTo_length (n : Nat) (bs : Bytes) : (padTo n bs).length = n := slice_length bs 0 n

@[simp] theorem pad4_length (bs : Bytes) : (pad4 bs).length = 4 * ceilDiv bs.length 4 := padTo_length _ bs

/-- A coded group is its header of 32 bytes and its payload (R165). -/
theorem rawGroup_length (frame j firstRow rows plane : Nat) (floor coarse last trunc poison : Bool) (w delta runs : Nat) (payload : Bytes) :
    (rawGroup frame j firstRow rows plane floor coarse last trunc poison w delta runs payload).length = 32 + payload.length := by
  simp only [rawGroup, List.length_append, le_length]

/-- One byte for each cell of 4 × 4 samples, padded to whole words (R172). -/
theorem floorPayload_length (w : Nat) (rows : List (List Tok)) :
    (floorPayload w rows).length = 4 * ceilDiv (w / 4 * ceilDiv rows.length 4) 4 := by
  simp only [floorPayload, pad4_length, List.length_flatMap, List.length_map, List.length_range, List.map_const', List.sum_replicate_nat]
  rw [Nat.mul_comm (w / 4)]

/-- The floor form of a staged group has the size that the plan's budget counts for its rows (R173). -/
theorem stageGroup_floor_length (pp : PortPlan) (e : Entry) (g : RowGroup) (j delta : Nat) :
    (stageGroup pp e g j delta).floor.length =
      floorSize (pp.profile.width / pp.profile.h) (groupRowsOf pp.profile g (j % planesOf pp.profile)).length := by
  rw [stageGroup, rawGroup_length, floorPayload_length, floorSize]

/-- Settles O38: a header of 32 bytes, then one byte a cell padded to whole words. -/
theorem floorSizeIsFixedByGeometry : Obligations.FloorSizeIsFixedByGeometry :=
  fun pp e g j delta => stageGroup_floor_length pp e g j delta

end Sys2Proof.Machine
end

section
/-! SUPPORT. The table of frames in flight: an entry read after a change of one, and what a change of the sensors or an event leaves of
the table. -/

namespace Sys2Proof.Machine

open Sys2Proof

theorem State.entry?_lt {s : State} {i : Nat} {e : Entry} (h : s.entry? i = some e) : i < s.table.length := by
  refine Nat.lt_of_not_le fun hpast => ?_
  have hnone : s.entry? i = none := at!_past hpast
  cases hnone.symm.trans h

theorem State.entry?_setEntry_same {s : State} {i : Nat} {e : Entry} (f : Entry → Entry) (h : s.entry? i = some e) :
    (s.setEntry i f).entry? i = some (f e) :=
  (at!_upd_same (Option.map f) (State.entry?_lt h)).trans (congrArg (Option.map f) h)

theorem State.entry?_setEntry_other (s : State) {i k : Nat} (f : Entry → Entry) (h : k ≠ i) : (s.setEntry i f).entry? k = s.entry? k :=
  at!_upd_other s.table (Option.map f) h

/-- The state with what an event changes blanked: the event state and host memory. -/
def State.apartFromEvents (s : State) : State := { s with ev := {}, hostMem := [] }

@[simp] theorem raiseFor_apartFromEvents (n l : Nat) (args : List Nat) (i : Nat) (s : State) :
    (raiseFor n l args i s).apartFromEvents = s.apartFromEvents := by
  rw [raiseFor, raise_frame]; rfl

@[simp] theorem ite_raiseFor_apartFromEvents (c : Prop) [Decidable c] (n l : Nat) (args : List Nat) (i : Nat) (s : State) :
    (if c then raiseFor n l args i s else s).apartFromEvents = s.apartFromEvents := by
  rw [apply_ite State.apartFromEvents, raiseFor_apartFromEvents, ite_self]

@[simp] theorem endClass_apartFromEvents (i c : Nat) (s : State) : (endClass i c s).apartFromEvents = endClass i c s.apartFromEvents := rfl

/-- Two states that agree apart from events have the same frames in flight. -/
theorem State.entry?_of_apartFromEvents {s t : State} (h : t.apartFromEvents = s.apartFromEvents) (i : Nat) : t.entry? i = s.entry? i :=
  congrArg (·.entry? i) h

@[simp] theorem ite_raiseFor_entry? (c : Prop) [Decidable c] (n l : Nat) (args : List Nat) (i k : Nat) (s : State) :
    (if c then raiseFor n l args i s else s).entry? k = s.entry? k :=
  State.entry?_of_apartFromEvents (ite_raiseFor_apartFromEvents c n l args i s) k

/-- A state that events set apart from one with other frames and sensors keeps every other field. -/
theorem State.frame_of_apartFromEvents {s t u : State} (h : t.apartFromEvents = u.apartFromEvents)
    (hu : u = { s with table := u.table, sensors := u.sensors }) :
    t = { s with table := t.table, sensors := t.sensors, ev := t.ev, hostMem := t.hostMem } :=
  congrArg (fun v : State => { v with table := t.table, sensors := t.sensors, ev := t.ev, hostMem := t.hostMem })
    (h.trans (congrArg State.apartFromEvents hu))

end Sys2Proof.Machine
end

section
/-! SUPPORT. RAW_GROUP_START and RAW_GROUP_COMMIT (06_raw_codec.md R159, R176 to R180, R183): the form that a commit takes, and what each
step makes of the frame. -/

namespace Sys2Proof.Machine

open Sys2Proof

/-! ### Frames that take no raw step -/

theorem exec_rawGroupStart {s : State} (i : Nat) (h : s.live = true) : exec (.rawGroupStart i) s = .next (doRawGroupStart i s) :=
  whenLive_live _ h

theorem exec_rawGroupCommit {s : State} (i : Nat) (h : s.live = true) : exec (.rawGroupCommit i) s = .next (doRawGroupCommit i s) :=
  whenLive_live _ h

/-- No frame in entry `i` has raw groups left: it comes from no sensor, or its trailer is written. -/
def State.RawIdle (s : State) (i : Nat) : Prop := ∀ e, s.entry? i = some e → e.isSensor = false ∨ e.raw.trailer = true

theorem doRawGroupStart_idle {s : State} {i : Nat} (h : s.RawIdle i) : doRawGroupStart i s = s := by
  cases he : s.entry? i with
  | none => simp only [doRawGroupStart, he]
  | some e =>
    have hidle := h e he
    cases hg : e.groups.find? fun g => g.index == nextEmitted (s.entryPort e).profile e.rowCount (rawGroups (s.entryPort e).profile)
        e.raw.nextStart / planesOf (s.entryPort e).profile && g.st == .left with
    | none => simp only [doRawGroupStart, he, hg]
    | some g =>
      simp only [doRawGroupStart, he, hg]
      exact if_pos (by rcases hidle with h | h <;> simp [h])

theorem doRawGroupCommit_idle {s : State} {i : Nat} (h : s.RawIdle i) : doRawGroupCommit i s = s := by
  cases he : s.entry? i with
  | none => simp only [doRawGroupCommit, he]
  | some e =>
    simp only [doRawGroupCommit, he]
    exact if_pos (by simpa using h e he)

/-! ### The form of a commit (R176) -/

/-- A form that is no floor comes before any floor, and fits what the groups before it left and the later floors spare. -/
theorem chooseForm_fits {pp : PortPlan} {f : RawFrame} {g : StagedGroup} (h : (chooseForm pp f g).2.2 = false) :
    f.floorFrom = none ∧ ((chooseForm pp f g).1.length : Int) ≤ (rawBudget pp.profile pp.raw : Int) - f.spent - reserveAfter pp.profile g.j := by
  simp only [chooseForm] at h ⊢
  split at h
  case isTrue => cases h
  case isFalse hfloor =>
    rw [if_neg hfloor]
    refine ⟨Option.not_isSome_iff_eq_none.mp hfloor, ?_⟩
    split at h
    case isTrue hmain => rwa [if_pos hmain]
    case isFalse hmain =>
      rw [if_neg hmain]
      split at h
      case isTrue hcoarse => rw [if_pos hcoarse]; exact hcoarse.2
      case isFalse => cases h

/-- A commit in floor form leaves a frame whose later groups are floors. -/
theorem commitForm_floor (f : RawFrame) (g : StagedGroup) (n : Nat) (late : Bool) {form : Bytes × Bool × Bool} (h : form.2.2 = true) :
    (commitForm f g n late form).floorFrom.isSome = true := by
  simp only [commitForm, h, if_true, Option.isSome_some]

/-! ### RAW_GROUP_START (R159, R176 to R178) -/

/-- A start with a free coder changes the port's ladder and the frame alone: the group is staged with the delta of its ladder step. -/
theorem doRawGroupStart_stages {s : State} {i j : Nat} {e : Entry} {g : RowGroup} (he : s.entry? i = some e) (hsensor : e.isSensor = true)
    (htrailer : e.raw.trailer = false)
    (hj : j = nextEmitted (s.entryPort e).profile e.rowCount (rawGroups (s.entryPort e).profile) e.raw.nextStart)
    (hlast : j < rawGroups (s.entryPort e).profile)
    (hg : e.groups.find? (fun g => g.index == j / planesOf (s.entryPort e).profile && g.st == .left) = some g)
    (hwindow : j < e.raw.nextCommit + 32) (hturn : rawTurn s e = true) (hfree : rawFree s = true) :
    ∃ (ladder : Sensor → Sensor) (raw : Entry → RawFrame),
      doRawGroupStart i s = (s.setSensor e.lead ladder).setEntry i (fun x => { x with raw := raw x }) ∧
      (raw e).nextStart = j + 1 ∧ (raw e).bytes = e.raw.bytes ∧
      (raw e).staged = e.raw.staged ++ [stageGroup (s.entryPort e) e g j (rawDeltaAt (s.entryPort e).raw e.page.rawDelta
        (ladderStep (s.entryPort e).profile (s.entryPort e).raw e.raw j (rawIndex s e)))] := by
  have hstart : ¬((!e.isSensor) = true ∨ e.raw.trailer = true ∨ rawGroups (s.entryPort e).profile ≤ j ∨ e.raw.nextCommit + 32 ≤ j ∨
      rawTurn s e = false ∨ rawFree s = false) := by
    simp [hsensor, htrailer, hlast, hwindow, hturn, hfree]
  simp only [doRawGroupStart, he, ← hj, hg, if_neg hstart]
  exact ⟨_, _, rfl, rfl, rfl, rfl⟩

/-! ### RAW_GROUP_COMMIT of a staged group (R176) -/

/-- A commit of an open frame changes the frame alone, but for events. -/
theorem doRawGroupCommit_staged {s : State} {i : Nat} {e : Entry} {g : StagedGroup} {r : List StagedGroup} (he : s.entry? i = some e)
    (hsensor : e.isSensor = true) (htrailer : e.raw.trailer = false) (hstaged : e.raw.staged = g :: r) (hopen : e.closed = false) :
    ∃ samples late, (doRawGroupCommit i s).apartFromEvents = (s.setEntry i fun x => { x with
      raw := commitForm x.raw g samples late (chooseForm (s.entryPort e) e.raw g), rawMiss := x.rawMiss || late }).apartFromEvents := by
  refine ⟨planeRows (s.entryPort e).profile e.rowCount g.j * ((s.entryPort e).profile.width / (s.entryPort e).profile.h),
    late48 (e.deadline (s.entryPort e).deadlines 1 (g.j / planesOf (s.entryPort e).profile)) s.reading, ?_⟩
  simp only [doRawGroupCommit, he, hsensor, htrailer, hstaged, Bool.not_true, Bool.false_eq_true, or_self, if_false]
  split
  case h_1 x hx =>
    simp only [ite_raiseFor_entry?, State.entry?_setEntry_same _ he, Option.some.injEq] at hx
    subst hx
    simp only [rawComplete, hopen, Bool.false_and, Bool.false_eq_true, if_false, ite_raiseFor_apartFromEvents]
  case h_2 => simp only [ite_raiseFor_apartFromEvents]

/-! ### RAW_GROUP_COMMIT after the last group (R180, R183) -/

/-- A coded frame that neither the Larder nor a clip takes releases its last stage at once. -/
theorem keepRaw_unrecorded {s : State} {i : Nat} {e : Entry} (he : s.entry? i = some e) (hlarder : s.memSec.larderPages = 0)
    (hclip : s.store.clip = none) : keepRaw i s = endClass i 5 s := by
  have hrec : (e.clip.isSome && e.clip == s.store.clip.map (·.num)) = false := by cases e.clip <;> simp [hclip]
  simp only [keepRaw, he, hlarder, hrec, Nat.lt_irrefl, Bool.false_eq_true, if_false]

/-- The same of a state that events alone set apart from one whose frame is known. -/
theorem keepRaw_apartFromEvents {s t : State} {i : Nat} {e : Entry} (h : t.apartFromEvents = s.apartFromEvents) (he : s.entry? i = some e)
    (hlarder : s.memSec.larderPages = 0) (hclip : s.store.clip = none) :
    (keepRaw i t).apartFromEvents = (endClass i 5 s).apartFromEvents := by
  have hmem : t.memSec = s.memSec := congrArg (·.memSec) h
  have hstore : t.store = s.store := congrArg (·.store) h
  rw [keepRaw_unrecorded ((State.entry?_of_apartFromEvents h i).trans he) (hmem ▸ hlarder) (hstore ▸ hclip), endClass_apartFromEvents, h,
    endClass_apartFromEvents]

theorem endClass_entry? {s : State} {i : Nat} {e : Entry} (c : Nat) (h : s.entry? i = some e) :
    (endClass i c s).entry? i = some { e with ended := e.ended.set c true, items := e.items.filter fun x => x.2.2 != c } :=
  State.entry?_setEntry_same _ h

theorem endClass_entry?_other {i k : Nat} (c : Nat) (s : State) (h : k ≠ i) : (endClass i c s).entry? k = s.entry? k :=
  State.entry?_setEntry_other _ _ h

/-- The coded frame of a sensor: its header, the groups committed and its trailer (R163, R180). A frame without a group has the δ that its first
group would have had. -/
def codedFrame (s : State) (e : Entry) : Bytes :=
  let delta := rawDeltaAt (s.entryPort e).raw e.page.rawDelta (rawIndex s e)
  rawHeader (s.entryPort e) { e with raw := { e.raw with deltaStart := if e.raw.header then e.raw.deltaStart else delta } } ++ e.raw.bytes ++
    rawTrailer e.ticket e.raw (rawIndex s e)

/-- The frame of entry `i` with the coded bytes `bs`, its trailer among them. -/
def State.writeTrailer (s : State) (i : Nat) (bs : Bytes) : State :=
  s.setEntry i fun x => { x with raw := { x.raw with bytes := bs, staged := [], started := true, trailer := true } }

theorem State.writeTrailer_entry? {s : State} {i : Nat} {e : Entry} (bs : Bytes) (h : s.entry? i = some e) :
    (s.writeTrailer i bs).entry? i = some { e with raw := { e.raw with bytes := bs, staged := [], started := true, trailer := true } } :=
  State.entry?_setEntry_same _ h

theorem State.writeTrailer_entry?_other (s : State) {i k : Nat} (bs : Bytes) (h : k ≠ i) : (s.writeTrailer i bs).entry? k = s.entry? k :=
  State.entry?_setEntry_other _ _ h

/-- The trailer completes the coded frame and ends the raw coder's part and the recorder's; it may settle a ladder, and raises events. -/
theorem finishRaw_unrecorded {s : State} {i : Nat} {e : Entry} (he : s.entry? i = some e) (hlarder : s.memSec.larderPages = 0)
    (hclip : s.store.clip = none) :
    ∃ ladders : List Sensor, (finishRaw i s).apartFromEvents =
      (endClass i 5 (endClass i 1 ({ s with sensors := ladders }.writeTrailer i (codedFrame s e)))).apartFromEvents := by
  obtain ⟨ladders, hladders⟩ : ∃ l, (if e.raw.idx.isNone = true then s.setSensor e.lead fun x => { x with ladder := rawIndex s e } else s) =
      { s with sensors := l } := by
    split <;> exact ⟨_, rfl⟩
  simp only [finishRaw, he, hladders]
  refine ⟨ladders, keepRaw_apartFromEvents ?events (endClass_entry? 1 (State.writeTrailer_entry? _ he)) hlarder hclip⟩
  rw [endClass_apartFromEvents, ite_raiseFor_apartFromEvents, raiseFor_apartFromEvents]
  rfl

/-- The commit step of a closed frame whose groups are all committed writes the trailer. -/
theorem doRawGroupCommit_complete {s : State} {i : Nat} {e : Entry} (he : s.entry? i = some e) (hsensor : e.isSensor = true)
    (htrailer : e.raw.trailer = false) (hstaged : e.raw.staged = []) (hcomplete : rawComplete (s.entryPort e).profile e = true)
    (hturn : rawTurn s e = true) : doRawGroupCommit i s = finishRaw i s := by
  simp only [doRawGroupCommit, he, hsensor, htrailer, hstaged, hcomplete, hturn, Bool.not_true, Bool.and_self, Bool.false_eq_true, or_self,
    if_true, if_false]

/-! ### The statement -/

/-- Settles O39: what a start stages; the form a commit takes, then what the commit of a group and that of the trailer leave. -/
theorem rawGroupsStartAndCommit : Obligations.RawGroups := by
  refine ⟨⟨fun s i hlive hidle => ?startIdle, ?start⟩, fun pp f g => chooseForm_fits, fun s i hlive hidle => ?commitIdle, ?commit, ?trailer⟩
  case startIdle => rw [exec_rawGroupStart i hlive, doRawGroupStart_idle hidle]
  case start =>
    intro s i j e g hlive he hsensor htrailer hj hlast hg hwindow hturn hfree
    obtain ⟨ladder, raw, hrun, hnext, hbytes, hstaged⟩ := doRawGroupStart_stages he hsensor htrailer hj hlast hg hwindow hturn hfree
    have hentry : (s.setSensor e.lead ladder).entry? i = some e := he
    exact ⟨_, _, (exec_rawGroupStart i hlive).trans (congrArg _ hrun), State.entry?_setEntry_same _ hentry, hnext, hbytes, rfl, hstaged,
      fun k hk => State.entry?_setEntry_other _ _ hk, rfl⟩
  case commitIdle => rw [exec_rawGroupCommit i hlive, doRawGroupCommit_idle hidle]
  case commit =>
    intro s i e g r hlive he hsensor htrailer hstaged hopen
    obtain ⟨samples, late, hrun⟩ := doRawGroupCommit_staged he hsensor htrailer hstaged hopen
    have hentry := State.entry?_of_apartFromEvents hrun
    refine ⟨_, _, exec_rawGroupCommit i hlive, (hentry i).trans (State.entry?_setEntry_same _ he), rfl, rfl, rfl, rfl, commitForm_floor _ _ _ _,
      fun k hk => (hentry k).trans (State.entry?_setEntry_other _ _ hk), ?frame⟩
    case frame =>
      exact congrArg (fun t : State =>
        { t with table := (doRawGroupCommit i s).table, ev := (doRawGroupCommit i s).ev, hostMem := (doRawGroupCommit i s).hostMem }) hrun
  case trailer =>
    intro s i e hlive he hsensor htrailer hstaged hcomplete hturn hlarder hclip hended
    obtain ⟨ladders, hrun⟩ := finishRaw_unrecorded he hlarder hclip
    have hentry := State.entry?_of_apartFromEvents hrun
    have hframe : ({ s with sensors := ladders } : State).entry? i = some e := he
    have hnew := endClass_entry? 5 (endClass_entry? 1 (State.writeTrailer_entry? (codedFrame s e) hframe))
    refine ⟨_, _, _, (exec_rawGroupCommit i hlive).trans (congrArg _ (doRawGroupCommit_complete he hsensor htrailer hstaged hcomplete hturn)),
      (hentry i).trans hnew, rfl, rfl, ?coder, ?recorder, fun k hk => ?others, ?frame⟩
    case coder => simp [hended]
    case recorder => simp [hended]
    case others =>
      exact (hentry k).trans ((endClass_entry?_other 5 _ hk).trans ((endClass_entry?_other 1 _ hk).trans (State.writeTrailer_entry?_other _ _ hk)))
    case frame => exact State.frame_of_apartFromEvents hrun rfl

end Sys2Proof.Machine
end

section
/-! SUPPORT. The colour path's groups (07_colour_and_renditions.md R188 to R194): what COLOUR_GROUP_DEAL and COLOUR_GROUP_LEAVE make of the
frame and of the colour slices. -/

namespace Sys2Proof.Machine

open Sys2Proof

/-! ### COLOUR_GROUP_DEAL (R188, R189) -/

theorem exec_colourGroupDeal {s : State} (pos : Nat) (h : s.live = true) : exec (.colourGroupDeal pos) s = .next (doColourGroupDeal pos s) :=
  whenLive_live _ h

/-- Without a unit to deal to, a free slice or a ready group, a deal changes nothing. -/
theorem doColourGroupDeal_idle {s : State} {pos : Nat}
    (h : s.dealUnit 1 pos = none ∨ s.csPos.getD pos (some default) ≠ none ∨ pickColour s = none) : doColourGroupDeal pos s = s := by
  unfold doColourGroupDeal
  split
  case h_1 u i e g hunit hfree hpick => exact absurd h (by simp only [hunit, hfree, hpick, reduceCtorEq, ne_eq, not_true, or_self, not_false_eq_true])
  case h_2 => rfl

/-- A deal puts the group picked into the slice, and changes nothing but that and the frame's colour path. -/
theorem doColourGroupDeal_deals {s : State} {pos i : Nat} {u : UnitRec} {e : Entry} {g : RowGroup} (hunit : s.dealUnit 1 pos = some u)
    (hfree : s.csPos.getD pos (some default) = none) (hpick : pickColour s = some (i, e, g)) :
    ∃ (k : RowGroup) (late : Bool),
      doColourGroupDeal pos s = { s.setEntry i (fun x => { x with colour := { x.colour with
        groups := x.colour.groups ++ [k], late := if late then x.colour.late + 1 else x.colour.late } }) with
        csPos := s.csPos.set pos (some { entry := i, group := g.index, unit := u.number }) } ∧
      k.index = g.index ∧ k.firstRow = g.firstRow ∧ k.rows = g.rows ∧ k.st = .dealt ∧ k.pos = pos := by
  unfold doColourGroupDeal
  rw [hunit, hfree, hpick]
  refine ⟨_, _, rfl, ?_⟩
  exact ⟨rfl, rfl, rfl, rfl, rfl⟩

/-! ### COLOUR_GROUP_LEAVE (R189 to R193) -/

theorem exec_colourGroupLeave {s : State} (i : Nat) (h : s.live = true) : exec (.colourGroupLeave i) s = .next (doColourGroupLeave i s) :=
  whenLive_live _ h

/-- No dealt group of the frame in entry `i` has all the rows that it reads. -/
def State.ColourIdle (s : State) (i : Nat) : Prop :=
  ∀ e, s.entry? i = some e → ∀ g ∈ e.colour.groups, g.st = .dealt → e.colourInput g = false

theorem doColourGroupLeave_idle {s : State} {i : Nat} (h : s.ColourIdle i) : doColourGroupLeave i s = s := by
  cases he : s.entry? i with
  | none => simp only [doColourGroupLeave, he]
  | some e =>
    have hnone : e.colour.groups.find? (fun g => g.st == .dealt && e.colourInput g) = none := by
      simpa using h e he
    simp only [doColourGroupLeave, he, hnone]

/-- No Drawer runs a command, so none waits for a capture (R13). -/
theorem captureStep_idle {s : State} (cls unit frame group : Nat) (tokens : List Token) (h : ∀ x ∈ s.drawers, x.st ≠ .busy) :
    captureStep cls unit frame group tokens s = s := by
  have hidle : ∀ d, (s.drawer d).st ≠ .busy := fun d => by
    rcases Nat.lt_or_ge d s.drawers.length with hd | hd
    · exact h _ (at!_mem hd)
    · rw [State.drawer, at!_past hd]
      decide
  refine List.foldlRecOn (motive := fun t => t = s) _ _ rfl ?_
  rintro t rfl d _
  exact if_neg fun hbusy => hidle d hbusy.1

/-- What a colour slice works on, for a frame that runs on `pp`. -/
def Entry.colourIn (e : Entry) (pp : PortPlan) : ColourIn :=
  { pp := pp, rows := (e.groups.filter (·.st == .left)).flatMap (·.out), bottom := e.rowCount, wb := e.page.wb }

/-- The image rows that a group gives: its rows below the optical-black ones, in working codes (R190 to R194). -/
def ColourIn.imageRows (f : ColourIn) (g : RowGroup) : List (Nat × List Px) :=
  (List.range (g.firstRow + g.rows - max g.firstRow f.pp.profile.obRows)).map fun n =>
    (max g.firstRow f.pp.profile.obRows + n - f.pp.profile.obRows, (List.range f.pp.profile.width).map fun c =>
      f.px (max g.firstRow f.pp.profile.obRows + n) c
        (g.bad.contains ((max g.firstRow f.pp.profile.obRows + n - g.firstRow) * f.pp.profile.width + c)))

/-- The slices, with that of group `g` of entry `i` free. -/
def freeColour (i : Nat) (g : RowGroup) (l : List (Option SliceJob)) : List (Option SliceJob) :=
  l.map fun j => if j.any (fun j => j.entry == i && j.group == g.index) then none else j

/-- The state in which group `g` of entry `i` has left with the rows `rows`; `fin` says whether it was the last one. -/
def State.colourLeft (s : State) (i : Nat) (g : RowGroup) (rows : List (Nat × List Px)) (fin : Bool) (lefts : List (Nat × Nat)) : State :=
  { s.setEntry i (fun x => { x with colour := { x.colour with
      groups := x.colour.groups.map fun k => if k.index == g.index then { k with st := .left } else k
      rows := x.colour.rows ++ rows, finished := fin, lefts := x.colour.lefts ++ lefts } }) with
    csPos := freeColour i g s.csPos }

/-- The same state, where after the last group stage class 2 has ended (R52). -/
def State.colourEnded (s : State) (i : Nat) (g : RowGroup) (rows : List (Nat × List Px)) (fin : Bool) (lefts : List (Nat × Nat)) : State :=
  if fin = true then endClass i 2 (s.colourLeft i g rows fin lefts) else s.colourLeft i g rows fin lefts

theorem State.colourEnded_frame (s : State) (i : Nat) (g : RowGroup) (rows : List (Nat × List Px)) (fin : Bool) (lefts : List (Nat × Nat)) :
    s.colourEnded i g rows fin lefts =
      { s with table := (s.colourEnded i g rows fin lefts).table, csPos := freeColour i g s.csPos } := by
  cases fin <;> rfl

theorem State.colourEnded_entry?_other (s : State) {i k : Nat} (g : RowGroup) (rows : List (Nat × List Px)) (fin : Bool) (lefts : List (Nat × Nat))
    (hk : k ≠ i) : (s.colourEnded i g rows fin lefts).entry? k = s.entry? k := by
  have hleft : (s.colourLeft i g rows fin lefts).entry? k = s.entry? k := State.entry?_setEntry_other _ _ hk
  cases fin with
  | false => exact hleft
  | true => exact (endClass_entry?_other 2 _ hk).trans hleft

/-- The frame has the rows of the group that left, and its class 2 has ended when the colour path is done with it. -/
theorem State.colourEnded_entry? {s : State} {i : Nat} {e : Entry} (g : RowGroup) (rows : List (Nat × List Px)) (fin : Bool)
    (lefts : List (Nat × Nat)) (he : s.entry? i = some e) (hended : e.ended.length = 6) :
    ∃ x, (s.colourEnded i g rows fin lefts).entry? i = some x ∧ x.colour.rows = e.colour.rows ++ rows ∧
      (x.colour.finished = true → x.ended.getD 2 false = true) := by
  have hleft : (s.colourLeft i g rows fin lefts).entry? i = _ := State.entry?_setEntry_same _ he
  cases fin with
  | false => exact ⟨_, hleft, rfl, fun hfin => absurd hfin Bool.false_ne_true⟩
  | true => exact ⟨_, endClass_entry? 2 hleft, rfl, fun _ => by simp [hended]⟩

theorem ite_not_raiseFor_apartFromEvents (c : Prop) [Decidable c] (n l : Nat) (args : List Nat) (i : Nat) (s : State) :
    (if c then s else raiseFor n l args i s).apartFromEvents = s.apartFromEvents := by
  rw [apply_ite State.apartFromEvents, raiseFor_apartFromEvents, ite_self]

/-- The first group whose rows are all there leaves, and after the last one stage class 2 has ended; but for events nothing else changes. -/
theorem doColourGroupLeave_leaves {s : State} {i : Nat} {e : Entry} {g : RowGroup} (he : s.entry? i = some e)
    (hg : e.colour.groups.find? (fun g => g.st == .dealt && e.colourInput g) = some g) (hidle : ∀ x ∈ s.drawers, x.st ≠ .busy) :
    ∃ fin lefts, (doColourGroupLeave i s).apartFromEvents =
      (s.colourEnded i g ((e.colourIn (s.entryPort e)).imageRows g) fin lefts).apartFromEvents := by
  simp only [doColourGroupLeave, he, hg]
  have hcapture : ∀ fin lefts unit tokens,
      captureStep 2 unit e.ticket.frame g.index tokens (s.colourLeft i g ((e.colourIn (s.entryPort e)).imageRows g) fin lefts) =
        s.colourLeft i g ((e.colourIn (s.entryPort e)).imageRows g) fin lefts := fun _ _ _ _ => captureStep_idle _ _ _ _ _ hidle
  refine ⟨decide ((colourGroups (s.entryPort e).profile e).length ≤ g.index + 1 - ((colourGroups (s.entryPort e).profile e).headD default).index),
    [(g.firstRow + g.rows - (s.entryPort e).profile.obRows, ((s.reading : Int) - e.shift).toNat)], ?_⟩
  rw [State.colourEnded]
  split
  case isTrue hfin =>
    rw [endClass_apartFromEvents, ite_not_raiseFor_apartFromEvents]
    split
    · exact congrArg (fun u => endClass i 2 u.apartFromEvents) (hcapture _ _ _ _)
    · rfl
  case isFalse hfin =>
    split
    · exact congrArg State.apartFromEvents (hcapture _ _ _ _)
    · rfl

end Sys2Proof.Machine
end

section
/-! SUPPORT. A rendition frame reaches its destination (07_colour_and_renditions.md R199, R208, R213): RENDITION_FRAME_COMPLETE serves a pending
destination once, and what a delivery leaves alone; and PIPE.SET_HOST_RING (15_mailbox_and_events.md R443 to R445). -/

namespace Sys2Proof.Machine

open Sys2Proof

/-! ### What a delivery leaves alone (Table 7-3) -/

/-- The state with what a delivery changes blanked: the destinations' own state, the event state and host memory. -/
def State.apartFromDelivery (s : State) : State :=
  { s with sdi := [], disp := default, ctxs := [], hostRings := [], store := default, reviews := [], ev := {}, hostMem := [] }

@[simp] theorem raise_apartFromDelivery (n i : Nat) (args : List Nat) (tk : Option Ticket) (s : State) :
    (raise n i args tk s).apartFromDelivery = s.apartFromDelivery := by
  rw [raise_frame]; rfl

@[simp] theorem raiseFor_apartFromDelivery (n l : Nat) (args : List Nat) (i : Nat) (s : State) :
    (raiseFor n l args i s).apartFromDelivery = s.apartFromDelivery :=
  raise_apartFromDelivery ..

@[simp] theorem countDrop_apartFromDelivery (out frame : Nat) (s : State) : (countDrop out frame s).apartFromDelivery = s.apartFromDelivery := by
  rw [countDrop, raiseLimited, raiseLimitedBy_frame]; rfl

@[simp] theorem ite_countDrop_apartFromDelivery (c : Prop) [Decidable c] (out frame : Nat) (s : State) :
    (if c then countDrop out frame s else s).apartFromDelivery = s.apartFromDelivery := by
  rw [apply_ite State.apartFromDelivery, countDrop_apartFromDelivery, ite_self]

theorem commitSdi_apartFromDelivery (n : Nat) (t : Ticket) (planes : List (List Nat)) (s : State) :
    (commitSdi n t planes s).apartFromDelivery = s.apartFromDelivery := by
  cases hfree : (at! s.sdi n).bufs.free? with
  | none => simp only [commitSdi, hfree]
  | some k =>
    simp only [commitSdi, hfree, ite_countDrop_apartFromDelivery]
    rfl

theorem foldl_apartFromDelivery {α : Type} {f : State → α → State} (hf : ∀ u a, (f u a).apartFromDelivery = u.apartFromDelivery) (l : List α)
    (s : State) : (l.foldl f s).apartFromDelivery = s.apartFromDelivery :=
  List.foldlRecOn (motive := fun t => t.apartFromDelivery = s.apartFromDelivery) l f rfl fun t ht a _ => (hf t a).trans ht

theorem commitHeads_apartFromDelivery (l : List (Nat × Nat × BufFrame)) (s : State) :
    (commitHeads l s).apartFromDelivery = s.apartFromDelivery := by
  rw [commitHeads, ite_countDrop_apartFromDelivery]
  refine foldl_apartFromDelivery ?_ l s
  exact fun u a => rfl

theorem ringPut_frame {s t : State} {r r' : HostRing} {bs : Bytes} (h : s.ringPut r bs = some (r', t)) : t = { s with hostMem := t.hostMem } := by
  unfold State.ringPut at h
  split at h
  · cases h
  · cases h
    rfl

theorem hostFrame_apartFromDelivery (ring : Nat) (f : RendFrame) (s : State) :
    (hostFrame ring f s).apartFromDelivery = s.apartFromDelivery := by
  unfold hostFrame
  extract_lets k
  split
  · rfl
  · next r hr =>
    split
    · rfl
    · split
      · exact raise_apartFromDelivery ..
      · next r' s1 hput =>
        rw [ringPut_frame hput]
        rfl

theorem keepStream_apartFromDelivery (st clip : Nat) (t : Ticket) (sensor : Bool) (data : Bytes) (entry : Option Nat) (s : State) :
    (keepStream st clip t sensor data entry s).apartFromDelivery = s.apartFromDelivery := by
  unfold keepStream
  split
  · split <;> rfl
  · rfl

/-- A delivery changes the destination's own state, events and host memory alone. -/
theorem deliverFrame_apartFromDelivery (x : Entry) (g : GraphSlot) (f : RendFrame) (s : State) :
    (deliverFrame x g f s).apartFromDelivery = s.apartFromDelivery := by
  unfold deliverFrame
  split
  · exact commitSdi_apartFromDelivery ..
  · exact commitHeads_apartFromDelivery ..
  · rfl
  · exact hostFrame_apartFromDelivery ..
  · split
    · exact keepStream_apartFromDelivery ..
    · rfl
  · rfl

/-! ### RENDITION_FRAME_COMPLETE (R199, R208, R213) -/

theorem exec_renditionFrameComplete {s : State} (k e : Nat) (h : s.live = true) :
    exec (.renditionFrameComplete k e) s = .next (doRenditionFrameComplete k e s) :=
  whenLive_live _ h

/-- The frame in entry `e` has nothing to render for slot `k`: the slot is not pending, or the picture is not complete. -/
def State.RenditionIdle (s : State) (k e : Nat) : Prop :=
  ∀ x, s.entry? e = some x → k ∉ x.pendingDest ∨ (x.picture = none ∧ x.colour.finished = false)

theorem doRenditionFrameComplete_idle {s : State} {k e : Nat} (h : s.RenditionIdle k e) : doRenditionFrameComplete k e s = s := by
  cases hx : s.entry? e with
  | none => simp only [doRenditionFrameComplete, hx]
  | some x =>
    simp only [doRenditionFrameComplete, hx]
    refine if_pos ?_
    rcases h x hx with hk | ⟨hpic, hcol⟩
    · simp [hk]
    · simp [hpic, hcol]

/-- The end of class 4 for frames that no context has still to code: a property that such an end keeps holds after the sweep (R52). -/
theorem sweepCoding_induction {P : State → Prop} {s : State} (h : P s) (hstep : ∀ t i, P t → P (endClass i 4 t)) : P (sweepCoding s) := by
  refine List.foldlRecOn (motive := P) _ _ h ?_
  intro t ht a _
  dsimp only
  split
  · exact ht
  · exact hstep t a.1 ht

theorem sweepCoding_frame (s : State) : sweepCoding s = { s with table := (sweepCoding s).table } :=
  sweepCoding_induction (P := fun t => t = { s with table := t.table }) rfl fun _ i ht => congrArg (endClass i 4) ht

/-- A frame before and after a step that leaves its pending destinations, its ticket and the end of stage class 3. -/
def Entry.SameDestinations (x y : Entry) : Prop :=
  y.pendingDest = x.pendingDest ∧ y.ticket = x.ticket ∧ y.ended.getD 3 false = x.ended.getD 3 false

theorem endClass_sameDestinations {t : State} {e i : Nat} {y : Entry} (h : t.entry? e = some y) :
    ∃ z, (endClass i 4 t).entry? e = some z ∧ y.SameDestinations z := by
  by_cases hi : e = i
  · subst hi
    refine ⟨_, endClass_entry? 4 h, rfl, rfl, ?_⟩
    simp [List.getD_eq_getElem?_getD]
  · exact ⟨y, (endClass_entry?_other 4 t hi).trans h, rfl, rfl, rfl⟩

theorem sweepCoding_sameDestinations {s : State} {e : Nat} {x : Entry} (h : s.entry? e = some x) :
    ∃ y, (sweepCoding s).entry? e = some y ∧ x.SameDestinations y := by
  refine sweepCoding_induction (P := fun t => ∃ y, t.entry? e = some y ∧ x.SameDestinations y) ⟨x, h, rfl, rfl, rfl⟩ ?_
  rintro t i ⟨y, hy, hdest, hticket, hended⟩
  obtain ⟨z, hz, hdest', hticket', hended'⟩ := endClass_sameDestinations (i := i) hy
  exact ⟨z, hz, hdest'.trans hdest, hticket'.trans hticket, hended'.trans hended⟩

theorem ite_not_raiseFor_apartFromDelivery (c : Prop) [Decidable c] (n l : Nat) (args : List Nat) (i : Nat) (s : State) :
    (if c then s else raiseFor n l args i s).apartFromDelivery = s.apartFromDelivery := by
  rw [apply_ite State.apartFromDelivery, raiseFor_apartFromDelivery, ite_self]

/-- The slot leaves the frame's pending destinations, the frame is delivered, and after the last one stage class 3 has ended. -/
theorem doRenditionFrameComplete_serves {s : State} {k e : Nat} {x : Entry} (hx : s.entry? e = some x) (hk : k ∈ x.pendingDest)
    (hpic : x.picture.isSome = true ∨ x.colour.finished = true) :
    ∃ (t : State) (sys : SysState), t.apartFromDelivery = ({ s with sys := sys }.setEntry e fun x =>
        { x with pendingDest := x.pendingDest.filter (· != k) }).apartFromDelivery ∧
      doRenditionFrameComplete k e s =
        sweepCoding (if (((t.entry? e).map (·.pendingDest)).getD []).isEmpty then endClass e 3 t else t) := by
  have hpending : ¬(!x.pendingDest.contains k || !(x.picture.isSome || x.colour.finished)) = true := by
    rw [List.contains_iff_mem.mpr hk, Bool.or_eq_true_iff.mpr hpic]
    decide
  simp only [doRenditionFrameComplete, hx, if_neg hpending]
  refine ⟨_, s.takeFree.2.sys, ?_, rfl⟩
  simp only [ite_not_raiseFor_apartFromDelivery, deliverFrame_apartFromDelivery]
  rfl

/-- After a served delivery and the sweep: the frame's destinations, stage class 3, and the states that no delivery touches. -/
theorem sweepCoding_served {s t : State} {k e : Nat} {x : Entry} {sys : SysState} (hx : s.entry? e = some x)
    (ht : t.apartFromDelivery = ({ s with sys := sys }.setEntry e fun x =>
      { x with pendingDest := x.pendingDest.filter (· != k) }).apartFromDelivery)
    {u : State} (hu : u = sweepCoding (if (((t.entry? e).map (·.pendingDest)).getD []).isEmpty then endClass e 3 t else t)) :
    (∃ y, u.entry? e = some y ∧ y.pendingDest = x.pendingDest.filter (· != k) ∧ y.ticket = x.ticket ∧
      (y.pendingDest = [] → x.ended.length = 6 → y.ended.getD 3 false = true)) ∧
      u.sensors = s.sensors ∧ u.ports = s.ports ∧ u.drawers = s.drawers ∧ u.mem = s.mem := by
  have hframe : { s with sys := sys }.entry? e = some x := hx
  have hentry : t.entry? e = some { x with pendingDest := x.pendingDest.filter (· != k) } :=
    (congrArg (·.entry? e) ht).trans (State.entry?_setEntry_same _ hframe)
  have hsensors : t.sensors = s.sensors := congrArg (·.sensors) ht
  have hports : t.ports = s.ports := congrArg (·.ports) ht
  have hdrawers : t.drawers = s.drawers := congrArg (·.drawers) ht
  have hmem : t.mem = s.mem := congrArg (·.mem) ht
  rw [hentry, Option.map_some, Option.getD_some] at hu
  subst hu
  rw [sweepCoding_frame]
  split
  case isTrue hlast =>
    obtain ⟨y, hy, hdest, hticket, hended⟩ := sweepCoding_sameDestinations (endClass_entry? 3 hentry)
    refine ⟨⟨y, hy, hdest, hticket, fun _ hlen => hended.trans ?_⟩, hsensors, hports, hdrawers, hmem⟩
    simp [hlen]
  case isFalse hleft =>
    obtain ⟨y, hy, hdest, hticket, hended⟩ := sweepCoding_sameDestinations hentry
    exact ⟨⟨y, hy, hdest, hticket, fun hnone => absurd (List.isEmpty_iff.mpr (hdest.symm.trans hnone)) hleft⟩, hsensors, hports, hdrawers, hmem⟩

/-! ### PIPE.SET_HOST_RING (R443 to R445) -/

theorem within_of_le {v lo hi : Nat} (hlo : lo ≤ v) (hhi : v ≤ hi) : within v lo hi = true :=
  Bool.and_eq_true_iff.mpr ⟨decide_eq_true hlo, decide_eq_true hhi⟩

/-- A coded stream of the active plans goes to host ring `r`. -/
def State.codedToRing (s : State) (r : Nat) : Bool :=
  s.activePlans.any fun p => p.hevc.any fun h => h.enable && !h.decode && h.outKind == 3 && h.outId == r

/-- A binding whose fields pass check 6 runs to the check of its buffer. -/
theorem exec_pipeSetHostRing {s : State} {d : Nat} {c : DrawerCmd} (h : s.accepted d 0x0409 c = true) (hz : c.endsAt 28 = true) (hr : c.w 0 ≤ 15)
    (hkind : c.w 4 = 0 ∧ (s.boundSlot 3 (· == c.w 0)).isSome = true ∨ c.w 4 = 1 ∧ s.codedToRing (c.w 0) = true)
    (hlen : 4096 + (if c.w 4 = 0 then c.w 24 * ((s.boundSlot 3 (· == c.w 0)).map ringSlot).getD 0 else c.w 24) ≤ c.q 16)
    (hpow : isPow2 (c.w 24) = true) (hcount : (if c.w 4 = 0 then within (c.w 24) 2 64 else within (c.w 24) 65536 (2 ^ 30)) = true) :
    exec (.pipeSetHostRing d) s = .next (
      if !s.covered (c.q 8) (c.q 16) true then fail d Status.notPermitted s
      else done d [] { s with hostRings := upd s.hostRings (c.w 0) fun x => { x with nextRing := some {
        kind := c.w 4, addr := c.q 8, len := c.q 16, entries := c.w 24, slot := ((s.boundSlot 3 (· == c.w 0)).map ringSlot).getD 0 } } }) := by
  have hrange : decide (15 < c.w 0) = false := decide_eq_false (Nat.not_lt.mpr hr)
  have hbound : (c.w 4 == 0 && (s.boundSlot 3 (· == c.w 0)).isSome || c.w 4 == 1 && s.codedToRing (c.w 0)) = true := by simpa using hkind
  have hroom := decide_eq_false (Nat.not_lt.mpr hlen)
  refine (whenLive_live _ (accepted_live h)).trans (congrArg _ ((drawerCmd_accepted _ h).trans ?checks))
  refine checked_none _ hz ?fields
  case fields =>
    rw [State.codedToRing] at hbound
    simp only [hrange, hbound, hroom, hpow, hcount, Bool.not_true, Bool.and_self, List.find?_cons, List.find?_nil]

/-! ### The statement -/

/-- Settles O40: for each step, when it changes nothing and what it makes of the frame; then the two kinds of host ring. -/
theorem colourAndRenditionFrames : Obligations.ColourAndRenditionFrames := by
  refine ⟨⟨?dealIdle, ?deal, ?leaveIdle, ?leave⟩, ?renditionIdle, ?rendition, ?frameRing, ?codedRing⟩
  case dealIdle =>
    intro s pos hlive hidle
    rw [exec_colourGroupDeal pos hlive, doColourGroupDeal_idle hidle]
  case deal =>
    intro s pos i u e g hlive hunit hfree hpick he
    obtain ⟨k, late, hrun, hk⟩ := doColourGroupDeal_deals hunit hfree hpick
    obtain ⟨hindex, hfirst, hrows, hst, hpos⟩ := hk
    exact ⟨_, _, k, (exec_colourGroupDeal pos hlive).trans (congrArg _ hrun), rfl, State.entry?_setEntry_same _ he, rfl, hindex, hfirst, hrows,
      hst, hpos, rfl, rfl⟩
  case leaveIdle =>
    intro s i hlive hidle
    rw [exec_colourGroupLeave i hlive, doColourGroupLeave_idle hidle]
  case leave =>
    intro s i e g f hlive he hg hdrawers hended hf
    subst hf
    obtain ⟨fin, lefts, hrun⟩ := doColourGroupLeave_leaves he hg hdrawers
    have hentry := State.entry?_of_apartFromEvents hrun
    obtain ⟨x, hx, hrows, hfin⟩ := State.colourEnded_entry? g ((e.colourIn (s.entryPort e)).imageRows g) fin lefts he hended
    rw [State.colourEnded_frame] at hrun
    refine ⟨_, x, exec_colourGroupLeave i hlive, (hentry i).trans hx, hrows, hfin, congrArg (·.csPos) hrun,
      fun k hk => (hentry k).trans (State.colourEnded_entry?_other s g _ fin lefts hk), ?frame⟩
    exact congrArg (fun u : State => { u with
      table := (doColourGroupLeave i s).table, csPos := (doColourGroupLeave i s).csPos, ev := (doColourGroupLeave i s).ev
      hostMem := (doColourGroupLeave i s).hostMem, drawers := (doColourGroupLeave i s).drawers }) hrun
  case renditionIdle =>
    intro s k e hlive hidle
    rw [exec_renditionFrameComplete k e hlive, doRenditionFrameComplete_idle hidle]
  case rendition =>
    intro s k e x hlive hx hk hpic
    obtain ⟨t, sys, hserved, hrun⟩ := doRenditionFrameComplete_serves hx hk hpic
    obtain ⟨⟨y, hy, hdest, hticket, hended⟩, hothers⟩ := sweepCoding_served hx hserved hrun
    exact ⟨_, y, exec_renditionFrameComplete k e hlive, hy, hdest, hticket, hended, hothers⟩
  case frameRing =>
    intro s d c g h hz hr hkind hg hpow hmin hmax hlen
    have hrun := exec_pipeSetHostRing h hz hr (.inl ⟨hkind, by rw [hg]; rfl⟩) (by rw [if_pos hkind, hg]; exact hlen) hpow
      (by rw [if_pos hkind]; exact within_of_le hmin hmax)
    rw [hkind, hg] at hrun
    exact ⟨fun hc => by rw [hrun, hc]; rfl, fun hc => by rw [hrun, hc]; rfl⟩
  case codedRing =>
    intro s d c h hz hr hkind hcoded hpow hmin hmax hlen hc
    have hne : c.w 4 ≠ 0 := by simp [hkind]
    have hstream : s.codedToRing (c.w 0) = true := by
      simpa [State.codedToRing, and_assoc] using hcoded
    have hrun := exec_pipeSetHostRing h hz hr (.inr ⟨hkind, hstream⟩) (by rw [if_neg hne]; exact hlen) hpow
      (by rw [if_neg hne]; exact within_of_le hmin hmax)
    exact ⟨_, _, hrun.trans (by rw [hc]; rfl), rfl, hkind, rfl, rfl, rfl⟩

end Sys2Proof.Machine
end

section
/-! SUPPORT. RENDITION commands (07_colour_and_renditions.md R209 to R212): how a bank that is not active is loaded, and what a switch of banks
leaves in its slot. -/

namespace Sys2Proof.Machine

open Sys2Proof

/-! ### Loading a bank (R210) -/

section
variable {s : State} {d op need ev : Nat} {ok : Bytes → Bool} {bad : RendBank → RendBank} {put : Bytes → RendBank → RendBank} {c : DrawerCmd}

/-- A load whose fields pass check 6 runs to the check of its buffer, then of the bank, then of the data. -/
theorem whenLive_loadBank (h : s.accepted d op c = true) (hz : c.endsAt 24 = true) (hslot : c.w 0 ≤ 15) (hlen : need ≤ c.q 16) :
    whenLive s (loadBank op need ev ok bad put d) = .next (
      if !s.covered (c.q 8) (c.q 16) false then fail d Status.notPermitted s
      else if (at! s.rend (c.w 0)).switchAt.isSome || bankSelected s (c.w 0) (1 - (at! s.rend (c.w 0)).bank) then fail d Status.busy s
      else if ok (s.hostRead (c.q 8) need) then raise ev (c.w 0) [] none (done d [] (s.setRend (c.w 0) fun r =>
        { r with banks := upd r.banks (1 - (at! s.rend (c.w 0)).bank) (put (s.hostRead (c.q 8) need)) }))
      else postResult d Status.invalidField noDetail [] (s.setRend (c.w 0) fun r =>
        { r with banks := upd r.banks (1 - (at! s.rend (c.w 0)).bank) bad })) := by
  refine whenLive_checked h hz ?fields _
  simp [hslot, hlen]

theorem whenLive_loadBank_outside (h : s.accepted d op c = true) (hz : c.endsAt 24 = true) (hslot : c.w 0 ≤ 15) (hlen : need ≤ c.q 16)
    (hc : s.covered (c.q 8) (c.q 16) false = false) :
    whenLive s (loadBank op need ev ok bad put d) = .next (fail d Status.notPermitted s) := by
  rw [whenLive_loadBank h hz hslot hlen, hc]
  rfl

theorem whenLive_loadBank_inUse (h : s.accepted d op c = true) (hz : c.endsAt 24 = true) (hslot : c.w 0 ≤ 15) (hlen : need ≤ c.q 16)
    (hc : s.covered (c.q 8) (c.q 16) false = true)
    (huse : (at! s.rend (c.w 0)).switchAt.isSome = true ∨ bankSelected s (c.w 0) (1 - (at! s.rend (c.w 0)).bank) = true) :
    whenLive s (loadBank op need ev ok bad put d) = .next (fail d Status.busy s) := by
  rw [whenLive_loadBank h hz hslot hlen, hc, Bool.not_true, if_neg Bool.false_ne_true, if_pos (Bool.or_eq_true_iff.mpr huse)]

/-- A bank that is free is loaded with data in range. Data out of range leaves it not loaded. -/
theorem whenLive_loadBank_free (h : s.accepted d op c = true) (hz : c.endsAt 24 = true) (hslot : c.w 0 ≤ 15) (hlen : need ≤ c.q 16)
    (hc : s.covered (c.q 8) (c.q 16) false = true) (hswitch : (at! s.rend (c.w 0)).switchAt = none)
    (hsel : bankSelected s (c.w 0) (1 - (at! s.rend (c.w 0)).bank) = false) :
    whenLive s (loadBank op need ev ok bad put d) = .next (
      if ok (s.hostRead (c.q 8) need) then raise ev (c.w 0) [] none (done d [] (s.setRend (c.w 0) fun r =>
        { r with banks := upd r.banks (1 - (at! s.rend (c.w 0)).bank) (put (s.hostRead (c.q 8) need)) }))
      else postResult d Status.invalidField noDetail [] (s.setRend (c.w 0) fun r =>
        { r with banks := upd r.banks (1 - (at! s.rend (c.w 0)).bank) bad })) := by
  rw [whenLive_loadBank h hz hslot hlen, hc, hswitch, hsel]
  rfl

end

/-- Every word is in range: what the data check of a load computes. -/
theorem all_lt_iff {l : List Nat} {n : Nat} : (l.all fun w => decide (w < n)) = true ↔ ∀ w ∈ l, w < n := by
  simp only [List.all_eq_true, decide_eq_true_eq]

/-! ### Switching banks (R211) -/

/-- The frames in flight are those of the table's entries. -/
theorem State.mem_live' {s : State} {i : Nat} {e : Entry} (h : s.entry? i = some e) : (i, e) ∈ s.live' := by
  have hi := State.entry?_lt h
  have hget : s.table[i] = some e := by
    rw [← h, State.entry?, List.getD_eq_getElem?_getD, List.getElem?_eq_getElem hi, Option.getD_some]
  refine List.mem_filterMap.mpr ⟨(some e, i), ?_, rfl⟩
  exact List.mem_zipIdx_iff_getElem?.mpr (List.getElem?_eq_some_iff.mpr ⟨hi, hget⟩)

/-- What a switch leaves in its slot: the number of the frame from which it holds, in the bank that is not active the copies that the KEEP
flags ask for, and, for the frames whose tickets select that bank, what it held before a copy (R209). -/
def State.switched (s : State) (k keepL keepC : Nat) (r : RendSlot) : RendSlot :=
  { r with
    switchAt := some (s.nextSourceFrame k)
    kept := if keepL = 1 ∨ keepC = 1 then
        r.kept ++ ((s.live'.filter fun (i, e) => e.page.bank.getD k 0 == 1 - r.bank && !(r.kept.any (·.1 == i))).map fun (i, _) =>
          (i, at! r.banks (1 - r.bank)))
      else r.kept
    banks := upd r.banks (1 - r.bank) fun x => { x with
      lut := if keepL = 1 then (at! r.banks r.bank).lut else x.lut
      curves := if keepC = 1 then (at! r.banks r.bank).curves else x.curves } }

/-- The bank that is not active holds, after a switch, the copies asked for and else what it held. -/
theorem State.switched_bank (s : State) (k keepL keepC : Nat) {r : RendSlot} (hr : r.banks.length = 2) :
    at! (s.switched k keepL keepC r).banks (1 - r.bank) = { at! r.banks (1 - r.bank) with
      lut := if keepL = 1 then (at! r.banks r.bank).lut else (at! r.banks (1 - r.bank)).lut
      curves := if keepC = 1 then (at! r.banks r.bank).curves else (at! r.banks (1 - r.bank)).curves } :=
  at!_upd_same _ (by omega)

/-- A frame whose ticket selects the bank into which a switch copies keeps what the bank held (R209). -/
theorem State.mem_switched_kept {s : State} {k keepL keepC i : Nat} {r : RendSlot} {e : Entry} (hkeep : keepL = 1 ∨ keepC = 1)
    (he : s.entry? i = some e) (hbank : e.page.bank.getD k 0 = 1 - r.bank) (hnew : r.kept.any (·.1 == i) = false) :
    (i, at! r.banks (1 - r.bank)) ∈ (s.switched k keepL keepC r).kept := by
  have hmem : (i, e) ∈ s.live'.filter fun (i, e) => e.page.bank.getD k 0 == 1 - r.bank && !(r.kept.any (·.1 == i)) :=
    List.mem_filter.mpr ⟨State.mem_live' he, by simp only [hbank, hnew, beq_self_eq_true, Bool.not_false, Bool.and_self]⟩
  rw [State.switched, if_pos hkeep]
  exact List.mem_append_right _ (List.mem_map.mpr ⟨(i, e), hmem, rfl⟩)

/-- A switch whose fields pass check 6 needs no other switch to wait, and what it does not keep to be loaded. -/
theorem exec_renditionSwitchBank {s : State} {d : Nat} {c : DrawerCmd} {r : RendSlot} (h : s.accepted d 0x0503 c = true) (hz : c.endsAt 12 = true)
    (hslot : c.w 0 ≤ 15) (hl : c.w 4 ≤ 1) (hc : c.w 8 ≤ 1) (hr : r = at! s.rend (c.w 0)) :
    ∃ f : RendSlot → RendSlot, f r = s.switched (c.w 0) (c.w 4) (c.w 8) r ∧ exec (.renditionSwitchBank d) s = .next (
      if r.switchAt.isSome then fail d Status.busy s
      else if (c.w 4 = 0 ∧ (at! r.banks (1 - r.bank)).lutLoaded = false) ∨ (c.w 8 = 0 ∧ (at! r.banks (1 - r.bank)).curvesLoaded = false) then
        fail d Status.notPermitted s
      else done d (le 4 (s.nextSourceFrame (c.w 0))) (s.setRend (c.w 0) f)) := by
  subst hr
  refine ⟨_, ?slot, whenLive_checked h hz ?fields _⟩
  case slot => rfl
  case fields => simp [hslot, hl, hc]

/-- Settles O41: a load by its buffer, its bank and its data, for the LUT and for the curves; a switch by what its bank lacks and what it leaves. -/
theorem renditionBanksLoadAndSwitch : Obligations.RenditionBanksLoadAndSwitch := by
  refine fun s d c hslot => ⟨fun h hz hlen => ⟨?lutOutside, ?lutInUse, fun hc hswitch hsel => ⟨?lutLoads, ?lutRefused⟩⟩,
    fun h hz hlen hc => ⟨?curvesInUse, ?curvesLoad⟩, ?switch⟩
  case lutOutside => exact whenLive_loadBank_outside h hz hslot hlen
  case lutInUse => exact whenLive_loadBank_inUse h hz hslot hlen
  case lutLoads =>
    intro hdata
    exact (whenLive_loadBank_free h hz hslot hlen hc hswitch hsel).trans (congrArg _ (if_pos (all_lt_iff.mpr hdata)))
  case lutRefused =>
    rintro ⟨w, hw, hbig⟩
    exact (whenLive_loadBank_free h hz hslot hlen hc hswitch hsel).trans
      (congrArg _ (if_neg fun hall => Nat.not_lt.mpr hbig (all_lt_iff.mp hall w hw)))
  case curvesInUse => exact whenLive_loadBank_inUse h hz hslot hlen hc
  case curvesLoad =>
    intro hswitch hsel hdata
    exact (whenLive_loadBank_free h hz hslot hlen hc hswitch hsel).trans (congrArg _ (if_pos (all_lt_iff.mpr hdata)))
  case switch =>
    intro r x y h hz hl hcv hrend hr hbanks hx hy
    subst hx hy
    obtain ⟨f, hf, hrun⟩ := exec_renditionSwitchBank h hz hslot hl hcv hr
    rw [hrun]
    refine ⟨fun hwait => ?waits, fun hnone hlack => ?lacks, fun hnone hlut hcurves => ?switches⟩
    case waits => rw [if_pos hwait]
    case lacks => rw [hnone, if_neg (by decide), if_pos hlack]
    case switches =>
      have hready : ¬((c.w 4 = 0 ∧ (at! r.banks (1 - r.bank)).lutLoaded = false) ∨
          (c.w 8 = 0 ∧ (at! r.banks (1 - r.bank)).curvesLoaded = false)) := by
        rintro (⟨hzero, hnot⟩ | ⟨hzero, hnot⟩)
        · simp [hzero, hnot] at hlut
        · simp [hzero, hnot] at hcurves
      have hslotNew : at! (s.setRend (c.w 0) f).rend (c.w 0) = s.switched (c.w 0) (c.w 4) (c.w 8) r := by
        rw [State.setRend_rend_same s _ f hrend, ← hr, hf]
      rw [hnone, if_neg (by decide), if_neg hready]
      refine ⟨_, _, rfl, rfl, ?_⟩
      rw [hslotNew, State.switched_bank s _ _ _ hbanks]
      exact ⟨rfl, rfl, rfl, rfl, fun k hk => State.setRend_rend_other s _ f hk,
        fun hkeep i e he hbank hnew => State.mem_switched_kept hkeep he hbank hnew, rfl⟩

end Sys2Proof.Machine
end

section
/-! SUPPORT. The three frame buffers of an output (09_outputs_and_display.md R255 to R258): what a commit takes and what a latch makes of the roles. -/

namespace Sys2Proof.Machine

open Sys2Proof

/-! ### A free buffer (R257) -/

/-- A free buffer is one of the three, neither scanned nor pending. -/
theorem FrameBufs.free?_spec {b : FrameBufs} {k : Nat} (h : b.free? = some k) : b.scanned ≠ some k ∧ b.pend ≠ some k ∧ k < 3 := by
  have hroles := List.find?_some h
  have hrange := List.mem_range.mp (List.mem_of_find?_eq_some h)
  rw [Bool.and_eq_true, bne_iff_ne, bne_iff_ne] at hroles
  exact ⟨hroles.1, hroles.2, hrange⟩

/-- Two roles take at most two of three buffers. -/
theorem exists_buffer_without_role (p q : Option Nat) : ∃ k < 3, p ≠ some k ∧ q ≠ some k := by
  refine Classical.byContradiction fun hnone => ?_
  have htaken : ∀ k < 3, p = some k ∨ q = some k := fun k hk =>
    Decidable.byContradiction fun hk' => hnone ⟨k, hk, not_or.mp hk'⟩
  have h0 := htaken 0 (by decide)
  have h1 := htaken 1 (by decide)
  have h2 := htaken 2 (by decide)
  grind

theorem FrameBufs.exists_free (b : FrameBufs) : ∃ k, b.free? = some k := by
  obtain ⟨k, hk, hscan, hpend⟩ := exists_buffer_without_role b.scanned b.pend
  refine Option.isSome_iff_exists.mp (List.find?_isSome.mpr ⟨k, List.mem_range.mpr hk, ?_⟩)
  rw [Bool.and_eq_true, bne_iff_ne, bne_iff_ne]
  exact ⟨hscan, hpend⟩

/-! ### A latch (R258) -/

/-- A pending buffer becomes the scanned one. -/
theorem FrameBufs.latch_pending {b : FrameBufs} {k : Nat} (h : b.pend = some k) :
    b.latch.1.scanned = some k ∧ b.latch.1.pend = none ∧ b.latch.2 = false := by
  simp only [FrameBufs.latch, h, and_self]

/-- Without one the roles stay, and a buffer that is scanned repeats. -/
theorem FrameBufs.latch_none {b : FrameBufs} (h : b.pend = none) : b.latch = (b, b.scanned.isSome) := by
  simp only [FrameBufs.latch, h]

/-- Settles O42: a commit takes a free buffer, and of three one is always free; a latch by whether a buffer is pending. -/
theorem scannedAndPendingBuffersDiffer : Obligations.ScannedAndPendingBuffersDiffer := by
  refine ⟨fun b k f hfree => ⟨FrameBufs.free?_spec hfree, rfl, rfl, Option.isSome_iff_ne_none⟩, FrameBufs.exists_free, fun b => ?latch⟩
  case latch =>
    cases hpend : b.pend with
    | none => simp [FrameBufs.latch_none hpend, hpend, Option.isSome_iff_ne_none]
    | some k => simp [FrameBufs.latch_pending hpend]

end Sys2Proof.Machine
end

section
/-! SUPPORT. What the outputs' steps leave alone: a step that changes an output, a display head or the display pair and raises events
changes nothing else. -/

namespace Sys2Proof.Machine

open Sys2Proof

/-! ### Events of the outputs (R261, R275) -/

@[simp] theorem raise_apartFromEvents (n i : Nat) (args : List Nat) (tk : Option Ticket) (s : State) :
    (raise n i args tk s).apartFromEvents = s.apartFromEvents := by
  rw [raise_frame]; rfl

@[simp] theorem countRepeat_apartFromEvents (out frame : Nat) (s : State) : (countRepeat out frame s).apartFromEvents = s.apartFromEvents := by
  rw [countRepeat, raiseLimited, raiseLimitedBy_frame]; rfl

@[simp] theorem countDrop_apartFromEvents (out frame : Nat) (s : State) : (countDrop out frame s).apartFromEvents = s.apartFromEvents := by
  rw [countDrop, raiseLimited, raiseLimitedBy_frame]; rfl

@[simp] theorem raiseDisp_apartFromEvents (b n : Nat) (args : List Nat) (s : State) :
    (raiseDisp b n args s).apartFromEvents = s.apartFromEvents := by
  rw [raiseDisp, apply_ite State.apartFromEvents, raise_apartFromEvents, ite_self]

/-- An event that is raised only on a condition changes as little. -/
theorem ite_apartFromEvents {c : Prop} [Decidable c] {t s : State} (h : t.apartFromEvents = s.apartFromEvents) :
    (if c then t else s).apartFromEvents = s.apartFromEvents := by
  rw [apply_ite State.apartFromEvents, h, ite_self]

theorem foldl_apartFromEvents {α : Type} {f : State → α → State} (hf : ∀ u a, (f u a).apartFromEvents = u.apartFromEvents) (l : List α)
    (s : State) : (l.foldl f s).apartFromEvents = s.apartFromEvents :=
  List.foldlRecOn (motive := fun t => t.apartFromEvents = s.apartFromEvents) l f rfl fun t ht a _ => (hf t a).trans ht

/-- States that agree apart from events differ in the event state and host memory alone. -/
theorem State.eq_of_apartFromEvents {s t : State} (h : t.apartFromEvents = s.apartFromEvents) : t = { s with ev := t.ev, hostMem := t.hostMem } :=
  congrArg (fun u : State => { u with ev := t.ev, hostMem := t.hostMem }) h

/-! ### One SDI output -/

theorem State.setSdi_setSdi (s : State) (n : Nat) (f g : Sdi → Sdi) : (s.setSdi n f).setSdi n g = s.setSdi n (g ∘ f) := by
  rw [State.setSdi, State.setSdi, State.setSdi, upd, upd, List.modify_modify_eq]
  rfl

/-- A step that but for events changes output `n` leaves the other outputs and every other field. -/
theorem State.sdi_of_apartFromEvents {s t : State} {n : Nat} {f : Sdi → Sdi} (h : t.apartFromEvents = (s.setSdi n f).apartFromEvents) :
    t.sdi = (s.setSdi n f).sdi ∧ (∀ k, k ≠ n → at! t.sdi k = at! s.sdi k) ∧ t = { s with sdi := t.sdi, ev := t.ev, hostMem := t.hostMem } := by
  have hsdi : t.sdi = (s.setSdi n f).sdi := congrArg (·.sdi) h
  refine ⟨hsdi, fun k hk => ?others, ?frame⟩
  case others => rw [hsdi, State.setSdi_sdi_other s n f hk]
  case frame => rw [hsdi]; exact State.eq_of_apartFromEvents h

end Sys2Proof.Machine
end

section
/-! SUPPORT. SDI outputs (09_outputs_and_display.md R258 to R268, R275): the latch, an underrun, and the OUTPUT commands. -/

namespace Sys2Proof.Machine

open Sys2Proof

/-! ### The latch (R258, R260, R264, R275) -/

theorem exec_latch {s : State} (out : OutputId) (h : s.live = true) : exec (.latch out) s = .next (doLatch out s) :=
  whenLive_live _ h

theorem latchSdi_stopped {s : State} {n : Nat} (h : (at! s.sdi n).st = .stopped) : latchSdi n s = s :=
  if_pos (beq_iff_eq.mpr h)

/-- A stopped output: nothing is shown. -/
def Sdi.stop (o : Sdi) : Sdi := { o with st := .stopped, stopping := false, shown := none, timecode := none, black := false, step := 0, spoiled := [] }

/-- An output that has stopped and starts again with the entry `e`, unless that has MODE 0 (R264). -/
def Sdi.startAgain (e : SdiEntry) (o : Sdi) : Sdi :=
  { o.stop with
    entry := e, tcOffset := e.tcOffset, restart := none, bufs := o.bufs.restart, st := if e.mode = 0 then .stopped else .starting }

theorem latchSdi_stops {s : State} {n : Nat} (hst : (at! s.sdi n).st ≠ .stopped) (hstop : (at! s.sdi n).stopping = true)
    (hnone : (at! s.sdi n).restart = none) : latchSdi n s = raise 153 n [n, (at! s.sdi n).oframe] none (s.setSdi n Sdi.stop) := by
  simp only [latchSdi, beq_iff_eq, hst, hstop, hnone, if_true, if_false]
  rfl

theorem latchSdi_startsAgain {s : State} {n : Nat} {e : SdiEntry} (hst : (at! s.sdi n).st ≠ .stopped) (hstop : (at! s.sdi n).stopping = true)
    (he : (at! s.sdi n).restart = some e) : (latchSdi n s).apartFromEvents = (s.setSdi n (Sdi.startAgain e)).apartFromEvents := by
  simp only [latchSdi, beq_iff_eq, hst, hstop, he, if_true, if_false]
  have hstopped : ∀ f, ((raise 153 n [n, (at! s.sdi n).oframe] none (s.setSdi n Sdi.stop)).setSdi n f).apartFromEvents =
      (s.setSdi n (f ∘ Sdi.stop)).apartFromEvents := fun f => by
    rw [← State.setSdi_setSdi]
    exact congrArg (·.setSdi n f) (raise_apartFromEvents 153 n [n, (at! s.sdi n).oframe] none (s.setSdi n Sdi.stop))
  by_cases hmode : e.mode = 0
  · rw [if_pos hmode]
    refine (hstopped _).trans (congrArg (fun f => (s.setSdi n f).apartFromEvents) (funext fun o => ?_))
    simp only [Function.comp_apply, Sdi.startAgain, hmode, if_true]
    rfl
  · rw [if_neg hmode, State.setSdi_setSdi]
    refine (hstopped _).trans (congrArg (fun f => (s.setSdi n f).apartFromEvents) (funext fun o => ?_))
    simp only [Function.comp_apply, Sdi.startAgain, hmode, if_false]
    rfl

/-- What an output is in the frame that begins with a latch, for the output `o` before it (R258, R260, R267). -/
structure Sdi.Latched (o x : Sdi) : Prop where
  st : x.st = .running
  oframe : x.oframe = o.nextFrame
  bufs : x.bufs = o.bufs.latch.1
  shown : x.shown = o.bufs.latch.1.view
  isRepeat : x.isRepeat = o.bufs.latch.2
  black : x.black = false
  step : x.step = 0
  tcOffset : x.tcOffset = o.tcNext.getD o.tcOffset
  repeats : x.counts.repeats = wrap 32 (o.counts.repeats + b2n o.bufs.latch.2)

theorem latchSdi_latches {s : State} {n : Nat} (hst : (at! s.sdi n).st ≠ .stopped) (hstop : (at! s.sdi n).stopping = false) :
    ∃ f : Sdi → Sdi, (latchSdi n s).apartFromEvents = (s.setSdi n f).apartFromEvents ∧ (at! s.sdi n).Latched (f (at! s.sdi n)) := by
  simp only [latchSdi, beq_iff_eq, hst, hstop, Bool.false_eq_true, if_false, apply_ite State.apartFromEvents, raise_apartFromEvents,
    countRepeat_apartFromEvents, countDrop_apartFromEvents, ite_self]
  exact ⟨_, rfl, rfl, rfl, rfl, rfl, rfl, rfl, rfl, rfl, rfl⟩

theorem Sdi.nextFrame_eq (o : Sdi) : o.nextFrame = if o.st = .running then wrap 32 (o.oframe + 1) else 0 := by
  simp only [Sdi.nextFrame, beq_iff_eq]

/-! ### An underrun (R268) -/

theorem exec_sdiUnderrun {s : State} (n : Nat) (h : s.live = true) : exec (.sdiUnderrun n) s = .next (doSdiUnderrun n s) :=
  whenLive_live _ h

theorem doSdiUnderrun_idle {s : State} {n : Nat} (h : (at! s.sdi n).st ≠ .running ∨ (at! s.sdi n).black = true) : doSdiUnderrun n s = s :=
  if_pos (by simpa using h)

/-- The output after an underrun: the rest of its frame is black. -/
def Sdi.blacked (o : Sdi) : Sdi := { o with black := true, counts := { o.counts with underruns := wrap 32 (o.counts.underruns + 1) } }

theorem doSdiUnderrun_blacks {s : State} {n : Nat} (hst : (at! s.sdi n).st = .running) (hblack : (at! s.sdi n).black = false) :
    (doSdiUnderrun n s).apartFromEvents = (s.takeFree.2.setSdi n Sdi.blacked).apartFromEvents := by
  have hruns : ¬((at! s.sdi n).st != .running || (at! s.sdi n).black) = true := by simp [hst, hblack]
  simp only [doSdiUnderrun, if_neg hruns, raise_apartFromEvents]
  rfl

/-! ### The OUTPUT commands (R267, R275) -/

section
variable {s : State} {d : Nat} {c : DrawerCmd} (hn : c.w 0 ≤ 3)
include hn

/-- The one field that OUTPUT commands check is the output's number. -/
theorem sdi_field : [(decide (3 < c.w 0), 0)].find? (·.1) = none := by
  simp [hn]

/-- OUTPUT.START while no active plan drives the output. -/
theorem exec_outputStart_unplanned (h : s.accepted d 0x0701 c = true) (hz : c.endsAt 4 = true)
    (hp : ∀ p ∈ s.activePlans, (p.sdi.getD (c.w 0) default).mode = 0) : exec (.outputStart d) s = .next (fail d Status.notPermitted s) := by
  have hfind : s.activePlans.find? (fun p => (p.sdi.getD (c.w 0) default).mode != 0) = none :=
    List.find?_eq_none.mpr fun p hmem => by simp only [hp p hmem, bne_self_eq_false, Bool.false_eq_true, not_false_eq_true]
  refine (whenLive_checked h hz (sdi_field hn) _).trans ?_
  simp only [hfind]

/-- OUTPUT.START with the entry of an active plan: an output starts, or starts again after the stop for which it waits, or runs already. -/
theorem exec_outputStart_planned {p : Plan} (h : s.accepted d 0x0701 c = true) (hz : c.endsAt 4 = true)
    (hp : s.activePlans.find? (fun p => (p.sdi.getD (c.w 0) default).mode != 0) = some p) :
    exec (.outputStart d) s = .next (done d [] (
      if (at! s.sdi (c.w 0)).st = .stopped then s.setSdi (c.w 0) fun o => { o with
        st := .starting, entry := p.sdi.getD (c.w 0) default, tcOffset := o.tcNext.getD (p.sdi.getD (c.w 0) default).tcOffset, tcNext := none
        bufs := o.bufs.restart, stopping := false, restart := none }
      else if (at! s.sdi (c.w 0)).stopping = true then s.setSdi (c.w 0) fun o => { o with restart := some (p.sdi.getD (c.w 0) default) }
      else s)) := by
  refine (whenLive_checked h hz (sdi_field hn) _).trans ?_
  simp only [hp, beq_iff_eq]

theorem exec_outputStop (h : s.accepted d 0x0702 c = true) (hz : c.endsAt 4 = true) :
    exec (.outputStop d) s = .next (done d [] (s.setSdi (c.w 0) fun o =>
      if o.st = .stopped then o else { o with stopping := true, restart := none })) := by
  refine (whenLive_checked h hz (sdi_field hn) _).trans ?_
  simp only [beq_iff_eq]

theorem exec_outputSetTimecode (h : s.accepted d 0x0703 c = true) (hz : c.endsAt 8 = true) :
    exec (.outputSetTimecode d) s = .next (done d [] (s.setSdi (c.w 0) fun o => { o with tcNext := some (toInt 32 (c.w 4)) })) :=
  whenLive_checked h hz (sdi_field hn) fun c s => done d [] (s.setSdi (c.w 0) fun o => { o with tcNext := some (toInt 32 (c.w 4)) })

theorem exec_outputGetStatus (h : s.accepted d 0x0704 c = true) (hz : c.endsAt 4 = true) :
    exec (.outputGetStatus d) s = .next (done d (le 4 (b2n ((at! s.sdi (c.w 0)).st == .running)) ++ le 4 (at! s.sdi (c.w 0)).oframe ++
      le 4 (b2n (!s.time.synced)) ++ le 4 (at! s.sdi (c.w 0)).counts.repeats ++ le 4 (at! s.sdi (c.w 0)).counts.drops ++
      le 4 (at! s.sdi (c.w 0)).counts.underruns) s) :=
  whenLive_checked h hz (sdi_field hn) _

end

/-! ### The statement -/

/-- Settles O43: what a latch and an underrun make of the output, by its state; then each command by what it runs to. -/
theorem sdiOutputs : Obligations.SdiOutputs := by
  refine ⟨⟨fun s n hlive hst => ?stopped, fun s n hlive _ hst hstop hnone => ?stops, ?startsAgain, ?latches, fun s n hlive hidle => ?idle, ?underrun⟩,
    fun s d c hn => ⟨fun h hz => ⟨exec_outputStart_unplanned hn h hz, fun p hp => ?start⟩, exec_outputStop hn, exec_outputSetTimecode hn,
      exec_outputGetStatus hn⟩⟩
  case stopped => rw [exec_latch _ hlive, doLatch, latchSdi_stopped hst]
  case stops => rw [exec_latch _ hlive, doLatch, latchSdi_stops hst hstop hnone]; rfl
  case startsAgain =>
    intro s n e hlive hlen hst hstop he
    obtain ⟨hsdi, hothers, hframe⟩ := State.sdi_of_apartFromEvents (latchSdi_startsAgain hst hstop he)
    have hnew := congrArg (at! · n) hsdi |>.trans (State.setSdi_sdi_same s n _ hlen)
    refine ⟨_, exec_latch _ hlive, ?_⟩
    simp only [doLatch, hnew]
    exact ⟨rfl, rfl, rfl, rfl, rfl, hothers, hframe⟩
  case latches =>
    intro s n hlive hlen hst hstop
    obtain ⟨f, hrun, hlatched⟩ := latchSdi_latches hst hstop
    obtain ⟨hsdi, hothers, hframe⟩ := State.sdi_of_apartFromEvents hrun
    have hnew := congrArg (at! · n) hsdi |>.trans (State.setSdi_sdi_same s n f hlen)
    rw [← hnew] at hlatched
    obtain ⟨hrunning, hoframe, hbufs, hshown, hrep, hblack, hstep, htc, hrepeats⟩ := hlatched
    exact ⟨_, exec_latch _ hlive, hrunning, hoframe.trans (Sdi.nextFrame_eq _), hbufs, hshown, hrep, hblack, hstep, htc, hrepeats, hothers, hframe⟩
  case idle => rw [exec_sdiUnderrun n hlive, doSdiUnderrun_idle hidle]
  case underrun =>
    intro s n hlive hlen hst hblack
    have hrun := doSdiUnderrun_blacks hst hblack
    obtain ⟨hsdi, hothers, hframe⟩ := State.sdi_of_apartFromEvents hrun
    have hnew := congrArg (at! · n) hsdi |>.trans (State.setSdi_sdi_same s.takeFree.2 n _ hlen)
    have hsys : (doSdiUnderrun n s).sys = s.takeFree.2.sys := congrArg (·.sys) hrun
    refine ⟨_, exec_sdiUnderrun n hlive, ?_⟩
    rw [hnew, hsys]
    exact ⟨rfl, rfl, hothers, hframe⟩
  case start =>
    rw [exec_outputStart_planned hn h hz hp]
    refine ⟨fun hst => ?_, fun hst hstop => ?_, fun hst hstop => ?_⟩
    · rw [if_pos hst]
    · rw [if_neg hst, if_pos hstop]
    · rw [if_neg hst, if_neg (Bool.eq_false_iff.mp hstop)]

end Sys2Proof.Machine
end

section
/-! SUPPORT. One display head, the display pair, and what their steps leave alone (09_outputs_and_display.md R269 to R274). -/

namespace Sys2Proof.Machine

open Sys2Proof

theorem at!_map {α : Type} [Inhabited α] {l : List α} {i : Nat} (f : α → α) (h : i < l.length) : at! (l.map f) i = f (at! l i) := by
  simp [at!, List.getD_eq_getElem?_getD, h]

/-- Changes of an entry that agree on what it holds are one. -/
theorem upd_congr {α : Type} [Inhabited α] {l : List α} {i : Nat} {f g : α → α} (hi : i < l.length) (h : f (at! l i) = g (at! l i)) :
    upd l i f = upd l i g := by
  have hget : at! l i = l[i] := by simp [at!, List.getD_eq_getElem?_getD, hi]
  refine List.ext_getElem? fun k => ?_
  rw [upd, upd, List.getElem?_modify, List.getElem?_modify]
  by_cases hk : i = k
  · subst hk
    simp only [List.getElem?_eq_getElem hi, ← hget, if_true, Option.map_eq_map, Option.map_some, h]
  · simp only [hk, if_false]

/-- A change of both entries of a table of two. -/
theorem at!_upd_pair {α : Type} [Inhabited α] {l : List α} (f g : α → α) (hlen : l.length = 2) :
    at! (upd (upd l 0 f) 1 g) 0 = f (at! l 0) ∧ at! (upd (upd l 0 f) 1 g) 1 = g (at! l 1) := by
  have h0 : 0 < l.length := by omega
  have h1 : 1 < (upd l 0 f).length := by
    rw [upd_length]
    omega
  rw [at!_upd_other _ _ Nat.zero_ne_one, at!_upd_same f h0, at!_upd_same g h1, at!_upd_other _ _ Nat.one_ne_zero]
  exact ⟨rfl, rfl⟩

/-! ### Heads -/

theorem State.head_setHead_same {s : State} {h : Nat} (f : Head → Head) (hh : h < s.disp.heads.length) : (s.setHead h f).head h = f (s.head h) :=
  at!_upd_same f hh

theorem State.head_setHead_other (s : State) {h k : Nat} (f : Head → Head) (hk : k ≠ h) : (s.setHead h f).head k = s.head k :=
  at!_upd_other s.disp.heads f hk

theorem State.setHead_congr {s : State} {h : Nat} {f g : Head → Head} (hh : h < s.disp.heads.length) (hfg : f (s.head h) = g (s.head h)) :
    s.setHead h f = s.setHead h g := by
  rw [State.setHead, State.setHead, upd_congr hh hfg]

theorem State.setHead_eq_self {s : State} {h : Nat} {f : Head → Head} (hh : h < s.disp.heads.length) (hf : f (s.head h) = s.head h) :
    s.setHead h f = s := by
  rw [State.setHead_congr (g := id) hh hf, State.setHead, upd, List.modify_id]

/-- A change of both heads. -/
theorem State.head_setHead_pair {s : State} (f g : Head → Head) (hlen : s.disp.heads.length = 2) :
    ((s.setHead 0 f).setHead 1 g).head 0 = f (s.head 0) ∧ ((s.setHead 0 f).setHead 1 g).head 1 = g (s.head 1) :=
  at!_upd_pair f g hlen

/-! ### Frames -/

/-- A step that but for events changes the display pair leaves every other field. -/
theorem State.disp_of_apartFromEvents {s t : State} {p : Display} (h : t.apartFromEvents = { s with disp := p }.apartFromEvents) :
    t.disp = p ∧ t = { s with disp := t.disp, ev := t.ev, hostMem := t.hostMem } := by
  have hdisp : t.disp = p := congrArg (·.disp) h
  refine ⟨hdisp, ?_⟩
  rw [hdisp]
  exact State.eq_of_apartFromEvents h

/-- A step that but for events changes the heads leaves the rest of the pair and every other field. -/
theorem State.heads_of_apartFromEvents {s t : State} {l : List Head}
    (h : t.apartFromEvents = { s with disp := { s.disp with heads := l } }.apartFromEvents) :
    t.disp.heads = l ∧ t = { s with disp := { s.disp with heads := t.disp.heads }, ev := t.ev, hostMem := t.hostMem } := by
  have hheads : t.disp.heads = l := congrArg (·.disp.heads) h
  refine ⟨hheads, ?_⟩
  rw [hheads]
  exact State.eq_of_apartFromEvents h

/-- States that but for events differ in the display pair are one with the same pair in both. -/
theorem State.withDisp_apartFromEvents {s t : State} {p : Display} (h : t.apartFromEvents = { s with disp := p }.apartFromEvents) (q : Display) :
    { t with disp := q }.apartFromEvents = { s with disp := q }.apartFromEvents :=
  congrArg (fun u : State => { u with disp := q }) h

theorem State.head_of_apartFromEvents {s t : State} (h : t.apartFromEvents = s.apartFromEvents) (k : Nat) : t.head k = s.head k :=
  congrArg (·.head k) h

end Sys2Proof.Machine
end

section
/-! SUPPORT. The display pair's latch, underruns, events and training (09_outputs_and_display.md R258, R260, R264, R271, R273, R274). -/

namespace Sys2Proof.Machine

open Sys2Proof

/-! ### The latch (R258, R260, R264, R271) -/

theorem latchDisp_stopped {s : State} (h : s.disp.st = .stopped) : latchDisp s = s :=
  if_pos (beq_iff_eq.mpr h)

/-- In the first 100 ms of its training a pair that starts does not latch. -/
theorem latchDisp_training {s : State} (hstop : s.disp.stopping = false) (hst : s.disp.st = .starting) (htrain : s.disp.training = true)
    (hnow : s.now < s.disp.trainStart + ms 100) : latchDisp s = s := by
  simp [latchDisp, hst, hstop, htrain, hnow]

/-- A head of a pair that has stopped. -/
def Head.dark (h : Head) : Head :=
  { h with up := false, rejoin := false, retrain := false, shown := none, border := false, underrun := false, spoiled := [] }

theorem latchDisp_stops {s : State} (hst : s.disp.st ≠ .stopped) (hstop : s.disp.stopping = true) (hnone : s.disp.restart = none) :
    latchDisp s = { s with disp := { s.disp with
      st := .stopped, stopping := false, training := false, step := 0, heads := s.disp.heads.map Head.dark } } := by
  simp only [latchDisp, beq_iff_eq, hst, hstop, hnone, if_true, if_false]
  rfl

theorem trainFails_apartFromEvents (s : State) :
    (trainFails s).apartFromEvents = { s with disp := { s.disp with training := false } }.apartFromEvents :=
  foldl_apartFromEvents (fun _ _ => ite_apartFromEvents (raise_apartFromEvents ..)) _ _

/-- After 100 ms of training, or without any, the pair trains no longer. -/
theorem endTraining_apartFromEvents (s : State) : (if s.disp.training = true then trainFails s else s).apartFromEvents =
    { s with disp := { s.disp with training := false } }.apartFromEvents := by
  split
  case isTrue => exact trainFails_apartFromEvents s
  case isFalse htrain => rw [← Bool.eq_false_iff.mpr htrain]

/-- A head in the frame that begins with a latch. -/
def Head.latched (h : Head) : Head :=
  { h with
    bufs := h.bufs.latch.1, shown := h.bufs.latch.1.view, border := false, underrun := false, spoiled := [], up := h.up || h.rejoin
    rejoin := false }

/-- What the pair is in the frame that begins with a latch, for the pair `p` before it (R258, R260, R274). -/
structure Display.Latched (p q : Display) : Prop where
  st : q.st = .running
  dframe : q.dframe = p.nextFrame
  heads : q.heads = p.heads.map Head.latched
  isRepeat : q.isRepeat = (p.heads.all (·.bufs.pend.isNone) && p.heads.any (·.bufs.scanned.isSome))
  lineMatch : q.lineMatch = p.lineNext.getD p.lineMatch

theorem latchDisp_latches {s : State} (hst : s.disp.st ≠ .stopped) (hstop : s.disp.stopping = false)
    (htrain : s.disp.training = false ∨ s.disp.trainStart + ms 100 ≤ s.now) :
    ∃ q, (latchDisp s).apartFromEvents = { s with disp := q }.apartFromEvents ∧ s.disp.Latched q := by
  have hend := endTraining_apartFromEvents s
  have hheads : (if s.disp.training = true then trainFails s else s).disp.heads = s.disp.heads := congrArg (·.disp.heads) hend
  have hready : ¬(s.disp.st == .starting && s.disp.training && decide (s.now < s.disp.trainStart + ms 100)) = true := by
    rcases htrain with h | h
    · simp [h]
    · simp [Nat.not_lt.mpr h]
  have hjoin : ∀ (l : List Nat) (u : State), (l.foldl (fun u h => raise 162 h [s.disp.nextFrame] none u) u).apartFromEvents = u.apartFromEvents :=
    foldl_apartFromEvents fun _ _ => raise_apartFromEvents ..
  simp only [latchDisp, beq_iff_eq, hst, hstop, if_neg hready, Bool.false_eq_true, if_false, raiseDisp_apartFromEvents,
    apply_ite State.apartFromEvents, raise_apartFromEvents, countRepeat_apartFromEvents, countDrop_apartFromEvents, ite_self, hjoin, hheads]
  refine ⟨_, State.withDisp_apartFromEvents hend _, ?_⟩
  exact ⟨rfl, rfl, rfl, rfl, rfl⟩

theorem Display.nextFrame_eq (p : Display) : p.nextFrame = if p.st = .running then wrap 32 (p.dframe + 1) else 0 := by
  simp only [Display.nextFrame, beq_iff_eq]

/-! ### An underrun (R273) -/

theorem exec_dispUnderrun {s : State} (h : Nat) (hlive : s.live = true) : exec (.dispUnderrun h) s = .next (doDispUnderrun h s) :=
  whenLive_live _ hlive

theorem doDispUnderrun_idle {s : State} {h : Nat} (hidle : s.disp.st ≠ .running ∨ (s.head h).border = true) : doDispUnderrun h s = s :=
  if_pos (by
    rcases hidle with hst | hborder
    · simp [hst]
    · simp [hborder])

/-- A head after an underrun: the rest of its frame is the border colour. -/
def Head.bordered (h : Head) : Head := { h with border := true, underrun := true }

theorem doDispUnderrun_borders {s : State} {h : Nat} (hst : s.disp.st = .running) (hh : h ≤ 1) (hborder : (s.head h).border = false) :
    (doDispUnderrun h s).apartFromEvents = { s.takeFree.2 with disp := { s.disp with
      heads := upd s.disp.heads h Head.bordered
      counts := { s.disp.counts with underruns := wrap 32 (s.disp.counts.underruns + 1) } } }.apartFromEvents := by
  have hruns : ¬(s.disp.st != .running || (s.head h).border || decide (1 < h)) = true := by simp [hst, hborder, hh]
  simp only [doDispUnderrun, if_neg hruns, raise_apartFromEvents]
  rfl

/-! ### Events of a running pair (R274) -/

theorem exec_lineMatch {s : State} (h : s.live = true) : exec .lineMatch s = .next (doLineMatch s) :=
  whenLive_live _ h

theorem exec_frameDone {s : State} (h : s.live = true) : exec .frameDone s = .next (doFrameDone s) :=
  whenLive_live _ h

theorem doLineMatch_idle {s : State} (h : s.disp.st ≠ .running) : doLineMatch s = s :=
  if_neg (mt beq_iff_eq.mp h)

theorem doFrameDone_idle {s : State} (h : s.disp.st ≠ .running) : doFrameDone s = s :=
  if_neg (mt beq_iff_eq.mp h)

theorem doLineMatch_running {s : State} (h : s.disp.st = .running) : doLineMatch s = raiseDisp 1 159 [s.disp.dframe] s :=
  if_pos (beq_iff_eq.mpr h)

theorem doFrameDone_running {s : State} (h : s.disp.st = .running) :
    doFrameDone s = raiseDisp 2 160 [s.disp.dframe, if (s.head 0).shown.isSome then (s.head 0).frame else (s.head 1).frame,
      b2n s.disp.isRepeat, b2n (s.head 0).underrun + 2 * b2n (s.head 1).underrun] s :=
  if_pos (beq_iff_eq.mpr h)

theorem raiseDisp_masked {b : Nat} {s : State} (n : Nat) (args : List Nat) (h : bit s.disp.mask b = true) : raiseDisp b n args s = s :=
  if_pos h

theorem raiseDisp_unmasked {b : Nat} {s : State} (n : Nat) (args : List Nat) (h : bit s.disp.mask b = false) :
    raiseDisp b n args s = raise n 0 args none s :=
  if_neg (Bool.eq_false_iff.mp h)

/-! ### Hot plug (R271) -/

theorem exec_hpdDeassert {s : State} (h : Nat) (hlive : s.live = true) : exec (.hpdDeassert h) s = .next (doHpdDeassert h s) :=
  whenLive_live _ hlive

theorem exec_hpdAssert {s : State} (h : Nat) (b : Bytes) (hlive : s.live = true) : exec (.hpdAssert h b) s = .next (doHpdAssert h b s) :=
  whenLive_live _ hlive

theorem exec_hpdIrq {s : State} (h : Nat) (b : Bool) (hlive : s.live = true) : exec (.hpdIrq h b) s = .next (doHpdIrq h b s) :=
  whenLive_live _ hlive

/-- A head without a sink. -/
def Head.unplugged (h : Head) : Head := { h with hpd := false, up := false, rejoin := false, retrain := false, edid := [] }

theorem doHpdDeassert_unplugs (h : Nat) (s : State) : (doHpdDeassert h s).apartFromEvents = (s.setHead h Head.unplugged).apartFromEvents :=
  ite_apartFromEvents (raise_apartFromEvents ..)

theorem doHpdIrq_unplugged {s : State} {h : Nat} (b : Bool) (hhpd : (s.head h).hpd = false) : doHpdIrq h b s = s := by
  simp only [doHpdIrq, hhpd, Bool.not_false, if_true]

/-- With a sink, EVT.DISP.HPD_IRQ is raised, and a head whose link is lost retrains. -/
theorem doHpdIrq_plugged {s : State} {h : Nat} (b : Bool) (hhpd : (s.head h).hpd = true) :
    doHpdIrq h b s = if (b || !(s.head h).up) = true then raise 165 h [s.disp.dframe] none s
      else (raise 165 h [s.disp.dframe] none s).setHead h fun x => { x with up := false, retrain := true } := by
  simp only [doHpdIrq, hhpd, Bool.not_true, Bool.false_eq_true, if_false]

/-! ### The end of training (R271) -/

theorem exec_displayTrainingEnd {s : State} (a b : Bool) (h : s.live = true) :
    exec (.displayTrainingEnd a b) s = .next (doDisplayTrainingEnd a b s) :=
  whenLive_live _ h

theorem doDisplayTrainingEnd_stopped {s : State} (a b : Bool) (h : s.disp.st = .stopped) : doDisplayTrainingEnd a b s = s :=
  if_pos (beq_iff_eq.mpr h)

/-- A head after the training that DISPLAY.START began: it is up when it has a sink and training passed. -/
def Head.trained (ok : Bool) (h : Head) : Head := { h with up := h.hpd && ok }

/-- The pair when that training has ended on both heads. -/
def State.trained (s : State) (a b : Bool) : State := (s.setHead 0 (Head.trained a)).setHead 1 (Head.trained b)

theorem doDisplayTrainingEnd_training {s : State} (a b : Bool) (hst : s.disp.st ≠ .stopped) (htrain : s.disp.training = true) :
    doDisplayTrainingEnd a b s = trainFails (s.trained a b) := by
  simp only [doDisplayTrainingEnd, beq_iff_eq, hst, htrain, if_true, if_false]
  rfl

/-- The end of a running pair's training on one head, which rejoins when it passed. -/
def retrainEnd (h : Nat) (ok : Bool) (s : State) : State :=
  if !(s.head h).retrain then s
  else if ok then s.setHead h fun x => { x with retrain := false, rejoin := ok }
  else raise 164 h [s.disp.dframe] none (s.setHead h fun x => { x with retrain := false, rejoin := ok })

theorem doDisplayTrainingEnd_retraining {s : State} (a b : Bool) (hst : s.disp.st ≠ .stopped) (htrain : s.disp.training = false) :
    doDisplayTrainingEnd a b s = retrainEnd 1 b (retrainEnd 0 a s) := by
  simp only [doDisplayTrainingEnd, beq_iff_eq, hst, htrain, Bool.false_eq_true, if_false]
  rfl

/-- A head after the end of its training while the pair runs; one that does not retrain stays as it is. -/
def Head.retrained (ok : Bool) (h : Head) : Head := if h.retrain then { h with retrain := false, rejoin := ok } else h

theorem retrainEnd_apartFromEvents {s : State} {h : Nat} (ok : Bool) (hh : h < s.disp.heads.length) :
    (retrainEnd h ok s).apartFromEvents = (s.setHead h (Head.retrained ok)).apartFromEvents := by
  cases hre : (s.head h).retrain with
  | false =>
    have hsame : Head.retrained ok (s.head h) = s.head h := by simp only [Head.retrained, hre, Bool.false_eq_true, if_false]
    simp only [retrainEnd, hre, Bool.not_false, if_true, State.setHead_eq_self hh hsame]
  | true =>
    have hnew : s.setHead h (fun x => { x with retrain := false, rejoin := ok }) = s.setHead h (Head.retrained ok) :=
      State.setHead_congr hh (by simp only [Head.retrained, hre, if_true])
    simp only [retrainEnd, hre, hnew, Bool.not_true, Bool.false_eq_true, if_false, apply_ite State.apartFromEvents, raise_apartFromEvents, ite_self]

/-- The trainings on the two heads end one after the other. -/
theorem retrainEnd_pair {s : State} (a b : Bool) (hlen : s.disp.heads.length = 2) :
    (retrainEnd 1 b (retrainEnd 0 a s)).apartFromEvents =
      ((s.setHead 0 (Head.retrained a)).setHead 1 (Head.retrained b)).apartFromEvents := by
  have hfirst : (retrainEnd 0 a s).apartFromEvents = (s.setHead 0 (Head.retrained a)).apartFromEvents := retrainEnd_apartFromEvents a (by omega)
  have hheads : (retrainEnd 0 a s).disp.heads = upd s.disp.heads 0 (Head.retrained a) := congrArg (·.disp.heads) hfirst
  have hlen' : 1 < (retrainEnd 0 a s).disp.heads.length := by
    rw [hheads, upd_length]
    omega
  exact (retrainEnd_apartFromEvents b hlen').trans (congrArg (·.setHead 1 (Head.retrained b)) hfirst)

theorem Head.retrained_retrains {h : Head} (ok : Bool) (hre : h.retrain = true) :
    (h.retrained ok).rejoin = ok ∧ (h.retrained ok).retrain = false := by
  rw [Head.retrained, if_pos hre]
  exact ⟨rfl, rfl⟩

theorem Head.retrained_idle {h : Head} (ok : Bool) (hre : h.retrain = false) : h.retrained ok = h :=
  if_neg (Bool.eq_false_iff.mp hre)

/-! ### The statement -/

/-- Settles O44: what a latch, an underrun and the pair's events make of the pair, by its state; then hot plug and the end of training by what
they make of the heads. -/
theorem displayLatchesAndHeads : Obligations.DisplayLatchesAndHeads := by
  refine ⟨⟨?waits, ?stops, ?latches, fun s h hlive hidle => ?noUnderrun, ?underrun, fun s hlive => ⟨fun hst => ⟨?noLine, ?noDone⟩,
    fun hst => ⟨fun hm => ?lineMasked, fun hm => ?doneMasked, fun hm => ?line, fun hm => ?done⟩⟩⟩,
    ?deassert, fun s h b hlive => exec_hpdAssert h b hlive, fun s h b hlive => ⟨fun hhpd => ?noSink, fun hhpd hok => ?linkOk, fun hhpd hb hup => ?linkLost⟩,
    fun s a b hlive hst => ?notTraining, ?trains, ?retrains⟩
  case waits =>
    rintro s hlive (hst | ⟨hstop, hst, htrain, hnow⟩)
    · rw [exec_latch _ hlive, doLatch, latchDisp_stopped hst]
    · rw [exec_latch _ hlive, doLatch, latchDisp_training hstop hst htrain hnow]
  case stops =>
    intro s hlive hst hstop hnone
    refine ⟨_, (exec_latch _ hlive).trans (congrArg _ (latchDisp_stops hst hstop hnone)), rfl, rfl, fun h hh => ?_, rfl⟩
    obtain ⟨x, _, rfl⟩ := List.mem_map.mp hh
    exact ⟨rfl, rfl⟩
  case latches =>
    intro s hlive hst hstop htrain
    obtain ⟨q, hrun, hrunning, hdframe, hheads, hrep, hline⟩ := latchDisp_latches hst hstop htrain
    obtain ⟨hdisp, hframe⟩ := State.disp_of_apartFromEvents hrun
    have hhead : ∀ h < s.disp.heads.length, (latchDisp s).head h = (s.head h).latched := fun h hh => by
      rw [State.head, hdisp, hheads, at!_map _ hh, State.head]
    refine ⟨_, exec_latch _ hlive, ?_⟩
    rw [← hdisp] at hrunning hdframe hrep hline
    refine ⟨hrunning, hdframe.trans (Display.nextFrame_eq _), fun h hh => ?heads, hrep, hline, hframe⟩
    case heads =>
      rw [doLatch, hhead h hh]
      exact ⟨rfl, rfl, rfl, rfl⟩
  case noUnderrun => rw [exec_dispUnderrun h hlive, doDispUnderrun_idle hidle]
  case underrun =>
    intro s h hlive hst hh hlen hborder
    have hrun := doDispUnderrun_borders hst hh hborder
    obtain ⟨hdisp, hframe⟩ := State.disp_of_apartFromEvents hrun
    have hsys : (doDispUnderrun h s).sys = s.takeFree.2.sys := congrArg (·.sys) hrun
    have hnew : (doDispUnderrun h s).head h = (s.head h).bordered := by
      rw [State.head, hdisp, at!_upd_same _ (by omega), State.head]
    have hothers : ∀ k, k ≠ h → (doDispUnderrun h s).head k = s.head k := fun k hk => by
      rw [State.head, hdisp, at!_upd_other _ _ hk, State.head]
    refine ⟨_, exec_dispUnderrun h hlive, ?_⟩
    rw [hnew, hsys]
    exact ⟨rfl, hothers, by rw [hdisp], hframe⟩
  case noLine => rw [exec_lineMatch hlive, doLineMatch_idle hst]
  case noDone => rw [exec_frameDone hlive, doFrameDone_idle hst]
  case lineMasked => rw [exec_lineMatch hlive, doLineMatch_running hst, raiseDisp_masked _ _ hm]
  case doneMasked => rw [exec_frameDone hlive, doFrameDone_running hst, raiseDisp_masked _ _ hm]
  case line => rw [exec_lineMatch hlive, doLineMatch_running hst, raiseDisp_unmasked _ _ hm]
  case done => rw [exec_frameDone hlive, doFrameDone_running hst, raiseDisp_unmasked _ _ hm]
  case deassert =>
    intro s h hlive hh
    have hrun := doHpdDeassert_unplugs h s
    obtain ⟨-, hframe⟩ := State.heads_of_apartFromEvents hrun
    have hnew : (doHpdDeassert h s).head h = (s.head h).unplugged := (State.head_of_apartFromEvents hrun h).trans (State.head_setHead_same _ hh)
    refine ⟨_, exec_hpdDeassert h hlive, ?_⟩
    rw [hnew]
    exact ⟨rfl, rfl, rfl, rfl, rfl, fun k hk => (State.head_of_apartFromEvents hrun k).trans (State.head_setHead_other s _ hk), hframe⟩
  case noSink => rw [exec_hpdIrq h b hlive, doHpdIrq_unplugged b hhpd]
  case linkOk => rw [exec_hpdIrq h b hlive, doHpdIrq_plugged b hhpd, if_pos (by simpa using hok)]
  case linkLost => rw [exec_hpdIrq h b hlive, doHpdIrq_plugged b hhpd, if_neg (by simp [hb, hup])]
  case notTraining => rw [exec_displayTrainingEnd a b hlive, doDisplayTrainingEnd_stopped a b hst]
  case trains =>
    intro s a b hlive hst htrain hlen
    have hrun := trainFails_apartFromEvents (s.trained a b)
    obtain ⟨hdisp, hframe⟩ := State.disp_of_apartFromEvents hrun
    obtain ⟨h0, h1⟩ := State.head_setHead_pair (Head.trained a) (Head.trained b) hlen
    refine ⟨_, (exec_displayTrainingEnd a b hlive).trans (congrArg _ (doDisplayTrainingEnd_training a b hst htrain)), ?_⟩
    rw [State.head_of_apartFromEvents hrun, State.head_of_apartFromEvents hrun]
    exact ⟨congrArg (·.up) h0, congrArg (·.up) h1, by rw [hdisp], hframe⟩
  case retrains =>
    intro s a b hlive hst htrain hlen
    have hrun := retrainEnd_pair a b hlen
    obtain ⟨-, hframe⟩ := State.heads_of_apartFromEvents hrun
    obtain ⟨h0, h1⟩ := State.head_setHead_pair (Head.retrained a) (Head.retrained b) hlen
    refine ⟨_, (exec_displayTrainingEnd a b hlive).trans (congrArg _ (doDisplayTrainingEnd_retraining a b hst htrain)), ?_⟩
    rw [State.head_of_apartFromEvents hrun, State.head_of_apartFromEvents hrun, h0, h1]
    exact ⟨Head.retrained_retrains a, Head.retrained_idle a, Head.retrained_retrains b, Head.retrained_idle b, hframe⟩

end Sys2Proof.Machine
end

section
/-! SUPPORT. The DISPLAY commands (09_outputs_and_display.md R271, R272, R274): what each runs to. -/

namespace Sys2Proof.Machine

open Sys2Proof

/-- A field that fails check 6 of R547 is named, the first of several. -/
theorem checked_bad {d n : Nat} {c : DrawerCmd} {l : List (Bool × Nat)} {x : Bool × Nat} {s : State} (f : State → State)
    (hl : l.find? (·.1) = some x) : checked d c n l s f = invalid d x.2 s := by
  simp only [checked, firstBad, hl]

section
variable {s : State} {d : Nat} {c : DrawerCmd}

/-! ### START and STOP (R271) -/

theorem exec_displayStart_unplanned (h : s.accepted d 0x0801 c = true) (hz : c.endsAt 0 = true)
    (hp : ∀ p ∈ s.activePlans, p.display.enable = false) : exec (.displayStart d) s = .next (fail d Status.notPermitted s) := by
  have hfind : s.activePlans.find? (·.display.enable) = none :=
    List.find?_eq_none.mpr fun p hmem => Bool.eq_false_iff.mp (hp p hmem)
  refine (whenLive_checked h hz rfl _).trans ?_
  simp only [hfind]

/-- The pair with training begun, for the entry `e`. -/
def Display.begin (e : DispEntry) (now : Nat) (p : Display) : Display :=
  { p with
    st := .starting, training := true, trainStart := now, entry := e, lineMatch := e.lineMatch, stopping := false, restart := none
    heads := p.heads.map fun h => { h with bufs := h.bufs.restart, up := false, rejoin := false, retrain := false } }

/-- DISPLAY.START with the display of an active plan: the pair starts, or starts again after the stop for which it waits, or runs already. -/
theorem exec_displayStart_planned {p : Plan} (h : s.accepted d 0x0801 c = true) (hz : c.endsAt 0 = true)
    (hp : s.activePlans.find? (·.display.enable) = some p) :
    exec (.displayStart d) s = .next (
      if s.disp.st = .stopped then done d [] { s with disp := s.disp.begin p.display s.now }
      else if s.disp.stopping = true then done d [] { s with disp := { s.disp with restart := some p.display } }
      else done d [] s) := by
  refine (whenLive_checked h hz rfl _).trans ?_
  simp only [hp, beq_iff_eq]
  rfl

theorem exec_displayStop (h : s.accepted d 0x0802 c = true) (hz : c.endsAt 0 = true) :
    exec (.displayStop d) s = .next (done d []
      (if s.disp.st = .stopped then s else { s with disp := { s.disp with stopping := true, restart := none } })) := by
  refine (whenLive_checked h hz rfl _).trans ?_
  simp only [beq_iff_eq]

/-! ### WRITE_BUFFER (R272) -/

/-- A head with a buffer written whole by the host. -/
def Head.write (b : Nat) (px : List Nat) (x : Head) : Head :=
  { x with bufs := { x.bufs with bufs := x.bufs.bufs.set b (some { planes := [px] }), written := x.bufs.written.set b true } }

theorem exec_displayWriteBuffer (h : s.accepted d 0x0803 c = true) (hz : c.endsAt 24 = true) (hhead : c.w 0 ≤ 1) (hbuf : c.w 4 ≤ 2)
    (hlen : 4 * (s.dispEntry.hActive * s.dispEntry.vActive) ≤ c.q 16) :
    exec (.displayWriteBuffer d) s = .next (
      if (dispBusy s || !s.covered (c.q 8) (c.q 16) false) = true then fail d Status.notPermitted s
      else if (s.head (c.w 0)).inUse (c.w 4) = true then fail d Status.busy s
      else done d [] (s.setHead (c.w 0) (Head.write (c.w 4) ((List.range (s.dispEntry.hActive * s.dispEntry.vActive)).map fun i =>
        ofLe (s.hostRead (c.q 8 + 4 * i) 4) % 2 ^ 30)))) := by
  refine (whenLive_live _ (accepted_live h)).trans (congrArg _ ((drawerCmd_accepted _ h).trans (checked_none _ hz ?fields)))
  case fields => simp [hhead, hbuf, hlen]

/-! ### COMMIT (R257, R272) -/

/-- A head that has taken the frame `f` in buffer `k` as its pending one. -/
def Head.commit (k : Nat) (f : BufFrame) (x : Head) : Head := { x with bufs := (x.bufs.commit k f).1 }

/-- The pair after a commit on both heads; `drops` of its frames were dropped. -/
def Display.commit (k : Nat) (f g : BufFrame) (drops : Nat) (p : Display) : Display :=
  { p with heads := upd (upd p.heads 0 (Head.commit k f)) 1 (Head.commit k g), counts := { p.counts with drops := drops } }

theorem commitHeads_pair (k : Nat) (f g : BufFrame) : ∃ f' g' drops,
    (commitHeads [(0, k, f), (1, k, g)] s).apartFromEvents = { s with disp := s.disp.commit k f' g' drops }.apartFromEvents := by
  rw [commitHeads, apply_ite State.apartFromEvents, countDrop_apartFromEvents, ite_self]
  exact ⟨_, _, _, rfl⟩

/-- On both heads the buffer is pending and the scanned one stays. -/
theorem Display.commit_heads {p : Display} (k : Nat) (f g : BufFrame) (drops : Nat) (hlen : p.heads.length = 2) :
    at! (p.commit k f g drops).heads 0 = (at! p.heads 0).commit k f ∧ at! (p.commit k f g drops).heads 1 = (at! p.heads 1).commit k g :=
  at!_upd_pair _ _ hlen

/-- A commit needs the display free of renditions, the buffer free on both heads, and written on both. -/
theorem exec_displayCommit (h : s.accepted d 0x0804 c = true) (hz : c.endsAt 4 = true) (hbuf : c.w 0 ≤ 2) : ∃ f g,
    exec (.displayCommit d) s = .next (
      if dispBusy s = true then fail d Status.notPermitted s
      else if ((s.head 0).inUse (c.w 0) || (s.head 1).inUse (c.w 0)) = true then fail d Status.busy s
      else if (!((s.head 0).bufs.written.getD (c.w 0) false && (s.head 1).bufs.written.getD (c.w 0) false)) = true then fail d Status.notPermitted s
      else done d (le 4 s.disp.nextFrame) (commitHeads [(0, c.w 0, f), (1, c.w 0, g)] s)) :=
  ⟨_, _, whenLive_checked h hz (by simp [hbuf]) _⟩

/-! ### SET_LINE_MATCH, SET_EVENTS and GET_EDID (R271, R274) -/

theorem exec_displaySetLineMatch (h : s.accepted d 0x0805 c = true) : exec (.displaySetLineMatch d) s = .next (
    checked d c 4 [(decide (s.dispEntry.vActive ≤ c.w 0), 0)] s fun s => done d [] { s with disp := { s.disp with lineNext := some (c.w 0) } }) :=
  (whenLive_live _ (accepted_live h)).trans (congrArg _ (drawerCmd_accepted _ h))

theorem exec_displaySetEvents (h : s.accepted d 0x0806 c = true) (hz : c.endsAt 4 = true) (hmask : c.w 0 ≤ 7) :
    exec (.displaySetEvents d) s = .next (done d [] { s with disp := { s.disp with mask := c.w 0 } }) :=
  whenLive_checked h hz (by simp [hmask]) fun c s => done d [] { s with disp := { s.disp with mask := c.w 0 } }

theorem exec_displayGetEdid (h : s.accepted d 0x0807 c = true) (hz : c.endsAt 24 = true) (hhead : c.w 0 ≤ 1) :
    exec (.displayGetEdid d) s = .next (
      if (!(s.head (c.w 0)).hpd) = true then fail d Status.notPermitted s
      else withDest d (c.buf 8) (s.head (c.w 0)).edid.length s fun s' =>
        done d (le 4 (s.head (c.w 0)).edid.length) (s'.hostWrite (c.q 8) (s.head (c.w 0)).edid)) :=
  whenLive_checked h hz (by simp [hhead]) _

end

/-! ### The statement -/

/-- Settles O45: each command by what it runs to, and the buffers by whether they are in use and written. -/
theorem displayCommands : Obligations.DisplayCommands := by
  refine fun s d c => ⟨fun h hz => ⟨exec_displayStart_unplanned h hz, fun p hp hst => ?start, fun p hp hst => ?startAgain⟩,
    exec_displayStop, fun h hz hhead hbuf hlen => ⟨fun hbusy => ?writeRefused, fun hfree hc => ⟨fun huse => ?writeBusy, fun huse => ?write⟩⟩,
    fun h hz hbuf => ?commit, fun h hz => ⟨fun hline => ?line, fun hline => ?lineRefused⟩, exec_displaySetEvents,
    fun h hz hhead => ⟨fun hhpd => ?noSink, fun hhpd hc hlen => ?edid⟩⟩
  case start =>
    rw [exec_displayStart_planned h hz hp, if_pos hst]
    exact ⟨_, _, rfl, rfl, rfl, rfl, rfl, rfl, rfl⟩
  case startAgain =>
    rw [exec_displayStart_planned h hz hp, if_neg hst, apply_ite (done d [])]
  case writeRefused =>
    rw [exec_displayWriteBuffer h hz hhead hbuf hlen, if_pos (by simpa using hbusy)]
  case writeBusy =>
    rw [exec_displayWriteBuffer h hz hhead hbuf hlen, if_neg (by simp [hfree, hc]), if_pos huse]
  case write =>
    rw [exec_displayWriteBuffer h hz hhead hbuf hlen, if_neg (by simp [hfree, hc]), if_neg (Bool.eq_false_iff.mp huse)]
    rfl
  case commit =>
    obtain ⟨f, g, hrun⟩ := exec_displayCommit h hz hbuf
    rw [hrun]
    refine ⟨fun hbusy => ?busy, fun hfree huse => ?inUse, fun hfree h0 h1 => ?free⟩
    case busy => rw [if_pos hbusy]
    case inUse => rw [if_neg (Bool.eq_false_iff.mp hfree), if_pos (Bool.or_eq_true_iff.mpr huse)]
    case free =>
      rw [if_neg (Bool.eq_false_iff.mp hfree), if_neg (by rw [h0, h1]; decide)]
      refine ⟨fun hw => ?unwritten, fun hw0 hw1 hlen => ?commits⟩
      case unwritten => rw [if_pos (by simpa only [Bool.not_eq_true', Bool.and_eq_false_iff] using hw)]
      case commits =>
        obtain ⟨f', g', drops, hcommit⟩ := commitHeads_pair (s := s) (c.w 0) f g
        obtain ⟨hdisp, hframe⟩ := State.disp_of_apartFromEvents hcommit
        obtain ⟨hhead0, hhead1⟩ := Display.commit_heads (c.w 0) f' g' drops hlen
        rw [if_neg (by rw [hw0, hw1]; decide)]
        refine ⟨_, _, rfl, rfl, ?_⟩
        rw [State.head, State.head, hdisp, hhead0, hhead1, ← hdisp]
        exact ⟨rfl, rfl, rfl, hframe⟩
  case line => rw [exec_displaySetLineMatch h, checked_none _ hz (by simp [hline])]
  case lineRefused =>
    have hbad : [(decide (s.dispEntry.vActive ≤ c.w 0), 0)].find? (·.1) = some (true, 0) := by simp [hline]
    rw [exec_displaySetLineMatch h, checked_bad _ hbad]
  case noSink => rw [exec_displayGetEdid h hz hhead, hhpd]; rfl
  case edid =>
    rw [exec_displayGetEdid h hz hhead, hhpd, Bool.not_true, if_neg Bool.false_ne_true, withDest_fits _ hc hlen, State.hostWrite]

end Sys2Proof.Machine
end
